-- ==== Sys2Proof/Word.lean ====
section
/-! DEFINITION. The word types of the part: a word is 32 bits (scope, Conventions: Words and memory),
ring indexes are 16 bits, serials 24 bits, and a bus access names its bytes with four lanes. -/

namespace Sys2Proof

/-- A 32-bit word: a web, belt or command position, a setup or status word, a bus address. -/
abbrev Word := BitVec 32

/-- One byte of memory. -/
abbrev Byte := BitVec 8

/-- A free-running 16-bit ring index (R65, R201), a set number or a command's tag. -/
abbrev Index := BitVec 16

/-- A piece serial, 0 to 16,777,215 (section 2.2). -/
abbrev Serial := BitVec 24

/-- The four byte lanes of a controller access, lane 0 in bit 0 (R176, R210). -/
abbrev Lanes := BitVec 4

end Sys2Proof
end

