-- ==== Sys2Proof/Config.lean ====
section
/-! DEFINITION. What the part fixes: the capacities of its lists and counts, each with the rule that
states it, and the one value the model chooses for memory nothing has written (notes/assumptions/1.md).
The spec leaves no result of a command undefined, so this file holds no free value. -/

namespace Sys2Proof.Config

/-- R40: the sheet tracking queue never holds more than 48 records. -/
def trackCapacity : Nat := 48

/-- R66, R70: the ticket table never holds more than 16 tickets. -/
def tableCapacity : Nat := 16

/-- R90: the retired-serial list holds the 16 most recent dispositions. -/
def retiredCapacity : Nat := 16

/-- R186: the report write queue never holds more than 16 entries. -/
def queueCapacity : Nat := 16

/-- R191: at 12 entries or more the queue takes a burst. -/
def burstThreshold : Nat := 12

/-- R191: a burst ends with its fourth grant. -/
def burstLength : Nat := 4

/-- R192: a patience count stops at 8. -/
def patienceLimit : Nat := 8

/-- R200: the staging FIFO holds up to 8 records. -/
def stagingCapacity : Nat := 8

/-- R200: before start-up completes at most 7 records are held, so that LINE_STATE always has room. -/
def heldCapacity : Nat := 7

/-- R201: a record needs six free queue entries. -/
def recordWords : Nat := 6

/-- R76, R79: no set holds more than 14 sheets. -/
def setCapacity : Nat := 14

/-- R149: the exit list never holds more than 2 pieces. -/
def exitCapacity : Nat := 2

/-- R27: a dark run of 64 samples blocks the reader. -/
def blockedLength : Nat := 64

/-- R21: marks stand 12 tu apart. -/
def markPitch : Nat := 12

/-- R51: SNAP stays high for 4 ms. -/
def snapTime : Nat := 4

/-- R206: the snapshot is taken at every 10th tick. -/
def snapshotPeriod : Nat := 10

/-- R120: the ticks of grace after BELT_RUN rises. -/
def stallGrace : Nat := 500

/-- R120: the belt history holds the 100 most recent ticks. -/
def stallWindow : Nat := 100

/-- R120: the belt must travel at least 20 tu in the window. -/
def stallTravel : Int := 20

/-- R103: the runout target lies 200 tu past the tail's burst point. -/
def runoutMargin : Nat := 200

/-- DESIGN CHOICE, not the spec's (notes/assumptions/1.md; "unsafe"): what a byte of memory that
nothing has written reads as. R193 says memory holds "nothing of meaning after power is applied". -/
def unlistedByte : Byte := 0

end Sys2Proof.Config
end

