-- ==== Sys2Proof/Syntax.lean ====
section
/-! DEFINITION. The commands of the part: one constructor of Instr for each row of
spec/opcode_table.json, with the operands the row's rule needs. The spec gives the rows no bits. An
operand is what the outside world brings with the step: the new levels of an input, a bus access, a
tag, the straps. -/

namespace Sys2Proof

/-- The two strap groups, sampled at pin reset (R177). -/
structure Straps where
  /-- MEM_SIZE[2:0] -/
  memSize   : BitVec 3
  /-- SETUP_PAGE[7:0] -/
  setupPage : BitVec 8
  deriving DecidableEq, Repr

/-- A stack height reading: HEIGHT[11:0] and HEIGHT_VALID (R131). -/
structure Gauge where
  reading : BitVec 12
  valid   : Bool
  deriving DecidableEq, Repr

/-- The levels at the part's inputs (scope, Signal summary), true for high; MARK is true for dark. -/
structure Pins where
  webA       : Bool
  webB       : Bool
  beltA      : Bool
  beltB      : Bool
  mark       : Bool
  beltEdge   : Bool
  gauge      : Gauge
  rejectFull : Bool
  foldReady  : Bool
  foldDone   : Bool
  foldFault  : Bool
  exitEdge   : Bool
  webPresent : Bool
  paperLow   : Bool
  estopN     : Bool
  webBreakN  : Bool
  deriving DecidableEq, Repr

/-- The commands and events the part takes, one row of the table each. `level` is the level an input
takes with the step; `gauge` is what stands at HEIGHT and HEIGHT_VALID when the step is taken. -/
inductive Instr where
  /-- RESET_N: the straps, and the levels standing at the inputs when the part comes out of reset (R177). -/
  | pinReset (straps : Straps) (pins : Pins)
  /-- The new levels of WEB_A and WEB_B (R1, R2). -/
  | webMotionEvent (a b : Bool) (gauge : Gauge)
  /-- The new levels of BELT_A and BELT_B (R3). -/
  | beltStep (a b : Bool) (gauge : Gauge)
  /-- The new level of MARK, true for dark (R8, R20). -/
  | markEdge (dark : Bool)
  /-- BELT_EDGE rises (R55). -/
  | leadingEdge
  /-- BELT_EDGE falls (R56). -/
  | trailingEdge
  /-- The 1 ms tick (R10). -/
  | tick
  /-- One of the tick's due pulses (R110). -/
  | stepPulse
  /-- The SNAP timer expires (R51). -/
  | snapEnd
  /-- The jog timer expires, with what the height gauge reads then (R130, R131). -/
  | jogEnd (gauge : Gauge)
  /-- The drop timer expires (R133). -/
  | dropEnd
  /-- The release timer expires (R144). -/
  | releaseEnd
  /-- The fold timer expires (R148). -/
  | foldTimeout
  /-- A piece's exit timer expires (R151). -/
  | exitMissing
  /-- The status snapshot (R206). -/
  | snapshot
  /-- FOLD_DONE changes to a level; a rise completes the fold (R146). -/
  | foldDone (level : Bool)
  /-- FOLD_FAULT changes to a level; a rise is the fault (R147). -/
  | foldFault (level : Bool)
  /-- EXIT_EDGE changes to a level; a rise is an exit edge (R150). -/
  | exitEdge (level : Bool)
  /-- REJECT_FULL changes to a level (R141). -/
  | rejectFullChange (level : Bool)
  /-- FOLD_READY changes to a level (R141). -/
  | foldReadyChange (level : Bool)
  /-- WEB_PRESENT changes to a level; a fall in RUN is runout (R60). -/
  | webPresentFall (level : Bool) (gauge : Gauge)
  /-- PAPER_LOW changes to a level; a rise in RUN may halt the line (R166). -/
  | paperLow (level : Bool)
  /-- ESTOP_N changes to a level; a fall is the fault (R172). -/
  | estop (level : Bool)
  /-- WEB_BREAK_N changes to a level; a fall is the fault (R172). -/
  | webBreak (level : Bool)
  /-- A granted controller read of a byte address (R176, R188). -/
  | controllerRead (addr : Word) (lanes : Lanes)
  /-- A granted controller write (R176, R184). -/
  | controllerWrite (addr : Word) (lanes : Lanes) (data : Word)
  /-- A granted controller write to a ticket slot's address (R72, R185). -/
  | ticketWrite (addr : Word) (lanes : Lanes) (data : Word)
  /-- A granted controller write to a setup word (R180). -/
  | setupWrite (word : BitVec 6) (lanes : Lanes) (data : Word)
  /-- A write of command code 0 with a tag (R157). -/
  | noneCommand (tag : Index)
  /-- A write of command code 1 (R161). -/
  | start (tag : Index)
  /-- A write of command code 2 (R163). -/
  | calibrate (tag : Index)
  /-- A write of command code 3 (R165). -/
  | pause (tag : Index)
  /-- A write of command code 4 (R164, R165). -/
  | stop (tag : Index)
  /-- A write of command code 5 (R168). -/
  | resume (tag : Index)
  /-- A write of command code 6 (R169). -/
  | endRun (tag : Index)
  /-- A write of command code 7 (R170). -/
  | clear (tag : Index)
  /-- A write to setup word 1 (R207). -/
  | interruptAcknowledge (lanes : Lanes) (data : Word)
  /-- A write to setup word 2 (R209). -/
  | interruptEnable (lanes : Lanes) (data : Word)
  /-- A write to setup word 3 (R182). -/
  | publishIndex (lanes : Lanes) (data : Word)
  /-- A write to setup word 4 (R182). -/
  | eventReadIndex (lanes : Lanes) (data : Word)
  /-- A write to setup word 7 (R91). -/
  | ticketsLowMark (lanes : Lanes) (data : Word)
  /-- A write to setup word 37 (`slots` false) or 38 (`slots` true) (R202). -/
  | eventRingLayout (slots : Bool) (lanes : Lanes) (data : Word)
  /-- A fetch begins (R66). -/
  | fetchStart
  /-- A fetch read is granted (R190). -/
  | fetchRead
  /-- The data of a fetch read returns (R66). -/
  | fetchDataReturn (gauge : Gauge)
  /-- The arbiter grants the report write queue (R189). -/
  | queueGrant
  /-- The start-up writer acts at its position (R193). -/
  | startupWrite
  /-- A waiting disposition is placed (R90). -/
  | dispositionPlace
  /-- The oldest staged record is moved into the event ring (R201). -/
  | eventRecordMove
  /-- A due status word is placed (R205). -/
  | statusPlace
  /-- The calibrated phase is placed as a report write of setup word 12 (R183). -/
  | setupWord12Report
  /-- A write of a command code of 8 or above (R157). -/
  | unknownCommand (code : BitVec 8) (tag : Index)
  deriving DecidableEq, Repr

end Sys2Proof
end

