-- ==== Sys2Proof/WellFormed.lean ====
section
/-! DEFINITION. When a command is one its row of the table describes: a write enables at least one
byte lane, SETUP_WRITE names one of the 40 setup words, UNKNOWN_COMMAND carries a code that names no
command (R157, R197). `exec` is total: an ill-formed command is taken as the bus access it spells. -/

namespace Sys2Proof

/-- R176: an access names the bytes it concerns; one that enables no lane concerns none. -/
def lanesWf (lanes : Lanes) : Bool := lanes != 0

/-- The commands that stand for the row they are named after. -/
def Instr.wf : Instr → Bool
  | .controllerRead _ lanes => lanesWf lanes
  | .controllerWrite _ lanes _ => lanesWf lanes
  | .ticketWrite _ lanes _ => lanesWf lanes
  | .setupWrite word lanes _ => decide (word.toNat < 40) && lanesWf lanes
  | .interruptAcknowledge lanes _ => lanesWf lanes
  | .interruptEnable lanes _ => lanesWf lanes
  | .publishIndex lanes _ => lanesWf lanes
  | .eventReadIndex lanes _ => lanesWf lanes
  | .ticketsLowMark lanes _ => lanesWf lanes
  | .eventRingLayout _ lanes _ => lanesWf lanes
  | .unknownCommand code _ => decide (8 ≤ code.toNat)
  | .pinReset _ _ | .webMotionEvent _ _ _ | .beltStep _ _ _ | .markEdge _ | .leadingEdge
  | .trailingEdge | .tick | .stepPulse | .snapEnd | .jogEnd _ | .dropEnd | .releaseEnd
  | .foldTimeout | .exitMissing | .snapshot | .foldDone _ | .foldFault _ | .exitEdge _
  | .rejectFullChange _ | .foldReadyChange _ | .webPresentFall _ _ | .paperLow _ | .estop _
  | .webBreak _ | .noneCommand _ | .start _ | .calibrate _ | .pause _ | .stop _ | .resume _
  | .endRun _ | .clear _ | .fetchStart | .fetchRead | .fetchDataReturn _ | .queueGrant
  | .startupWrite | .dispositionPlace | .eventRecordMove | .statusPlace
  | .setupWord12Report => true

end Sys2Proof
end

