-- ==== Sys2Proof/Decode.lean ====
section
/-! DEFINITION. The command a table word spells. No row of spec/opcode_table.json has bits (98_reader.md:
n_rows_with_fixed 0, n_rows_with_fields 0): the part's commands are bus accesses, pin changes and its
own steps, so no word spells one. A software command's code and tag are decided where the write to
setup word 0 is (R157, R197), in Machine/Commands.lean. -/

namespace Sys2Proof

/-- No row gives bits, so no word of any length spells a command. -/
def decodeTableWord (_nbits _w : Nat) : Option Instr := none

end Sys2Proof
end

