-- ==== Sys2Proof/Machine/Operands.lean ====
section
/-! DEFINITION. The arithmetic of positions, speeds and words on which every command rests (chapter 1,
R5, R11 to R18), the quadrature decoding of the encoders (R1), the byte lanes of a bus access (R176,
R210), the straps (R177), and the table of the setup words (R180, R195, R212). Nothing here reads the
machine's state. -/

namespace Sys2Proof.Machine

/-! ### Positions -/

/-- R5: position `p` has reached target `t`. -/
def reached (p t : Word) : Bool := decide ((p - t).toNat < 2147483648)

/-- R5: the signed difference of `p` and `t`. -/
def signedDiff (p t : Word) : Int := (p - t).toInt

/-- R5: `p` has passed `t`: reached and not equal. -/
def passed (p t : Word) : Bool := reached p t && p != t

/-- The word holding a figure, wrapping as positions do. -/
def word (n : Nat) : Word := BitVec.ofNat 32 n

/-- Quotient rounded up. -/
def ceilDiv (n d : Nat) : Nat := (n + d - 1) / d

/-- One bit of the square root of `n`, from bit `b` down, with the bits found so far in `r`. -/
def isqrtFrom (n : Nat) : Nat → Nat → Nat
  | 0, r => r
  | b + 1, r => isqrtFrom n b (if (r + 2 ^ b) * (r + 2 ^ b) ≤ n then r + 2 ^ b else r)

/-- The integer square root of a figure carried in 64 bits (Conventions; R15). -/
def isqrt (n : Nat) : Nat := isqrtFrom n 32 0

/-! ### Speeds -/

/-- R11: the measured web speed for the travel `d` over 8 ticks. -/
def measuredSpeed (d : Int) : Nat :=
  if d < 0 then 0 else if 1000000 ≤ d then 125000000 else d.toNat * 125

/-- R12: the burst lead for the measured speed `vm` and the burst latency `latency` in µs. -/
def burstLead (vm latency : Nat) : Nat := min 2000 (ceilDiv (vm * latency) 1000000)

/-- R13: the stop distance from speed `v` under deceleration `a`. -/
def stopDistance (v a : Nat) : Nat := ceilDiv (v * v) (2 * a)

/-- What one tick of the profile fixes: the new commanded speed, the remainder, the pulses due, and
the permitted speed when a stop target limited it (R15 to R17). -/
structure Profile where
  speed     : Nat
  remainder : Nat
  due       : Nat
  permitted : Option Nat
  deriving DecidableEq, Repr

/-- R15 step 2: the permitted speed at the remaining distance `r`. -/
def permittedSpeed (dec : Nat) (r : Int) : Nat :=
  if r ≤ 0 then 0 else isqrt (2 * dec * r.toNat)

/-- R15: the new commanded speed before the creep. -/
def profileSpeed (goal acc dec v : Nat) (vp : Option Nat) : Nat :=
  let g := max goal (v - dec / 1000)
  let least := match vp with
    | none => min (v + acc / 1000) g
    | some p => min (min (v + acc / 1000) g) p
  max least (v - dec / 1000)

/-- R16: the creep. -/
def creep (goal : Nat) (r : Option Int) (v : Nat) : Nat :=
  match r with
  | none => v
  | some r => if 0 < r ∧ goal ≠ 0 ∧ v < 200 then 200 else v

/-- R15 to R17: one tick of the profile, with `r` the remaining distance when a stop target exists. -/
def profile (goal acc dec v rem : Nat) (r : Option Int) : Profile :=
  let vp := r.map (permittedSpeed dec)
  let v' := creep goal r (profileSpeed goal acc dec v vp)
  let n := (rem + v') / 1000
  match r with
  | none => { speed := v', remainder := (rem + v') % 1000, due := n, permitted := vp }
  | some r =>
    if (n : Int) > r then { speed := v', remainder := 0, due := r.toNat, permitted := vp }
    else { speed := v', remainder := (rem + v') % 1000, due := n, permitted := vp }

/-! ### Quadrature -/

/-- What a change of a channel pair is (R1, R2). -/
inductive QuadStep where
  | same | forward | reverse | illegal
  deriving DecidableEq, Repr

/-- R1: a channel pair's place in the forward cycle. -/
def quadPhase (a b : Bool) : Nat :=
  match a, b with
  | false, false => 0
  | true, false => 1
  | true, true => 2
  | false, true => 3

/-- R1, R2: the step from the pair `(a, b)` to the pair `(a', b')`. -/
def quadStep (a b a' b' : Bool) : QuadStep :=
  match (quadPhase a' b' + 4 - quadPhase a b) % 4 with
  | 0 => .same
  | 1 => .forward
  | 3 => .reverse
  | _ => .illegal

/-! ### Lanes and addresses -/

/-- R210: the bits of the enabled lanes. -/
def laneMask (lanes : Lanes) : Word :=
  (if lanes.getLsbD 0 then 0x000000FF else 0) ||| (if lanes.getLsbD 1 then 0x0000FF00 else 0) |||
  (if lanes.getLsbD 2 then 0x00FF0000 else 0) ||| (if lanes.getLsbD 3 then 0xFF000000 else 0)

/-- All four lanes. -/
def allLanes : Lanes := 15

/-- R180, R187: the enabled lanes of `new` replace the same bytes of `old`. -/
def mergeLanes (lanes : Lanes) (old new : Word) : Word :=
  (old &&& ~~~ laneMask lanes) ||| (new &&& laneMask lanes)

/-- R176: the word addressed is the one that holds the byte addressed. -/
def wordAddr (addr : Word) : Word := addr &&& ~~~ 3#32

/-! ### Straps -/

/-- R177: the memory size in bytes, the memory top. -/
def memTopOf (st : Straps) : Nat := 1048576 * 2 ^ min st.memSize.toNat 4

/-- R177: the setup base. -/
def setupBaseOf (st : Straps) : Nat := st.setupPage.toNat % (memTopOf st / 65536) * 65536

/-! ### The setup words -/

/-- R195: how a word judges a value out of range. `free` has none; `own` is judged by a rule of its own. -/
inductive SetupClass where
  | free | clamp | refuse | own
  deriving DecidableEq, Repr

/-- One row of R195's table: least and greatest value, default, class. -/
structure SetupRow where
  lo      : Nat
  hi      : Nat
  default : Nat
  cls     : SetupClass
  deriving DecidableEq, Repr

/-- R195's table, words 0 to 39. The defaults of 35 and 37 stand relative to the setup base, and the
greatest value of word 6 is word 38's working value (R180). -/
def setupRows : List SetupRow :=
  [ ⟨0, 0, 0, .free⟩, ⟨0, 0, 0, .free⟩, ⟨0, 0, 0, .free⟩, ⟨0, 65535, 0, .own⟩,
    ⟨0, 65535, 0, .own⟩, ⟨0, 0, 0x17, .free⟩, ⟨1, 4096, 8, .clamp⟩, ⟨0, 16, 2, .clamp⟩,
    ⟨1, 255, 1, .refuse⟩, ⟨1500, 9000, 5588, .refuse⟩, ⟨60, 8000, 200, .refuse⟩, ⟨20, 400, 60, .refuse⟩,
    ⟨0, 11, 6, .refuse⟩, ⟨6000, 60000, 24000, .refuse⟩, ⟨40, 2000, 200, .refuse⟩, ⟨0, 20000, 8000, .clamp⟩,
    ⟨2000, 60000, 30000, .clamp⟩, ⟨200, 4000, 1000, .clamp⟩, ⟨10000, 2000000, 200000, .clamp⟩,
    ⟨10000, 2000000, 200000, .clamp⟩ ] ++
  [ ⟨10000, 4000000, 600000, .clamp⟩, ⟨20, 2000, 400, .clamp⟩, ⟨10, 1000, 100, .clamp⟩,
    ⟨9500, 20000, 12000, .refuse⟩, ⟨1000, 8000, 3000, .refuse⟩, ⟨50, 1000, 300, .clamp⟩,
    ⟨20, 600, 100, .clamp⟩, ⟨0, 2000, 150, .clamp⟩, ⟨0, 200, 20, .clamp⟩, ⟨20, 1000, 120, .clamp⟩,
    ⟨20, 1000, 150, .clamp⟩, ⟨100, 5000, 1500, .clamp⟩, ⟨100, 5000, 1000, .clamp⟩, ⟨40, 300, 100, .clamp⟩,
    ⟨0, 1000, 100, .clamp⟩, ⟨0, 0, 256, .own⟩, ⟨16, 1024, 64, .own⟩, ⟨0, 0, 4096, .own⟩,
    ⟨16, 4096, 64, .refuse⟩, ⟨0, 0, 7, .free⟩ ]

/-- The row of setup word `n`. -/
def setupRow (n : Nat) : SetupRow := setupRows.getD n ⟨0, 0, 0, .free⟩

/-- R212: the bits of the defined fields of setup word `n`. -/
def setupFields (n : Nat) : Word :=
  if n = 0 then 0xFFFF00FF
  else if n = 1 ∨ n = 2 then 0x000000FF
  else if n = 3 ∨ n = 4 then 0x0000FFFF
  else if n = 5 then 0x00000037
  else if n = 39 then 0x00000007
  else 0xFFFFFFFF

/-- R195: the default of setup word `n` under a strap setting. -/
def setupDefault (st : Straps) (n : Nat) : Word :=
  if n = 35 ∨ n = 37 then word (setupBaseOf st + (setupRow n).default) else word (setupRow n).default

/-- R180: a power of two from 16 to 1,024. -/
def isSlotCount (v : Nat) : Bool := [16, 32, 64, 128, 256, 512, 1024].contains v

/-- R180 step 3: the value a merged value is taken as, or none when the range refuses it. `hi6` is the
working value of setup word 38. Words 3 and 4 are judged elsewhere (R182). -/
def judgeRange (top hi6 n : Nat) (v : Word) : Option Word :=
  if n = 35 then (if v.toNat % 32 = 0 ∧ v.toNat < top then some v else none)
  else if n = 36 then (if isSlotCount v.toNat then some v else none)
  else if n = 37 then (if v.toNat % 8 = 0 ∧ v.toNat < top then some v else none)
  else
    let row := setupRow n
    let hi := if n = 6 then hi6 else row.hi
    match row.cls with
    | .free | .own => some v
    | .clamp => if v.toNat < row.lo then some (word row.lo) else if hi < v.toNat then some (word hi) else some v
    | .refuse => if v.toNat < row.lo ∨ hi < v.toNat then none else some v

end Sys2Proof.Machine
end

