-- ==== Sys2Proof/Machine/State.lean ====
section
/-! DEFINITION. The state of the part, block by block as the Block overview of spec/00_scope.md lists
them, the memory behind it, the inputs and outputs, and the queue of waiting commands; and the state
after a pin reset. INVENTORY.md names the rule of each field. -/

namespace Sys2Proof.Machine

/-! ### Outcomes that stop -/

/-- Why a step stops with a fault. The part has none: what its manual calls a fault (R171) is a state
the line goes on in, and every bus access has a completion (R176, R179, R181). So no constructor. -/
inductive Fault
  deriving DecidableEq, Repr

/-- Why a step is refused. -/
inductive Refusal where
  /-- Raised by `exec` alone, for a command whose meaning is not written. Safe. No arm raises it now. -/
  | notModelled (mnemonic : String)
  deriving DecidableEq, Repr

/-! ### Names of states and codes (R211) -/

/-- R155: the line state. -/
inductive LineState where
  | idle | calibrate | register | run | halting | halted | fault
  deriving DecidableEq, Repr

/-- Why the line is halting or halted (R155). -/
inductive HaltKind where
  | none | pause | stop | paperLow | runout
  deriving DecidableEq, Repr

/-- R171: the faults of the line, in the table's order. -/
inductive LineFault where
  | none | estop | webBreak | encoder | slip | reverse | missingSheet | strayEdge | beltStall
  | foreignSheet | readerBlocked | trackOverflow | holdOverrun | noRegistration | foldFault
  | foldTimeout | strayExit | exitMissing
  deriving DecidableEq, Repr

/-- R157: the refusal reasons of a command. -/
inductive CommandRefusal where
  | state | unknown | geometry | regions | draining
  deriving DecidableEq, Repr

/-- R40: the read result of a sheet record. -/
inductive ReadResult where
  | pending | ok | noFrame | badCheck | smudge | format | conflict | leadIn
  deriving DecidableEq, Repr

/-- R41: the stages of a sheet record. -/
inductive Stage where
  | readOpen | readDone | fired | separated | leadSeen | clear
  deriving DecidableEq, Repr

/-- R40: where a sheet record comes from. -/
inductive SheetOrigin where
  | read | leadIn | tail
  deriving DecidableEq, Repr

/-- R56: the length verdict. -/
inductive LengthVerdict where
  | ok | short | long
  deriving DecidableEq, Repr

/-- R69: the fold styles. -/
inductive FoldStyle where
  | flat | half | letter | zig
  deriving DecidableEq, Repr

/-- R69: the divert classes. -/
inductive DivertClass where
  | normal | sample | pull
  deriving DecidableEq, Repr

/-- R70: why a ticket is invalid. -/
inductive InvalidReason where
  | marker | serial | count | code | styleLimit | tag | duplicate
  deriving DecidableEq, Repr

/-- R71: the states of a ticket. -/
inductive TicketState where
  | waiting | collating | closed | disposing | disposed
  deriving DecidableEq, Repr

/-- R90: the outcome of a disposition. -/
inductive PieceOutcome where
  | delivered | diverted | notSeen | abandoned
  deriving DecidableEq, Repr

/-- R181: why a setup write is refused. -/
inductive SetupRefusal where
  | locked | range | index
  deriving DecidableEq, Repr

/-- Who owns a set: the ticket of a ring index, or nobody (a purge set). -/
inductive Owner where
  | ticket (ring : Index)
  | purge
  deriving DecidableEq, Repr

/-- R134: the verdict of a set. -/
inductive SetVerdict where
  | good | divert
  deriving DecidableEq, Repr

/-! ### Small records -/

/-- A timer: stopped, or running with the ms remaining. With 0 remaining its expiry is due. A stopped
timer keeps the figure it stopped at (R136, R153). -/
structure Timer where
  running : Bool
  left    : Nat
  deriving DecidableEq, Repr

/-- A timer at rest. -/
def Timer.stopped : Timer := { running := false, left := 0 }

/-- The four fields of an OK frame (R25). -/
structure Frame where
  tag    : BitVec 8
  serial : Serial
  index  : BitVec 4
  isLast : Bool
  deriving DecidableEq, Repr

/-- R40: a record's assignment: the set, whose it is, and the place in it. -/
structure Assignment where
  owner    : Owner
  number   : Index
  position : Nat
  deriving DecidableEq, Repr

/-- R40: one sheet record. -/
structure Sheet where
  anchor     : Word
  origin     : SheetOrigin
  result     : ReadResult
  frame      : Option Frame
  assignment : Option Assignment
  setEnd     : Bool
  stage      : Stage
  sepPos     : Option Word
  leadPos    : Option Word
  length     : Option Word
  verdict    : Option LengthVerdict
  deriving DecidableEq, Repr

/-! ### Events (R203) -/

/-- An event with its content. -/
inductive Event where
  | lineState (new : LineState) (prev : Option LineState) (kind : HaltKind)
  | command (code : BitVec 8) (tag : Index) (refusal : Option CommandRefusal) (line : LineState)
  | calibration (passed : Bool) (phase : Word) (passMap : List Bool) (edge : Word)
  | fault (f : LineFault) (left : LineState) (flag : Bool) (web detail : Word)
  | faultAdded (f : LineFault) (count : Nat) (flag : Bool) (web detail : Word)
  | piece (outcome : PieceOutcome) (ring : Index) (serial : Serial) (count : Nat) (reasons : BitVec 12)
  | purgeSet (number : Index) (count : Nat) (reasons : BitVec 12)
  | sheetRead (frame : Frame)
  | sheetUnread (result : ReadResult) (anchor : Word)
  | sheetLength (verdict : LengthVerdict) (anchor length : Word)
  | sheetReanchor (anchor d : Word)
  | darkClear (length : Nat) (pos : Word)
  | ticketInvalid (ring : Index) (serial : Serial) (reason : InvalidReason)
  | ticketAmended (ring : Index) (serial : Serial) (wordOne : Bool)
  | ticketWait (serial : Serial) (anchor : Word)
  | rangeRead (addr : Word) (lanes : Lanes)
  | rangeWrite (addr : Word) (lanes : Lanes) (data : Word)
  | setupRefused (n : Nat) (merged : Word) (reason : SetupRefusal)
  deriving DecidableEq, Repr

/-- A staged record (R200). It has no sequence number while it is held from before start-up. -/
structure Staged where
  seq   : Option Word
  time  : Word
  event : Event
  deriving DecidableEq, Repr

/-! ### Memory -/

/-- The memory behind the part: address and byte, addresses strictly rising, and no entry equal to
Config.unlistedByte, which is what an unlisted address reads as. -/
abbrev Memory := List Host.Cell

/-! ### The blocks -/

/-- The encoder counters and the time base (chapter 1). The decoders' current pairs are the levels in
Pins (R1, R3). -/
structure Encoder where
  web             : Word
  belt            : Word
  highWater       : Word
  runContext      : Bool
  reverseReported : Bool
  msClock         : Word
  /-- The web counter at the 8 most recent ticks, oldest first (R11). -/
  history         : List Word
  vm              : Nat
  deriving DecidableEq, Repr

/-- Section 2.1: the reader state. -/
inductive ReaderState where
  | hunt | flag | data | close | blocked
  deriving DecidableEq, Repr

/-- The frame registers (section 2.1). `sample` is the sample number k, `darks` the count of the field
being read, `governs` whether this frame's flag is the sheet's governing flag. -/
structure FrameRegs where
  sample  : Nat
  darks   : Nat
  bits    : List Bool
  check   : BitVec 16
  governs : Bool
  deriving DecidableEq, Repr

/-- Frame registers cleared, the check register at FFFFh. -/
def FrameRegs.cleared : FrameRegs := { sample := 0, darks := 0, bits := [], check := 0xFFFF, governs := false }

/-- How a frame ends (R26). -/
inductive FrameResult where
  | ok (frame : Frame) | badCheck | format | smudge
  deriving DecidableEq, Repr

/-- A sheet's governing flag (R29) and its frame's result once it has ended (R30). -/
structure Governing where
  edge   : Word
  d      : Word
  result : Option FrameResult
  deriving DecidableEq, Repr

/-- The sheet verdict (section 2.4). -/
structure Verdict where
  governing : Option Governing
  conflict  : Bool
  deriving DecidableEq, Repr

/-- An empty verdict. -/
def Verdict.empty : Verdict := { governing := none, conflict := false }

/-- R36: the calibration sweep. -/
inductive SweepState where
  | off | seeking | sweeping
  deriving DecidableEq, Repr

/-- The calibration sweep (section 2.6). The pass map has 12 entries, true for passing. -/
structure Sweep where
  state     : SweepState
  edge      : Word
  seekLimit : Word
  passMap   : List Bool
  deriving DecidableEq, Repr

/-- The margin code reader (R19). -/
structure Reader where
  state     : ReaderState
  origin    : Word
  regs      : FrameRegs
  darkRun   : Nat
  verdict   : Verdict
  searching : Bool
  sweep     : Sweep
  deriving DecidableEq, Repr

/-- Sheet tracking (R40, R42), oldest record first. -/
structure Tracking where
  queue      : List Sheet
  nextPerf   : Option Word
  registered : Bool
  runout     : Bool
  snap       : Bool
  snapTimer  : Timer
  deriving DecidableEq, Repr

/-- R69: one ticket of the table. -/
structure Ticket where
  ring       : Index
  serial     : Serial
  tag        : BitVec 8
  count      : Nat
  style      : FoldStyle
  cls        : DivertClass
  invalid    : Option InvalidReason
  amended    : Bool
  assigned   : Nat
  expected   : Nat
  reasons    : BitVec 12
  setsIssued : Nat
  setsFinal  : Nat
  diverted   : Bool
  state      : TicketState
  deriving DecidableEq, Repr

/-- R90: a disposition made and not yet placed. -/
structure Disposition where
  ring    : Index
  serial  : Serial
  outcome : PieceOutcome
  count   : Nat
  reasons : BitVec 12
  deriving DecidableEq, Repr

/-- R66: the fetch in progress: a read waits for its grant, or its data is on its way. -/
inductive Fetch where
  | idle
  | due0
  | flight0 (data : Word)
  | due1 (w0 : Word)
  | flight1 (w0 data : Word)
  deriving DecidableEq, Repr

/-- The ticket unit (R65, R68, R90, R91). The publish index is setup word 3's working value. -/
structure TicketUnit where
  fetchIndex   : Index
  retireIndex  : Index
  /-- In ring order, oldest first. -/
  table        : List Ticket
  fetch        : Fetch
  /-- R67: the word a write amended after its own read, once that has happened. -/
  fetchAmended : Option Bool
  /-- Dispositions made and waiting to be placed, in the order made. -/
  waiting      : List Disposition
  retired      : List Serial
  /-- The tickets-low condition as it last stood (R91). -/
  low          : Bool
  deriving DecidableEq, Repr

/-- R74: the open set. -/
structure OpenSet where
  number    : Index
  owner     : Owner
  sheets    : Nat
  lastSheet : Word
  deriving DecidableEq, Repr

/-- R74: the collator. -/
structure Collator where
  cursor      : Option Word
  pendingRead : Option Word
  stall       : Option Serial
  openSet     : Option OpenSet
  runoutNoted : Bool
  setCounter  : Index
  deriving DecidableEq, Repr

/-- R94: the halt sheet. -/
inductive HaltSheet where
  | none | awaiting | sheet (anchor : Word)
  deriving DecidableEq, Repr

/-- R94: the cause of the stop target in force. -/
inductive StopCause where
  | none | gate | pause | paperLow | stop | runout
  deriving DecidableEq, Repr

/-- R94, R105: the hold reason. -/
inductive HoldReason where
  | none | ticket | pause | rejectFull | folder | pocket
  deriving DecidableEq, Repr

/-- R94: the hold planner. `limited` is whether at the most recent tick the permitted speed was below
the line-state goal (R105). The transport takes the stop target up as R112 gives. -/
structure Planner where
  gateSheet  : Option Word
  gateOpen   : Bool
  gateTarget : Option Word
  haltKind   : HaltKind
  haltSheet  : HaltSheet
  haltTarget : Option Word
  stop       : Option Word
  cause      : StopCause
  parked     : Bool
  holdReason : HoldReason
  limited    : Bool
  deriving DecidableEq, Repr

/-- R107: the transport state. -/
inductive MoveState where
  | still | moving | rampStop
  deriving DecidableEq, Repr

/-- R107: the web transport. `targetW` and `targetC` are the target of the current tick on the web scale and the
command scale, which hold for the tick's pulses (R14, R112), and `metTold` is whether the hold planner's stop target
has been reported met (R111). -/
structure Transport where
  state         : MoveState
  speed         : Nat
  remainder     : Nat
  command       : Word
  targetW       : Option Word
  targetC       : Option Word
  metTold       : Bool
  due           : Nat
  emitted       : Nat
  slipReported  : Bool
  stepOut       : Bool
  driveEnable   : Bool
  beltRun       : Bool
  beltTicks     : Nat
  /-- The belt counter at up to 100 most recent ticks, oldest first (R120). -/
  beltHistory   : List Word
  stallReported : Bool
  deriving DecidableEq, Repr

/-- R121: the build pocket state. -/
inductive BuildState where
  | empty | collecting | jogging | waitDrop | dropping
  deriving DecidableEq, Repr

/-- R121: a set record. The sheet list names each landed sheet by its anchor, bottom first. -/
structure SetRecord where
  number  : Index
  owner   : Owner
  sheets  : List Word
  reasons : BitVec 12
  style   : FoldStyle
  deriving DecidableEq, Repr

/-- R121: the accumulator. -/
structure Accumulator where
  state     : BuildState
  set       : Option SetRecord
  jogTimer  : Timer
  dropTimer : Timer
  jog       : Bool
  drop      : Bool
  deriving DecidableEq, Repr

/-- R138: the hold pocket state. -/
inductive HoldState where
  | empty | holding | releasing
  deriving DecidableEq, Repr

/-- R138: a folded piece, in the folder or on its way to the exit sensor. -/
structure Piece where
  number  : Index
  owner   : Owner
  sheets  : Nat
  reasons : BitVec 12
  deriving DecidableEq, Repr

/-- R149: an entry of the exit list. -/
structure ExitEntry where
  piece : Piece
  timer : Timer
  deriving DecidableEq, Repr

/-- R138: the release and folder interface. -/
structure ReleaseUnit where
  hold         : HoldState
  set          : Option SetRecord
  verdict      : SetVerdict
  releaseTimer : Timer
  folding      : Bool
  folder       : Option Piece
  foldTimer    : Timer
  exitList     : List ExitEntry
  release      : Bool
  divert       : Bool
  foldReq      : Bool
  style        : BitVec 2
  deriving DecidableEq, Repr

/-- R155: the outcome of the last command decided. -/
structure CommandOutcome where
  code    : BitVec 8
  tag     : Index
  refusal : Option CommandRefusal
  deriving DecidableEq, Repr

/-- R155: the line sequencer. -/
structure Sequencer where
  line            : LineState
  haltKind        : HaltKind
  stopPending     : Bool
  regLimit        : Option Word
  firstFault      : LineFault
  added           : Nat
  outcome         : Option CommandOutcome
  startupComplete : Bool
  deriving DecidableEq, Repr

/-- R186: an entry of the report write queue. -/
structure QueueEntry where
  addr : Word
  data : Word
  deriving DecidableEq, Repr

/-- R191, R192: the arbiter. `burst` counts the grants of a burst in progress; `afterBurst` holds from
a burst's fourth grant to the next decision. -/
structure Arbiter where
  burst         : Option Nat
  afterBurst    : Bool
  queuePatience : Nat
  fetchPatience : Nat
  fetchLatest   : Bool
  deriving DecidableEq, Repr

/-- R177, R180, R186, R193: the memory path. -/
structure MemoryPath where
  straps      : Straps
  shadow      : List Word
  written     : List Bool
  queue       : List QueueEntry
  arbiter     : Arbiter
  startPos    : Nat
  /-- R183: the report write of setup word 12 after a calibration waits to be placed. -/
  phaseReport : Bool
  deriving DecidableEq, Repr

/-- R200 to R209: the event and status writer. `snapValues` are the values in force of status words 9
to 13 and `snapPlaced` those last placed (R206). -/
structure Reporter where
  staging    : List Staged
  writeIndex : Index
  writeSlot  : Nat
  lost       : Nat
  seq        : Word
  latched    : BitVec 8
  due        : List Bool
  snapCount  : Nat
  snapDue    : Bool
  snapValues : List Word
  snapPlaced : List (Option Word)
  deriving DecidableEq, Repr

/-- What the controller port answered its last access with (R176). -/
inductive PortAnswer where
  | idle
  | data (lanes : Lanes) (value : Word)
  | done
  | busError
  deriving DecidableEq, Repr

/-- The whole machine. -/
structure State where
  pins    : Pins
  enc     : Encoder
  rd      : Reader
  trk     : Tracking
  tix     : TicketUnit
  col     : Collator
  pln     : Planner
  tr      : Transport
  acc     : Accumulator
  rel     : ReleaseUnit
  seq     : Sequencer
  path    : MemoryPath
  rep     : Reporter
  port    : PortAnswer
  mem     : Memory
  /-- The commands that are waiting, first in, first out. -/
  pending : List Instr
  deriving DecidableEq, Repr

/-! ### Pin reset -/

/-- R1, R3, R6, R9 to R11. -/
def Encoder.reset : Encoder :=
  { web := 0, belt := 0, highWater := 0, runContext := false, reverseReported := false, msClock := 0,
    history := List.replicate 8 0, vm := 0 }

/-- R19. -/
def Reader.reset : Reader :=
  { state := .hunt, origin := 0, regs := FrameRegs.cleared, darkRun := 0, verdict := Verdict.empty,
    searching := false,
    sweep := { state := .off, edge := 0, seekLimit := 0, passMap := List.replicate 12 false } }

/-- R42. -/
def Tracking.reset : Tracking :=
  { queue := [], nextPerf := none, registered := false, runout := false, snap := false,
    snapTimer := Timer.stopped }

/-- R65, R66, R90, R91. -/
def TicketUnit.reset : TicketUnit :=
  { fetchIndex := 0, retireIndex := 0, table := [], fetch := .idle, fetchAmended := none, waiting := [],
    retired := [], low := true }

/-- R74. -/
def Collator.reset : Collator :=
  { cursor := none, pendingRead := none, stall := none, openSet := none, runoutNoted := false,
    setCounter := 0 }

/-- R94. -/
def Planner.reset : Planner :=
  { gateSheet := none, gateOpen := false, gateTarget := none, haltKind := .none, haltSheet := .none,
    haltTarget := none, stop := none, cause := .none, parked := false, holdReason := .none,
    limited := false }

/-- R107, R4. -/
def Transport.reset : Transport :=
  { state := .still, speed := 0, remainder := 0, command := 0, targetW := none, targetC := none, metTold := false,
    due := 0, emitted := 0, slipReported := false, stepOut := false, driveEnable := false,
    beltRun := false, beltTicks := 0, beltHistory := [], stallReported := false }

/-- R121. -/
def Accumulator.reset : Accumulator :=
  { state := .empty, set := none, jogTimer := Timer.stopped, dropTimer := Timer.stopped, jog := false,
    drop := false }

/-- R138, R145. The release verdict's reset value is the model's (notes/assumptions/4.md). -/
def ReleaseUnit.reset : ReleaseUnit :=
  { hold := .empty, set := none, verdict := .good, releaseTimer := Timer.stopped, folding := false,
    folder := none, foldTimer := Timer.stopped, exitList := [], release := false, divert := false,
    foldReq := false, style := 0 }

/-- R155. -/
def Sequencer.reset : Sequencer :=
  { line := .idle, haltKind := .none, stopPending := false, regLimit := none, firstFault := .none,
    added := 0, outcome := none, startupComplete := false }

/-- R177, R180, R192 to R194. -/
def MemoryPath.reset (st : Straps) : MemoryPath :=
  { straps := st, shadow := (List.range 40).map (setupDefault st), written := List.replicate 40 false,
    queue := [],
    arbiter := { burst := none, afterBurst := false, queuePatience := 0, fetchPatience := 0,
                 fetchLatest := false },
    startPos := 0, phaseReport := false }

/-- R200, R201, R205 to R207. -/
def Reporter.reset : Reporter :=
  { staging := [], writeIndex := 0, writeSlot := 0, lost := 0, seq := 0, latched := 0,
    due := List.replicate 16 false, snapCount := 0, snapDue := false,
    snapValues := List.replicate 5 0, snapPlaced := List.replicate 5 none }

/-- The machine right after a pin reset with these straps and input levels. The memory's contents are
not touched by any reset (R176). -/
def State.afterPinReset (st : Straps) (pins : Pins) (mem : Memory) (pending : List Instr) : State :=
  { pins := pins, enc := Encoder.reset, rd := Reader.reset, trk := Tracking.reset,
    tix := TicketUnit.reset, col := Collator.reset, pln := Planner.reset, tr := Transport.reset,
    acc := Accumulator.reset, rel := ReleaseUnit.reset, seq := Sequencer.reset,
    path := MemoryPath.reset st, rep := Reporter.reset, port := .idle, mem := mem, pending := pending }

/-- DESIGN CHOICE (notes/assumptions/2.md; "unsafe"): the input levels at State.reset. Every input is at the
level that reports nothing: web present, emergency stop and web break released, all else low. -/
def Pins.quiet : Pins :=
  { webA := false, webB := false, beltA := false, beltB := false, mark := false, beltEdge := false,
    gauge := { reading := 0, valid := false }, rejectFull := false, foldReady := false,
    foldDone := false, foldFault := false, exitEdge := false, webPresent := true, paperLow := false,
    estopN := true, webBreakN := true }

/-- The machine right after reset, with the straps at 0 (notes/assumptions/2.md), nothing in memory and no
command waiting. -/
def State.reset : State := State.afterPinReset { memSize := 0, setupPage := 0 } Pins.quiet [] []

end Sys2Proof.Machine
end

