-- ==== Sys2Proof/Machine/Flags.lean ====
section
/-! DEFINITION. The codes of every named item (R211), the cause list and the reason set, the verdict of a
set (R134), the interrupt line (R209), and the words software reads: the status words (R213), the
disposition (R214) and the event records (R215). -/

namespace Sys2Proof.Machine

/-! ### Codes (R211) -/

/-- R211: line state. -/
def LineState.code : LineState → Word
  | .idle => 0 | .calibrate => 1 | .register => 2 | .run => 3 | .halting => 4 | .halted => 5 | .fault => 6

/-- R211: halt kind. -/
def HaltKind.code : HaltKind → Word
  | .none => 0 | .pause => 1 | .stop => 2 | .paperLow => 3 | .runout => 4

/-- R211: transport state. -/
def MoveState.code : MoveState → Word
  | .still => 0 | .moving => 1 | .rampStop => 2

/-- R211: hold reason. -/
def HoldReason.code : HoldReason → Word
  | .none => 0 | .ticket => 1 | .pause => 2 | .rejectFull => 3 | .folder => 4 | .pocket => 5

/-- R211: fault, in the order of the table of R171. -/
def LineFault.code : LineFault → Word
  | .none => 0 | .estop => 1 | .webBreak => 2 | .encoder => 3 | .slip => 4 | .reverse => 5
  | .missingSheet => 6 | .strayEdge => 7 | .beltStall => 8 | .foreignSheet => 9 | .readerBlocked => 10
  | .trackOverflow => 11 | .holdOverrun => 12 | .noRegistration => 13 | .foldFault => 14
  | .foldTimeout => 15 | .strayExit => 16 | .exitMissing => 17

/-- R171: whether a fault's class is IMMEDIATE; the others are RAMP. -/
def LineFault.immediate : LineFault → Bool
  | .estop | .webBreak | .encoder | .slip | .reverse => true
  | _ => false

/-- R211: fault class. -/
def LineFault.classCode (f : LineFault) : Word := if f.immediate then 0 else 1

/-- R211: refusal reason of a command. -/
def CommandRefusal.code : CommandRefusal → Word
  | .state => 1 | .unknown => 2 | .geometry => 3 | .regions => 4 | .draining => 5

/-- R211: read result. -/
def ReadResult.code : ReadResult → Word
  | .pending => 0 | .ok => 1 | .noFrame => 2 | .badCheck => 3 | .smudge => 4 | .format => 5
  | .conflict => 6 | .leadIn => 7

/-- R211: build pocket. -/
def BuildState.code : BuildState → Word
  | .empty => 0 | .collecting => 1 | .jogging => 2 | .waitDrop => 3 | .dropping => 4

/-- R211: hold pocket. -/
def HoldState.code : HoldState → Word
  | .empty => 0 | .holding => 1 | .releasing => 2

/-- R211, R143: fold style on STYLE[1:0]. -/
def FoldStyle.code : FoldStyle → BitVec 2
  | .flat => 0 | .half => 1 | .letter => 2 | .zig => 3

/-- R215: length verdict. -/
def LengthVerdict.code : LengthVerdict → Word
  | .ok => 0 | .short => 1 | .long => 2

/-- R215: invalid reason. -/
def InvalidReason.number : InvalidReason → Word
  | .marker => 1 | .serial => 2 | .count => 3 | .code => 4 | .styleLimit => 5 | .tag => 6 | .duplicate => 7

/-- R214: outcome of a disposition. -/
def PieceOutcome.code : PieceOutcome → Word
  | .delivered => 1 | .diverted => 2 | .notSeen => 3 | .abandoned => 4

/-- R213: verdict of a set. -/
def SetVerdict.code : SetVerdict → Word
  | .good => 0 | .divert => 1

/-- R215: why a setup write was refused. -/
def SetupRefusal.code : SetupRefusal → Word
  | .locked => 1 | .range => 2 | .index => 3

/-- R213, R215: outcome of a command, 1 ACCEPTED or 2 REFUSED. -/
def refusalOutcome : Option CommandRefusal → Word
  | none => 1
  | some _ => 2

/-- R211: refusal reason, 0 for an accepted command. -/
def refusalReason : Option CommandRefusal → Word
  | none => 0
  | some r => r.code

/-- One bit of a word. -/
def bit (b : Bool) (n : Nat) : Word := if b then 1#32 <<< n else 0

/-! ### Causes and reasons (R211) -/

/-- R207: the causes. -/
inductive Cause where
  | fault | halted | command | events | ticketsLow | range | calibrated | waiting
  deriving DecidableEq, Repr

/-- R211: a cause's bit in the cause list. -/
def Cause.bit : Cause → BitVec 8
  | .fault => 1 | .halted => 2 | .command => 4 | .events => 8 | .ticketsLow => 16 | .range => 32
  | .calibrated => 64 | .waiting => 128

/-- R73: the reasons. -/
inductive Reason where
  | short | sequence | lastMismatch | unread | oversize | amended | ticketInvalid | sample | pull
  | orphan | length | height
  deriving DecidableEq, Repr

/-- R211: a reason's bit in the reason set. -/
def Reason.bit : Reason → BitVec 12
  | .short => 1 | .sequence => 2 | .lastMismatch => 4 | .unread => 8 | .oversize => 16 | .amended => 32
  | .ticketInvalid => 64 | .sample => 128 | .pull => 256 | .orphan => 512 | .length => 1024
  | .height => 2048

/-- R134: a set is GOOD when a ticket owns it and its reason set is empty. -/
def SetRecord.verdict (r : SetRecord) : SetVerdict :=
  if r.owner ≠ .purge ∧ r.reasons = 0 then .good else .divert

/-! ### Working values (R180) -/

/-- The working value of setup word `n`. -/
def State.setup (s : State) (n : Nat) : Word := s.path.shadow.getD n 0

/-- The working value of setup word `n` as a figure. -/
def State.setupN (s : State) (n : Nat) : Nat := (s.setup n).toNat

/-- R177: the memory top. -/
def State.top (s : State) : Nat := memTopOf s.path.straps

/-- R177: the setup base. -/
def State.base (s : State) : Nat := setupBaseOf s.path.straps

/-- R65: the publish index is the accepted value of setup word 3. -/
def State.publish (s : State) : Index := (s.setup 3).setWidth 16

/-- R201: the read index is the working value of setup word 4. -/
def State.readIndex (s : State) : Index := (s.setup 4).setWidth 16

/-- R201: the occupancy of the event ring. -/
def State.occupancy (s : State) : Nat := (s.rep.writeIndex - s.readIndex).toNat

/-- R4: the deviation, command less web. -/
def State.deviation (s : State) : Word := s.tr.command - s.enc.web

/-- R209: the causes of the enable mask that are latched. -/
def State.enabledCauses (s : State) : BitVec 8 := s.rep.latched &&& (s.setup 2).setWidth 8

/-- R209: the level of IRQ_N, low exactly when the latched set and the mask share a cause. -/
def State.irqN (s : State) : Bool := decide (s.enabledCauses = 0)

/-! ### Status words (R204, R213) -/

/-- R213, word 2: the result word. -/
def resultWord : Option CommandOutcome → Word
  | none => 0
  | some o => o.code.setWidth 32 ||| (refusalOutcome o.refusal <<< 8) ||| (refusalReason o.refusal <<< 12)
      ||| (o.tag.setWidth 32 <<< 16)

/-- R213, word 7: the verdict of the hold pocket, 0 when EMPTY. A set in RELEASING keeps the release
verdict (R140). -/
def ReleaseUnit.verdictCode (r : ReleaseUnit) : Word :=
  match r.hold with
  | .empty => 0
  | .holding => match r.set with
    | some x => x.verdict.code
    | none => 0
  | .releasing => r.verdict.code

/-- The set number of a record, or 0. -/
def setNumber : Option SetRecord → Word
  | none => 0
  | some r => r.number.setWidth 32

/-- R204, R213: the status value in force of word `n`. -/
def statusWord (n : Nat) (s : State) : Word :=
  match n with
  | 0 => s.seq.line.code ||| (s.seq.haltKind.code <<< 4) ||| (s.tr.state.code <<< 8)
      ||| (s.pln.holdReason.code <<< 12)
  | 1 => s.seq.firstFault.code ||| (word s.seq.added <<< 8)
  | 2 => resultWord s.seq.outcome
  | 3 => s.tix.fetchIndex.setWidth 32 ||| (s.tix.retireIndex.setWidth 32 <<< 16)
  | 4 => s.rep.writeIndex.setWidth 32 ||| (word s.rep.lost <<< 16)
  | 5 => s.rep.latched.setWidth 32 ||| (word s.rep.writeSlot <<< 16)
  | 6 => s.acc.state.code ||| (setNumber s.acc.set <<< 16)
  | 7 => s.rel.hold.code ||| (s.rel.verdictCode <<< 4) ||| (setNumber s.rel.set <<< 16)
  | 8 => bit s.rel.folding 0 ||| (word s.rel.exitList.length <<< 4)
      ||| ((s.rel.folder.elim 0 fun p => p.number.setWidth 32) <<< 16)
  | 9 | 10 | 11 | 12 | 13 => s.rep.snapValues.getD (n - 9) 0
  | 14 => s.rep.seq
  | 15 => (s.col.stall.elim 0 fun x => x.setWidth 32) ||| (word s.tix.table.length <<< 24)
  | _ => 0

/-- R204, R206: the values the snapshot hands over for status words 9 to 13. -/
def State.snapNow (s : State) : List Word :=
  [s.enc.web, s.tr.command, word s.enc.vm, word s.tr.speed, s.enc.msClock]

/-! ### Disposition (R214) -/

/-- R214, word 7 of a slot. -/
def Disposition.word (d : Disposition) : Word :=
  d.reasons.setWidth 32 ||| (Machine.word d.count <<< 16) ||| (d.outcome.code <<< 24)

/-! ### Event records (R203, R215) -/

/-- R203: the event codes. -/
def Event.code : Event → Word
  | .lineState _ _ _ => 1
  | .command _ _ _ _ => 2
  | .calibration _ _ _ _ => 3
  | .fault _ _ _ _ _ => 8
  | .faultAdded _ _ _ _ _ => 9
  | .piece .delivered _ _ _ _ => 16
  | .piece .diverted _ _ _ _ => 17
  | .piece .notSeen _ _ _ _ => 18
  | .piece .abandoned _ _ _ _ => 19
  | .purgeSet _ _ _ => 20
  | .sheetRead _ => 24
  | .sheetUnread _ _ => 25
  | .sheetLength _ _ _ => 26
  | .sheetReanchor _ _ => 27
  | .darkClear _ _ => 28
  | .ticketInvalid _ _ _ => 32
  | .ticketAmended _ _ _ => 33
  | .ticketWait _ _ => 34
  | .rangeRead _ _ => 40
  | .rangeWrite _ _ _ => 41
  | .setupRefused _ _ _ => 42

/-- R215: the pass map's 12 entries in bits 16 to 27, entry `p` in bit 16 + p. -/
def passMapWord (m : List Bool) : Word :=
  (List.range 12).foldl (fun w p => w ||| bit (m.getD p false) (16 + p)) 0

/-- R211: the code of a previous line state, 15 for none. -/
def prevCode : Option LineState → Word
  | none => 15
  | some l => l.code

/-- R203: the job tag and serial of a foreign frame as a detail word. -/
def foreignDetail (f : Frame) : Word := (f.tag.setWidth 32 <<< 24) ||| f.serial.setWidth 32

/-- R215: words 3, 4 and 5 of the event's record. -/
def Event.words : Event → Word × Word × Word
  | .lineState new prev kind => (new.code ||| (prevCode prev <<< 4) ||| (kind.code <<< 8), 0, 0)
  | .command code tag r line =>
    (code.setWidth 32 ||| (refusalOutcome r <<< 8) ||| (refusalReason r <<< 12) ||| (line.code <<< 16),
      tag.setWidth 32, 0)
  | .calibration passed phase m edge => (bit passed 0 ||| (phase <<< 4) ||| passMapWord m, edge, 0)
  | .fault f left flag web detail =>
    (f.code ||| (f.classCode <<< 8) ||| bit flag 9 ||| (left.code <<< 12), web, detail)
  | .faultAdded f count flag web detail =>
    (f.code ||| (f.classCode <<< 8) ||| bit flag 9 ||| (word count <<< 16), web, detail)
  | .piece _ ring serial count reasons =>
    (ring.setWidth 32 ||| (word count <<< 16), serial.setWidth 32, reasons.setWidth 32)
  | .purgeSet number count reasons => (number.setWidth 32 ||| (word count <<< 16), 0, reasons.setWidth 32)
  | .sheetRead f =>
    (f.tag.setWidth 32 ||| (f.index.setWidth 32 <<< 8) ||| bit f.isLast 12, f.serial.setWidth 32, 0)
  | .sheetUnread result anchor => (result.code, anchor, 0)
  | .sheetLength v anchor length => (v.code, anchor, length)
  | .sheetReanchor anchor d => (0, anchor, d)
  | .darkClear length pos => (0, pos, word length)
  | .ticketInvalid ring serial reason => (ring.setWidth 32 ||| (reason.number <<< 16), serial.setWidth 32, 0)
  | .ticketAmended ring serial one => (ring.setWidth 32 ||| bit one 16, serial.setWidth 32, 0)
  | .ticketWait serial anchor => (0, serial.setWidth 32, anchor)
  | .rangeRead addr lanes => (lanes.setWidth 32, addr, 0)
  | .rangeWrite addr lanes data => (lanes.setWidth 32, addr, data)
  | .setupRefused n merged reason => (word n ||| (reason.code <<< 8), merged, 0)

/-- R203, R215: the six words of a record. -/
def Staged.words (r : Staged) : List Word :=
  [r.seq.getD 0, r.time, r.event.code, r.event.words.1, r.event.words.2.1, r.event.words.2.2]

/-! ### Which events are recorded (R199) -/

/-- R199: whether an event is recorded under the value `w5` of setup word 5. -/
def Event.recorded (w5 : Word) : Event → Bool
  | .lineState _ _ _ | .command _ _ _ _ | .calibration _ _ _ _ => true
  | .fault _ _ _ _ _ | .faultAdded _ _ _ _ _ => true
  | .piece _ _ _ _ _ | .purgeSet _ _ _ => w5.getLsbD 0
  | .ticketInvalid _ _ _ | .ticketAmended _ _ _ | .ticketWait _ _ => w5.getLsbD 1
  | .rangeRead _ _ | .rangeWrite _ _ _ | .setupRefused _ _ _ => w5.getLsbD 2
  | .sheetUnread _ _ | .sheetLength _ _ _ | .darkClear _ _ => decide (w5.extractLsb' 4 2 ≠ 0)
  | .sheetRead f =>
    decide (w5.extractLsb' 4 2 = 3) || (decide (w5.extractLsb' 4 2 = 2) && decide (f.index = 0))
  | .sheetReanchor _ _ => decide (w5.extractLsb' 4 2 = 3)

end Sys2Proof.Machine
end

