-- ==== Sys2Proof/Machine/Ops.lean ====
section
/-! DEFINITION. The shared operations over memory, the report write queue, timers, status words, events
and causes. -/

namespace Sys2Proof.Machine

/-! ### Memory -/

/-- What a byte address reads as. -/
def Memory.readByte (a : Nat) : Memory → Byte
  | [] => Config.unlistedByte
  | (k, v) :: m => if k = a then v else readByte a m

/-- A byte written; the canonical form is kept. -/
def Memory.writeByte (a : Nat) (b : Byte) : Memory → Memory
  | [] => if b = Config.unlistedByte then [] else [(a, b)]
  | (k, v) :: m =>
    if a < k then (if b = Config.unlistedByte then (k, v) :: m else (a, b) :: (k, v) :: m)
    else if a = k then (if b = Config.unlistedByte then m else (a, b) :: m)
    else (k, v) :: writeByte a b m

/-- Every address of the list lies above `a`. -/
def Memory.above (a : Nat) (m : Memory) : Bool := m.all fun c => decide (a < c.1)

/-- The canonical form: addresses strictly rising, no entry equal to what an unlisted address reads as. -/
def Memory.wf : Memory → Bool
  | [] => true
  | (k, v) :: m => decide (v ≠ Config.unlistedByte) && Memory.above k m && Memory.wf m

/-- R210: the word at a word address, least significant byte at the lowest address. -/
def Memory.readWord (a : Nat) (m : Memory) : Word :=
  (m.readByte (a + 3)) ++ (m.readByte (a + 2)) ++ (m.readByte (a + 1)) ++ (m.readByte a)

/-- R210: a full-word write. -/
def Memory.writeWord (a : Nat) (w : Word) (m : Memory) : Memory :=
  (((m.writeByte a (w.extractLsb' 0 8)).writeByte (a + 1) (w.extractLsb' 8 8)).writeByte (a + 2)
    (w.extractLsb' 16 8)).writeByte (a + 3) (w.extractLsb' 24 8)

/-- One lane of a write. -/
def Memory.writeLane (lanes : Lanes) (i : Nat) (a : Nat) (w : Word) (m : Memory) : Memory :=
  if lanes.getLsbD i then m.writeByte (a + i) (w.extractLsb' (8 * i) 8) else m

/-- R176: a write of the enabled lanes. -/
def Memory.writeLanes (lanes : Lanes) (a : Nat) (w : Word) (m : Memory) : Memory :=
  Memory.writeLane lanes 3 a w (Memory.writeLane lanes 2 a w
    (Memory.writeLane lanes 1 a w (Memory.writeLane lanes 0 a w m)))

/-! ### Timers -/

/-- A timer set to `n` ms. -/
def Timer.start (n : Nat) : Timer := { running := true, left := n }

/-- A tick: a running timer comes one ms nearer its expiry. -/
def Timer.tick (t : Timer) : Timer := if t.running then { t with left := t.left - 1 } else t

/-- The timer is running and its last tick has come. -/
def Timer.expired (t : Timer) : Bool := t.running && decide (t.left = 0)

/-- Stopped where it stands (R136, R153). -/
def Timer.hold (t : Timer) : Timer := { t with running := false }

/-! ### Status words (R205) -/

/-- The due marks after a hand-over: each listed change word whose value in force differs is due. -/
def markDue (ws : List Nat) (s s' : State) (due : List Bool) : List Bool :=
  ws.foldl (fun d w => if statusWord w s = statusWord w s' then d else d.set w true) due

/-- R205: `s'` handed over from `s`, touching the status words `ws`. -/
def hand (ws : List Nat) (s s' : State) : State :=
  { s' with rep := { s'.rep with due := markDue ws s s' s'.rep.due } }

/-! ### Events and causes -/

/-- R200: a recorded event goes to the staging FIFO, or is lost when it is full. -/
def stage (e : Event) (s : State) : State :=
  if s.seq.startupComplete then
    if s.rep.staging.length < Config.stagingCapacity then
      hand [14] s { s with rep := { s.rep with
        seq := s.rep.seq + 1
        staging := s.rep.staging ++ [{ seq := some (s.rep.seq + 1), time := s.enc.msClock, event := e }] } }
    else hand [4] s { s with rep := { s.rep with lost := min 65535 (s.rep.lost + 1) } }
  else if s.rep.staging.length < Config.heldCapacity then
    { s with rep := { s.rep with
      staging := s.rep.staging ++ [{ seq := none, time := s.enc.msClock, event := e }] } }
  else hand [4] s { s with rep := { s.rep with lost := min 65535 (s.rep.lost + 1) } }

/-- R199: an offered event is recorded when its class is, and otherwise leaves no trace. -/
def offer (e : Event) (s : State) : State :=
  if e.recorded (s.setup 5) then stage e s else s

/-- R207: a cause is latched. -/
def latch (c : Cause) (s : State) : State :=
  hand [5] s { s with rep := { s.rep with latched := s.rep.latched ||| c.bit } }

/-! ### The report write queue (R186 to R190) -/

/-- The queued data of a word address. -/
def queued (addr : Word) : List QueueEntry → Option Word
  | [] => none
  | q :: qs => if q.addr = addr then some q.data else queued addr qs

/-- R186: the entry of that address takes new data and keeps its place. -/
def replaceQueued (addr data : Word) : List QueueEntry → List QueueEntry
  | [] => []
  | q :: qs => if q.addr = addr then { q with data := data } :: qs else q :: replaceQueued addr data qs

/-- R187: the entry of that address leaves the queue. -/
def removeQueued (addr : Word) : List QueueEntry → List QueueEntry
  | [] => []
  | q :: qs => if q.addr = addr then qs else q :: removeQueued addr qs

/-- R192: the queue's patience returns to 0, and a burst ends (R191), when the queue empties. -/
def Arbiter.seeQueue (empty : Bool) (a : Arbiter) : Arbiter :=
  if empty then { a with burst := none, queuePatience := 0 } else a

/-- The queue replaced, with the arbiter told its length. -/
def setQueue (q : List QueueEntry) (s : State) : State :=
  { s with path := { s.path with queue := q, arbiter := s.path.arbiter.seeQueue q.isEmpty } }

/-- R179, R190: whether a byte address lies below the memory top. -/
def State.inRange (s : State) (addr : Word) : Bool := decide (addr.toNat < s.top)

/-- R186, R190: whether a placement at that word address is taken now. -/
def placeable (addr : Word) (s : State) : Bool :=
  !s.inRange addr || (queued addr s.path.queue).isSome
    || decide (s.path.queue.length < Config.queueCapacity)

/-- R186: the queue with a report write placed. -/
def placedQueue (addr data : Word) (q : List QueueEntry) : List QueueEntry :=
  if (queued addr q).isSome then replaceQueued addr data q
  else if q.length < Config.queueCapacity then q ++ [{ addr := addr, data := data }]
  else q

/-- R186, R190: a report write placed. One at or above the top is discarded and latches RANGE. One the
queue will not take leaves everything as it is; its producer asks `placeable` first. -/
def place (addr data : Word) (s : State) : State :=
  if s.inRange addr then setQueue (placedQueue addr data s.path.queue) s else latch .range s

/-- R204: the address of a status word. -/
def statusAddr (n : Nat) (s : State) : Word := word (s.base + 160 + 4 * n)

/-- R195: the address of a setup word. -/
def setupAddr (n : Nat) (s : State) : Word := word (s.base + 4 * n)

/-- R64: the address of a word of the slot of a ring index. -/
def slotAddr (ring : Index) (n : Nat) (s : State) : Word :=
  word (s.setupN 35 + ring.toNat % s.setupN 36 * 32 + 4 * n)

/-- R205, R206: the status writer places word `n`; the due mark is cleared and, for a snapshot word, the
value placed is kept. -/
def placeStatus (n : Nat) (s : State) : State :=
  let v := statusWord n s
  let s1 := place (statusAddr n s) v s
  { s1 with rep := { s1.rep with
      due := s1.rep.due.set n false
      snapPlaced := if 9 ≤ n then s1.rep.snapPlaced.set (n - 9) (some v) else s1.rep.snapPlaced } }

/-- Whether status word `n` is due and would be taken. -/
def statusReady (n : Nat) (s : State) : Bool :=
  s.seq.startupComplete && s.rep.due.getD n false && placeable (statusAddr n s) s

/-- Status word `n` placed if it is due and would be taken. -/
def placeIfReady (n : Nat) (s : State) : State := if statusReady n s then placeStatus n s else s

/-- R198: the result word is placed in the event in which the command is decided. Words 0 and 1, when
due, go before it (R205: due words wait in the order of the status words). -/
def placeResult (s : State) : State := placeIfReady 2 (placeIfReady 1 (placeIfReady 0 s))

/-! ### Lists kept by anchor and ring index -/

/-- The record an anchor names. -/
def findSheet (anchor : Word) (q : List Sheet) : Option Sheet := q.find? fun r => r.anchor = anchor

/-- The record an anchor names, changed. -/
def editSheet (anchor : Word) (f : Sheet → Sheet) (q : List Sheet) : List Sheet :=
  q.map fun r => if r.anchor = anchor then f r else r

/-- A record of the queue, changed. -/
def State.editSheet (s : State) (anchor : Word) (f : Sheet → Sheet) : State :=
  { s with trk := { s.trk with queue := Machine.editSheet anchor f s.trk.queue } }

/-- The ticket of a ring index. -/
def findTicket (ring : Index) (t : List Ticket) : Option Ticket := t.find? fun x => x.ring = ring

/-- The ticket of a ring index, changed. -/
def State.editTicket (s : State) (ring : Index) (f : Ticket → Ticket) : State :=
  { s with tix := { s.tix with table := s.tix.table.map fun x => if x.ring = ring then f x else x } }

/-- R41: the oldest record in a stage. -/
def frontOf (st : Stage) (q : List Sheet) : Option Sheet := q.find? fun r => r.stage = st

/-- R41: a record that has not been fired. -/
def Sheet.unfired (r : Sheet) : Bool := decide (r.stage = .readOpen) || decide (r.stage = .readDone)

/-- A record's burst point: its anchor plus the burst offset, setup word 13. -/
def State.burstPoint (s : State) (r : Sheet) : Word := r.anchor + s.setup 13

/-- R97: a record's park position: the burst point less the park margin, setup word 14. -/
def State.park (s : State) (r : Sheet) : Word := s.burstPoint r - s.setup 14

/-- Whether the line is in RUN, HALTING or HALTED. -/
def LineState.running : LineState → Bool
  | .run | .halting | .halted => true
  | _ => false

end Sys2Proof.Machine
end

