-- ==== Sys2Proof/Machine/Release.lean ====
section
/-! DEFINITION. The hold pocket's release conditions and release starts (R141 to R143), and the reasons a
HOLDING set takes (R140). -/

namespace Sys2Proof.Machine

/-- R141: whether the release conditions hold for the set in the hold pocket. -/
def releaseReady (s : State) : Bool :=
  decide (s.rel.hold = .holding) && s.seq.line.running &&
  match s.rel.set with
  | none => false
  | some r => match r.verdict with
    | .divert => !s.pins.rejectFull
    | .good => s.pins.foldReady && !s.rel.folding && decide (s.rel.exitList.length < Config.exitCapacity)

/-- R142: a divert release starts. -/
def startDivert (s : State) : State :=
  hand [7] s { s with rel := { s.rel with
    hold := .releasing, verdict := .divert, divert := true, release := true
    releaseTimer := Timer.start (s.setupN 30) } }

/-- R143: a fold release of the set `r` starts. -/
def startFold (r : SetRecord) (s : State) : State :=
  hand [7] s { s with rel := { s.rel with
    hold := .releasing, verdict := .good, divert := false, release := true, foldReq := true
    style := r.style.code, releaseTimer := Timer.start (s.setupN 30) } }

/-- R141: the release conditions are tested, and the release starts when they hold. -/
def releaseTest (s : State) : State :=
  if releaseReady s then
    match s.rel.set with
    | none => s
    | some r => match r.verdict with
      | .divert => startDivert s
      | .good => startFold r s
  else s

/-- R73: a reason added to a set record owned by a ticket. -/
def SetRecord.addFor (ring : Index) (reason : Reason) (r : SetRecord) : SetRecord :=
  if r.owner = .ticket ring then { r with reasons := r.reasons ||| reason.bit } else r

/-- R140: a reason handed over for a HOLDING set, with the release conditions tested afresh. -/
def holdReasonFor (ring : Index) (reason : Reason) (s : State) : State :=
  if s.rel.hold = .holding then
    releaseTest (hand [7] s { s with rel := { s.rel with set := s.rel.set.map (SetRecord.addFor ring reason) } })
  else s

end Sys2Proof.Machine
end

