-- ==== Sys2Proof/Machine/Line.lean ====
section
/-! DEFINITION. What every block shares with the line sequencer: the transport's stops (R111, R114,
R115), the hold reason (R105, R106), a change of line state (R156), a completed halt (R104, R167), the
taking of a fault (R173, R174) and the entry into IDLE (R113). -/

namespace Sys2Proof.Machine

/-! ### The transport's stops -/

/-- R115: an immediate stop. -/
def immediateStop (s : State) : State :=
  hand [0] s { s with tr := { s.tr with
    state := .still, speed := 0, remainder := 0, due := 0, emitted := 0, targetW := none
    targetC := none } }

/-- R114: an immediate stop order in FAULT. -/
def orderImmediate (s : State) : State :=
  let s1 := if s.tr.state = .still then s else immediateStop s
  { s1 with tr := { s1.tr with driveEnable := false } }

/-- R114: a ramp order in FAULT. -/
def orderRamp (s : State) : State :=
  match s.tr.state with
  | .moving => hand [0] s { s with tr := { s.tr with state := .rampStop, targetW := none, targetC := none } }
  | .rampStop => s
  | .still => { s with tr := { s.tr with driveEnable := false } }

/-! ### The hold reason -/

/-- R98: the record the stop target in force names. -/
def namedSheet (s : State) : Option Sheet :=
  match s.pln.cause with
  | .gate => s.pln.gateSheet.bind fun a => findSheet a s.trk.queue
  | .pause | .paperLow | .stop => match s.pln.haltSheet with
    | .sheet a => findSheet a s.trk.queue
    | _ => none
  | .none | .runout => none

/-- R105: whether the hold pocket is HOLDING a set of that verdict. -/
def holdsSet (v : SetVerdict) (s : State) : Bool :=
  decide (s.rel.hold = .holding) && (s.rel.set.map fun r => decide (r.verdict = v)).getD false

/-- R96, R105: whether a record is FIRED or on the belt. -/
def beltBusy (s : State) : Bool := s.trk.queue.any fun r => !r.unfired

/-- R105: the hold reason in force. DEDUCED (notes/assumptions/26.md; "unsafe"): the target counts as met while the
parked flag is set (R98, R99), also while the web is drawn back so that r is positive again (R18, R111). -/
def holdReasonNow (s : State) : HoldReason :=
  match namedSheet s with
  | none => .none
  | some r =>
    if !(s.pln.parked || s.pln.limited) then .none
    else if r.assignment.isNone then .ticket
    else if (s.pln.haltKind = .pause ∨ s.pln.haltKind = .paperLow) ∧ s.pln.haltSheet = .sheet r.anchor then .pause
    else if holdsSet .divert s && s.pins.rejectFull then .rejectFull
    else if holdsSet .good s &&
        (!s.pins.foldReady || s.rel.folding || decide (Config.exitCapacity ≤ s.rel.exitList.length)) then .folder
    else if decide (s.acc.state ≠ .empty) || beltBusy s then .pocket
    else .none

/-- R106: the hold reasons that latch WAITING. -/
def HoldReason.waits : HoldReason → Bool
  | .ticket | .rejectFull => true
  | _ => false

/-- R106: the web is parked. -/
def webParked (s : State) : Bool := s.pln.parked && (namedSheet s).isSome

/-- R105, R106: the hold reason evaluated and handed over; a parked web whose reason changes to TICKET or
REJECT_FULL latches WAITING. -/
def holdReasonTest (s : State) : State :=
  let r := holdReasonNow s
  let s1 := hand [0] s { s with pln := { s.pln with holdReason := r } }
  if webParked s ∧ r ≠ s.pln.holdReason ∧ r.waits then latch .waiting s1 else s1

/-- R106: the web has just become parked. -/
def parkTest (s : State) : State :=
  let s1 := holdReasonTest s
  if webParked s1 ∧ s1.pln.holdReason.waits then latch .waiting s1 else s1

/-! ### The line state -/

/-- R156: the line state and halt kind change, the status writer is told and LINE_STATE is offered. A
change into RUN, HALTING or HALTED has the release conditions tested (R141). -/
def changeLine (new : LineState) (kind : HaltKind) (s : State) : State :=
  let s1 := hand [0] s { s with seq := { s.seq with line := new, haltKind := kind } }
  let s2 := offer (.lineState new (some s.seq.line) kind) s1
  if new.running then releaseTest s2 else s2

/-- R104, R167: the halt is complete. -/
def haltComplete (s : State) : State := latch .halted (changeLine .halted s.seq.haltKind s)

/-- R98: the causes that are halt kinds. -/
def StopCause.halts : StopCause → Bool
  | .pause | .paperLow | .stop | .runout => true
  | .none | .gate => false

/-- R99, R104: the stop target in force is reported met: the planner sets the parked flag, and completes the halt
when the cause is a halt kind and the line is in HALTING. -/
def reportMet (s : State) : State :=
  let s1 := { s with tr := { s.tr with metTold := true }, pln := { s.pln with parked := true } }
  let s2 := if s1.pln.cause.halts && decide (s1.seq.line = .halting) then haltComplete s1 else s1
  if s.pln.parked then s2 else parkTest s2

/-- R111, R18: the transport's target is met. The report names its web-scale target, so one that the planner has
removed or moved in the meantime (R112) is not the stop target in force and parks nothing (R99). -/
def targetMet (s : State) : State :=
  let s1 := hand [0] s { s with
    tr := { s.tr with state := .still, speed := 0, remainder := 0, due := s.tr.emitted } }
  if s1.tr.targetW = s1.pln.stop then reportMet s1 else s1

/-! ### Faults -/

/-- R104: the hold planner and the transport's target at a fault, in IDLE and at a path reset. -/
def clearPlanner (s : State) : State :=
  hand [0] s { s with
    pln := Planner.reset
    tr := { s.tr with targetW := none, targetC := none, metTold := false } }

/-- R35, R38, R164: what the reader does when the line enters FAULT. -/
def Reader.fault (r : Reader) : Reader :=
  { r with
    state := if r.state = .blocked then .blocked else .hunt
    regs := FrameRegs.cleared
    searching := false
    sweep := { r.sweep with state := .off } }

/-- R62. -/
def Tracking.snapLow (t : Tracking) : Tracking := { t with snap := false, snapTimer := t.snapTimer.hold }

/-- R136. -/
def Accumulator.fault (a : Accumulator) : Accumulator :=
  { a with jog := false, drop := false, jogTimer := a.jogTimer.hold, dropTimer := a.dropTimer.hold }

/-- R153. -/
def ReleaseUnit.fault (r : ReleaseUnit) : ReleaseUnit :=
  { r with
    release := false, foldReq := false, style := FoldStyle.flat.code
    releaseTimer := r.releaseTimer.hold, foldTimer := r.foldTimer.hold
    exitList := r.exitList.map fun e => { e with timer := e.timer.hold } }

/-- R173 step 3: every block is told of FAULT. -/
def faultBlocks (s : State) : State :=
  clearPlanner { s with
    rd := s.rd.fault
    trk := s.trk.snapLow
    acc := s.acc.fault
    rel := s.rel.fault
    tr := { s.tr with beltRun := false } }

/-- R173 steps 1 to 3: the sequencer's own state on the first fault. -/
def faultSequencer (f : LineFault) (s : State) : State :=
  hand [0, 1] s { s with seq := { s.seq with
    line := .fault, haltKind := .none, stopPending := false, regLimit := none, firstFault := f } }

/-- R173: the first fault. -/
def firstFault (f : LineFault) (flag : Bool) (detail : Word) (s : State) : State :=
  let left := s.seq.line
  let s1 := faultBlocks (faultSequencer f s)
  let s2 := if f.immediate then orderImmediate s1 else orderRamp s1
  let s3 := latch .fault (offer (.fault f left flag s.enc.web detail) s2)
  offer (.lineState .fault (some left) .none) s3

/-- R174: an added fault. -/
def addedFault (f : LineFault) (flag : Bool) (detail : Word) (s : State) : State :=
  let n := min 255 (s.seq.added + 1)
  let s1 := hand [1] s { s with seq := { s.seq with added := n } }
  let s2 := offer (.faultAdded f n flag s.enc.web detail) s1
  if f.immediate then orderImmediate s2 else s2

/-- R173, R174: a fault reported, with its detail flag and word (R203). Before start-up completes it is
discarded. -/
def takeFault (f : LineFault) (flag : Bool) (detail : Word) (s : State) : State :=
  if !s.seq.startupComplete then s
  else if s.seq.line = .fault then addedFault f flag detail s
  else firstFault f flag detail s

/-! ### Entries -/

/-- R113, R119: the line enters IDLE. -/
def enterIdle (s : State) : State :=
  let s1 := clearPlanner (if s.tr.state = .still then s else immediateStop s)
  changeLine .idle .none { s1 with
    tr := { s1.tr with driveEnable := false, beltRun := false }
    enc := { s1.enc with runContext := false }
    seq := { s1.seq with stopPending := false, regLimit := none } }

/-- R113: alignment, as the line leaves IDLE. -/
def align (s : State) : State :=
  { s with tr := { s.tr with command := s.enc.web, driveEnable := true, slipReported := false } }

/-- R35: the reader at a path reset, at a STOP in REGISTER and at CALIBRATE. -/
def Reader.clear (r : Reader) : Reader :=
  { r with state := .hunt, regs := FrameRegs.cleared, darkRun := 0, verdict := Verdict.empty, searching := false }

end Sys2Proof.Machine
end

