-- ==== Sys2Proof/Machine/Planner.lean ====
section
/-! DEFINITION. The hold planner (chapter 5) and the firing and separation of sheets at the nip (R50 to
R52, R61), which its gate and stop target hold. -/

namespace Sys2Proof.Machine

/-! ### Halts -/

/-- R14: the remaining distance to a web-scale target, with the counters as they stand. -/
def State.remaining (s : State) (t : Word) : Int := signedDiff (t + s.deviation) s.tr.command

/-- R13: a target is reachable from the commanded speed in force. -/
def reachable (t : Word) (s : State) : Bool :=
  decide ((stopDistance s.tr.speed (s.setupN 19) : Int) ≤ s.remaining t)

/-- R95, R100: a record that could begin a set. -/
def Sheet.beginsSet (r : Sheet) : Bool :=
  match r.assignment with
  | none => true
  | some a => decide (a.position = 1)

/-- R100: a candidate of a PAUSE or PAPER_LOW halt. -/
def Sheet.pauseCandidate (r : Sheet) : Bool := r.unfired && r.beginsSet

/-- R102: a candidate of a STOP halt. -/
def Sheet.stopCandidate (r : Sheet) : Bool := decide (r.stage = .readDone)

/-- The records after the one of an anchor. -/
def sheetsAfter (anchor : Word) (q : List Sheet) : List Sheet := (q.dropWhile fun r => r.anchor ≠ anchor).drop 1

/-- R100, R102: the halt sheet and halt target become the first reachable candidate of the list, or
the halt sheet is awaited. -/
def chooseHalt (candidates : List Sheet) (s : State) : State :=
  match candidates.find? fun r => reachable (s.park r) s with
  | some r => { s with pln := { s.pln with haltSheet := .sheet r.anchor, haltTarget := some (s.park r) } }
  | none => { s with pln := { s.pln with haltSheet := .awaiting, haltTarget := none } }

/-- R100, R102, R103: a halt request handed over by the line sequencer. A standing RUNOUT request keeps. -/
def requestHalt (kind : HaltKind) (s : State) : State :=
  if s.pln.haltKind = .runout then s
  else
    let s1 := { s with pln := { s.pln with haltKind := kind } }
    match kind with
    | .stop => chooseHalt (s.trk.queue.filter Sheet.stopCandidate) s1
    | _ => chooseHalt (s.trk.queue.filter Sheet.pauseCandidate) s1

/-- R100, R101: whether the halt request is one of kind PAUSE or PAPER_LOW. -/
def HaltKind.pauses : HaltKind → Bool
  | .pause | .paperLow => true
  | _ => false

/-- R94: the halt request is worked on in HALTING; in HALTED it stands as it is until RESUME. -/
def State.chooses (s : State) : Bool := decide (s.seq.line = .halting)

/-- R100: a record just created, tested while a PAUSE or PAPER_LOW halt sheet is awaited. -/
def haltAtCreation (r : Sheet) (s : State) : State :=
  if s.chooses ∧ s.pln.haltKind.pauses ∧ s.pln.haltSheet = .awaiting then chooseHalt [r] s else s

/-- R102: a record just settled, tested while a STOP halt sheet is awaited. -/
def haltAtSettle (anchor : Word) (s : State) : State :=
  if s.chooses ∧ s.pln.haltKind = .stop ∧ s.pln.haltSheet = .awaiting then
    match findSheet anchor s.trk.queue with
    | some r => chooseHalt [r] s
    | none => s
  else s

/-- R101: a PAUSE or PAPER_LOW halt sheet assigned at a position other than 1 is chosen afresh. -/
def haltAtAssignment (anchor : Word) (position : Nat) (s : State) : State :=
  if s.chooses ∧ s.pln.haltKind.pauses ∧ s.pln.haltSheet = .sheet anchor ∧ position ≠ 1 then
    chooseHalt ((sheetsAfter anchor s.trk.queue).filter Sheet.pauseCandidate) s
  else s

/-- R101: the halt target moves with a READ_OPEN halt sheet that is re-anchored. DEDUCED
(notes/assumptions/27.md; "unsafe"): in HALTED, where the halt target stands (R94), the halt sheet keeps naming its
record and the target stays. -/
def haltAtReanchor (anchor d : Word) (s : State) : State :=
  if s.pln.haltSheet = .sheet anchor then
    { s with pln := { s.pln with
        haltSheet := .sheet (anchor + d)
        haltTarget := if s.chooses then s.pln.haltTarget.map fun t => t + d else s.pln.haltTarget } }
  else s

/-! ### Gate and stop target -/

/-- R95: the gate sheet, the oldest unfired record that could begin a set. -/
def gateSheetOf (s : State) : Option Sheet := s.trk.queue.find? Sheet.pauseCandidate

/-- R96: the gate condition for the gate sheet. -/
def gateOpenFor (r : Sheet) (s : State) : Bool :=
  r.assignment.isSome
    && decide (s.acc.state = .empty)
    && !beltBusy s
    && (decide (s.seq.line = .run) || decide (s.seq.line = .halting))
    && !(s.pln.haltKind.pauses && decide (s.pln.haltSheet = .sheet r.anchor))

/-- R98: the cause of a halt target. -/
def HaltKind.cause : HaltKind → StopCause
  | .none => .none
  | .pause => .pause
  | .stop => .stop
  | .paperLow => .paperLow
  | .runout => .runout

/-- R98: the stop target in force, the earlier of the gate target and the halt target, and its cause. -/
def stopInForce (gate halt : Option Word) (kind : HaltKind) : Option Word × StopCause :=
  match gate, halt with
  | none, none => (none, .none)
  | some g, none => (some g, .gate)
  | none, some h => (some h, kind.cause)
  | some g, some h => if reached g h then (some h, kind.cause) else (some g, .gate)

/-- The transport takes a target up: on both scales, with the counters as they stand (R14). -/
def State.taking (s : State) (t : Option Word) : State :=
  { s with tr := { s.tr with targetW := t, targetC := t.map fun w => w + s.deviation } }

/-- R112: a target set, or moved nearer than the old one. -/
def nearer (old : Option Word) (t : Word) : Bool :=
  match old with
  | none => true
  | some o => !reached t o

/-- R112: a target set or moved nearer while pulses of the tick remain is converted at once, and met at once when
the command counter has reached it. One removed or moved farther is taken from the next tick: until then the tick's
own target holds (R14). -/
def takeTarget (old new : Option Word) (s : State) : State :=
  let s1 := { s with tr := { s.tr with metTold := false } }
  match new with
  | none => s1
  | some t =>
    if nearer old t && decide (s.tr.emitted < s.tr.due) then
      let s2 := s1.taking new
      if s.remaining t ≤ 0 then targetMet s2 else s2
    else s1

/-- R111: a halt target set at the position of a target already met is a target set anew: it is reported met at the
next tick (notes/assumptions/28.md). -/
def retell (cause : StopCause) (s : State) : State :=
  if cause.halts && decide (cause ≠ s.pln.cause) then { s with tr := { s.tr with metTold := false } } else s

/-- R95 to R98: the planner with the gate sheet, the gate, the gate target and the stop target in force named afresh.
The parked flag is cleared when the stop target changes position or goes. -/
def planNow (s : State) : Planner :=
  let gs := gateSheetOf s
  let isOpen := (gs.map fun r => gateOpenFor r s).getD false
  let gt := if isOpen then none else gs.map s.park
  let sc := stopInForce gt s.pln.haltTarget s.pln.haltKind
  { s.pln with
    gateSheet := gs.map Sheet.anchor, gateOpen := isOpen, gateTarget := gt, stop := sc.1, cause := sc.2
    parked := s.pln.parked && decide (sc.1 = s.pln.stop) }

/-- The planner replaced. -/
def State.setPlanner (s : State) (p : Planner) : State := { s with pln := p }

/-- R95 to R98, R112: the planner named afresh in RUN, HALTING and HALTED, and a changed stop target handed to the
transport. -/
def refreshOnce (s : State) : State :=
  if s.seq.line.running then
    let p := planNow s
    let s1 := (retell p.cause s).setPlanner p
    if p.stop = s.pln.stop then s1 else takeTarget s.pln.stop p.stop s1
  else s

/-- The planner named afresh; a second time, because a target met at once may halt the line (R112, R104)
and so close the gate (R96). -/
def refresh (s : State) : State := refreshOnce (refreshOnce s)

/-! ### Firing and separation -/

/-- R52: the front FIRED record separates when the high-water position has reached its burst point, and
the next is tested on the same event. -/
def separateFired : Nat → State → State
  | 0, s => s
  | n + 1, s => match frontOf .fired s.trk.queue with
    | none => s
    | some r =>
      if reached s.enc.highWater (s.burstPoint r) then
        separateFired n (s.editSheet r.anchor fun x => { x with stage := .separated, sepPos := some s.enc.belt })
      else s

/-- R12: the burst lead in force. -/
def State.lead (s : State) : Word := word (burstLead s.enc.vm (s.setupN 15))

/-- R50: the gate and the stop target let the record go. -/
def notHeld (r : Sheet) (s : State) : Bool :=
  !(decide (s.pln.gateSheet = some r.anchor) && !s.pln.gateOpen)
    && !(decide (s.pln.stop = some (s.park r)) && decide (s.pln.cause ≠ .runout))

/-- R50, R61: whether the front READ_DONE record goes: a READ or LEAD_IN record fires at its burst point
less the lead, the tail separates at its burst point. -/
def mayGo (r : Sheet) (s : State) : Bool :=
  r.assignment.isSome && notHeld r s &&
  match r.origin with
  | .tail => reached s.enc.highWater (s.burstPoint r)
  | .read | .leadIn => reached s.enc.highWater (s.burstPoint r - s.lead)

/-- R50, R51, R61: the record goes. SNAP is issued for all but the tail. -/
def goSheet (r : Sheet) (s : State) : State :=
  match r.origin with
  | .tail => s.editSheet r.anchor fun x => { x with stage := .separated, sepPos := some s.enc.belt }
  | .read | .leadIn =>
    let s1 := s.editSheet r.anchor fun x => { x with stage := .fired }
    separateFired s1.trk.queue.length
      { s1 with trk := { s1.trk with snap := true, snapTimer := Timer.start Config.snapTime } }

/-- R50, R95: the front READ_DONE record is tested, and after it goes the gate is named afresh and the next is
tested. -/
def fireFor : Nat → State → State
  | 0, s => s
  | n + 1, s => match frontOf .readDone s.trk.queue with
    | none => s
    | some r => if s.seq.line.running && mayGo r s then fireFor n (refresh (goSheet r s)) else s

/-- R50, R61: the firing test of the records that stand at the nip. -/
def fireTest (s : State) : State := fireFor s.trk.queue.length s

/-- The planner and the nip on a high-water advance or at a tick: R95 to R98, then R50. -/
def settle (s : State) : State := fireTest (refresh s)

/-- R50: whether the front READ_DONE record was assigned in the step from `old`. -/
def frontAssigned (old new : State) : Bool :=
  match frontOf .readDone new.trk.queue with
  | none => false
  | some r => r.assignment.isSome && ((findSheet r.anchor old.trk.queue).bind Sheet.assignment).isNone

/-- R50: the events other than an advance and a tick on which the firing test is made: the record was assigned, the
gate has opened, or the stop target was set, moved or removed, in the step from `old`. -/
def firingEvent (old new : State) : Bool :=
  frontAssigned old new || (!old.pln.gateOpen && new.pln.gateOpen) || decide (new.pln.stop ≠ old.pln.stop)

/-- The planner and the nip after any other event, of a step that began at `old`. -/
def settleSince (old s : State) : State :=
  let s1 := refresh s
  if firingEvent old s1 then fireTest s1 else s1

/-! ### The end of a step -/

/-- R91: the number of WAITING tickets. -/
def waitingTickets (t : List Ticket) : Nat := (t.filter fun x => x.state = .waiting).length

/-- R91: the tickets-low condition. -/
def ticketsLowNow (s : State) : Bool :=
  decide (waitingTickets s.tix.table < s.setupN 7) && decide (s.tix.fetchIndex = s.publish)

/-- R91: the cause TICKETS_LOW is latched when the condition turns true. -/
def ticketsLowTest (s : State) : State :=
  let now := ticketsLowNow s
  let s1 := { s with tix := { s.tix with low := now } }
  if now && !s.tix.low then latch .ticketsLow s1 else s1

/-- What is evaluated when a step's own effects are done: TICKETS_LOW (R91), the hold reason and WAITING
(R105, R106). -/
def endStep (s : State) : State := holdReasonTest (ticketsLowTest s)

/-- The same once the planner and the nip are settled, for a step that began at `old`. -/
def settleEnd (old s : State) : State := endStep (settleSince old s)

end Sys2Proof.Machine
end

