-- ==== Sys2Proof/Machine/Accumulator.lean ====
section
/-! DEFINITION. The build pocket (chapter 7): landings, the close of a set, the jog, the height check and
the drop. -/

namespace Sys2Proof.Machine

/-- R133: the drop starts. -/
def startDrop (s : State) : State :=
  hand [6] s { s with acc := { s.acc with
    state := .dropping, drop := true, dropTimer := Timer.start (s.setupN 29) } }

/-- R132: the set is placed: the drop starts, or the set waits for the hold pocket. -/
def placeSet (s : State) : State :=
  if s.rel.hold = .empty then startDrop s
  else hand [6] s { s with acc := { s.acc with state := .waitDrop } }

/-- R131: the tolerance of the stack height, in µm. -/
def heightTolerance (s : State) : Nat := s.setupN 33 / 2 + s.setupN 34

/-- R131: whether a stack of `n` sheets passes the height check. -/
def heightPasses (n : Nat) (s : State) : Bool :=
  s.pins.gauge.valid &&
    decide (((s.pins.gauge.reading.toNat * 5 : Nat) - (n * s.setupN 33 : Nat) : Int).natAbs ≤ heightTolerance s)

/-- R131: whether the check is made, and fails, for the set. -/
def heightFails (r : SetRecord) (s : State) : Bool :=
  (s.setup 39).getLsbD 1 && decide (r.owner ≠ .purge) && !heightPasses r.sheets.length s

/-- A reason added to a set record. -/
def SetRecord.add (reason : Reason) (r : SetRecord) : SetRecord := { r with reasons := r.reasons ||| reason.bit }

/-- R131: HEIGHT enters the record's reason set when the check fails. -/
def heightCheck (s : State) : State :=
  match s.acc.set with
  | none => s
  | some r => if heightFails r s then { s with acc := { s.acc with set := some (r.add .height) } } else s

/-- R130: the jog ends: JOG falls, the height check is made and the set is placed. -/
def endJog (s : State) : State :=
  placeSet (heightCheck { s with acc := { s.acc with jog := false, jogTimer := Timer.stopped } })

/-- R129: the jog time of a set of `n` sheets. -/
def jogTime (n : Nat) (s : State) : Nat := s.setupN 27 + n * s.setupN 28

/-- R129: the set closes. A jog time of 0 ends the jog at the close. -/
def closeSet (s : State) : State :=
  let t := jogTime ((s.acc.set.map fun r => r.sheets.length).getD 0) s
  if t = 0 then endJog (hand [6] s { s with acc := { s.acc with state := .jogging } })
  else hand [6] s { s with acc := { s.acc with state := .jogging, jog := true, jogTimer := Timer.start t } }

/-- R128: a close request for a set number. -/
def closeRequest (number : Index) (s : State) : State :=
  if s.acc.state = .collecting ∧ (s.acc.set.map SetRecord.number) = some number then closeSet s else s

/-- R125: an unread result. -/
def ReadResult.unread : ReadResult → Bool
  | .noFrame | .badCheck | .smudge | .format | .conflict => true
  | .pending | .ok | .leadIn => false

/-- R125: a separator sheet, OK with job tag 0. -/
def Sheet.separator (r : Sheet) : Bool :=
  decide (r.result = .ok) && (r.frame.map fun f => decide (f.tag = 0)).getD false

/-- R125: whether a landed sheet is an orphan. -/
def Sheet.orphan (r : Sheet) : Bool :=
  (r.assignment.map fun a => decide (a.owner = .purge)).getD false
    && !(r.separator || decide (r.result = .leadIn))

/-- R125: whether a landed sheet's length verdict is SHORT or LONG. -/
def Sheet.badLength (r : Sheet) : Bool := decide (r.verdict = some .short) || decide (r.verdict = some .long)

/-- R125: the reasons a landed sheet folds into its set. -/
def landedReasons (r : Sheet) (s : State) : BitVec 12 :=
  (if r.result.unread then Reason.unread.bit else 0) ||| (if r.orphan then Reason.orphan.bit else 0)
    ||| (if r.badLength && (s.setup 39).getLsbD 2 then Reason.length.bit else 0)

/-- R123: the record begun at the landing of a set's first sheet. -/
def newRecord (a : Assignment) (s : State) : SetRecord :=
  match a.owner with
  | .purge => { number := a.number, owner := .purge, sheets := [], reasons := 0, style := .flat }
  | .ticket ring => match findTicket ring s.tix.table with
    | some t => { number := a.number, owner := a.owner, sheets := [], reasons := t.reasons, style := t.style }
    | none => { number := a.number, owner := a.owner, sheets := [], reasons := 0, style := .flat }

/-- R123, R124: a landed sheet on top of a set record, its reasons folded in. -/
def SetRecord.land (r : Sheet) (s : State) (x : SetRecord) : SetRecord :=
  { x with sheets := x.sheets ++ [r.anchor], reasons := x.reasons ||| landedReasons r s }

/-- R123, R124, R127: the landing of a sheet. A record without an assignment never lands (R59) and would
change nothing; a landing in JOGGING, WAIT_DROP or DROPPING never happens (R124) and would only be
listed (notes/assumptions/13.md). -/
def landSheet (r : Sheet) (s : State) : State :=
  match r.assignment with
  | none => s
  | some a =>
    match s.acc.set with
    | none =>
      let s1 := hand [6] s { s with acc := { s.acc with
        state := .collecting, set := some ((newRecord a s).land r s) } }
      if r.setEnd then closeSet s1 else s1
    | some x =>
      let s1 := { s with acc := { s.acc with set := some (x.land r s) } }
      if r.setEnd ∧ s.acc.state = .collecting then closeSet s1 else s1

/-- R140: the hold pocket takes a set record. -/
def holdTakes (r : SetRecord) (s : State) : State :=
  releaseTest (hand [7] s { s with rel := { s.rel with hold := .holding, set := some r } })

/-- R133: the drop ends and the set record is handed to the hold pocket. -/
def endDrop (s : State) : State :=
  let s1 := hand [6] s { s with acc := { s.acc with
    state := .empty, set := none, drop := false, dropTimer := Timer.stopped } }
  match s.acc.set with
  | none => s1
  | some r => holdTakes r s1

/-- R132: the accumulator is told that the hold pocket is EMPTY. -/
def holdEmptied (s : State) : State := if s.acc.state = .waitDrop then startDrop s else s

end Sys2Proof.Machine
end

