-- ==== Sys2Proof/Machine/Tickets.lean ====
section
/-! DEFINITION. The ticket unit's reasons, outcomes and dispositions (R72, R73, R89, R90, R93), and the
collator's decisions (R74 to R88). -/

namespace Sys2Proof.Machine

/-! ### Reasons -/

/-- R126: a reason handed over for the set in the build pocket. -/
def buildReasonFor (ring : Index) (reason : Reason) (s : State) : State :=
  { s with acc := { s.acc with set := s.acc.set.map (SetRecord.addFor ring reason) } }

/-- R73: a reason enters a ticket's reason set and is handed to its sets in the pockets. -/
def addTicketReason (ring : Index) (reason : Reason) (s : State) : State :=
  holdReasonFor ring reason (buildReasonFor ring reason
    (s.editTicket ring fun t => { t with reasons := t.reasons ||| reason.bit }))

/-- The reasons, in the order of their bits. -/
def allReasons : List Reason :=
  [.short, .sequence, .lastMismatch, .unread, .oversize, .amended, .ticketInvalid, .sample, .pull, .orphan,
    .length, .height]

/-- R89: each reason of a set enters its ticket's reason set. -/
def addReasons (ring : Index) (reasons : BitVec 12) (s : State) : State :=
  allReasons.foldl (fun s r => if reasons &&& r.bit = 0 then s else addTicketReason ring r s) s

/-! ### Dispositions -/

/-- R90: a disposition is made and the ticket becomes DISPOSING. -/
def makeDisposition (outcome : PieceOutcome) (t : Ticket) (s : State) : State :=
  let s1 := s.editTicket t.ring fun x => { x with state := .disposing }
  { s1 with tix := { s1.tix with waiting := s1.tix.waiting ++
      [{ ring := t.ring, serial := t.serial, outcome := outcome, count := t.assigned, reasons := t.reasons }] } }

/-- R90: a CLOSED ticket all of whose sets have reached an outcome is disposed. -/
def disposeIfFinal (ring : Index) (s : State) : State :=
  match findTicket ring s.tix.table with
  | none => s
  | some t =>
    if t.state = .closed ∧ t.setsFinal = t.setsIssued then
      makeDisposition (if t.diverted then .diverted else .delivered) t s
    else s

/-- R89: a set's final outcome reaches the ticket unit. -/
def reportOutcome (owner : Owner) (reasons : BitVec 12) (diverted : Bool) (s : State) : State :=
  match owner with
  | .purge => s
  | .ticket ring => match findTicket ring s.tix.table with
    | none => s
    | some t =>
      if t.state = .collating ∨ t.state = .closed then
        disposeIfFinal ring ((addReasons ring reasons s).editTicket ring fun x =>
          { x with diverted := x.diverted || diverted, setsFinal := x.setsFinal + 1 })
      else s

/-- R93: whether a path reset abandons a ticket. -/
def Ticket.inPath (t : Ticket) : Bool := decide (t.state = .collating) || decide (t.state = .closed)

/-- R93: the tickets whose sheets are in the path are abandoned, in ring order. -/
def abandonTickets (s : State) : State :=
  (s.tix.table.filter Ticket.inPath).foldl (fun s t => makeDisposition .abandoned t s) s

/-! ### Assignments and set ends -/

/-- R49: an assignment, and the set-end mark with it, written into the record of an anchor; the planner
looks at its halt sheet again (R101). -/
def assign (anchor : Word) (a : Assignment) (setEnd : Bool) (s : State) : State :=
  haltAtAssignment anchor a.position (s.editSheet anchor fun r =>
    { r with assignment := some a, setEnd := r.setEnd || setEnd })

/-- R77: a set ended after its last sheet was assigned: the set-end mark, or a close request when the
sheet has landed (R49). -/
def endSetAt (o : OpenSet) (s : State) : State :=
  match findSheet o.lastSheet s.trk.queue with
  | some _ => s.editSheet o.lastSheet fun r => { r with setEnd := true }
  | none => closeRequest o.number s

/-- The open set becomes none. -/
def forgetOpen (s : State) : State := { s with col := { s.col with openSet := none } }

/-- R77: the open set ends. -/
def endOpenSet (s : State) : State :=
  match s.col.openSet with
  | none => s
  | some o => forgetOpen (endSetAt o s)

/-- R77: the open set ends when it is a purge set. -/
def endPurgeSet (s : State) : State :=
  match s.col.openSet with
  | some o => if o.owner = .purge then forgetOpen (endSetAt o s) else s
  | none => s

/-- R77: the open set ends when the ticket owns it. -/
def endTicketSet (ring : Index) (s : State) : State :=
  match s.col.openSet with
  | some o => if o.owner = .ticket ring then forgetOpen (endSetAt o s) else s
  | none => s

/-- R71: the COLLATING ticket. -/
def collating (s : State) : Option Ticket := s.tix.table.find? fun t => t.state = .collating

/-- R71: the current ticket. -/
def currentTicket (s : State) : Option Ticket :=
  match collating s with
  | some t => some t
  | none => s.tix.table.find? fun t => t.state = .waiting

/-- R77: closing a ticket's piece. -/
def closePiece (ring : Index) (s : State) : State :=
  disposeIfFinal ring ((endTicketSet ring (addTicketReason ring .short s)).editTicket ring fun t =>
    { t with state := .closed })

/-- R77: the COLLATING ticket's piece, if there is one, is closed. -/
def closeCollating (s : State) : State :=
  match collating s with
  | none => s
  | some t => closePiece t.ring s

/-- R76: the set counter goes from 65,535 to 1. -/
def nextSet (n : Index) : Index := if n = 65535 then 1 else n + 1

/-- R76: the set a ticket's sheet joins, begun if the open set is not the ticket's. -/
def openFor (ring : Index) (s : State) : State :=
  if (s.col.openSet.map OpenSet.owner) = some (.ticket ring) then s
  else
    let s1 := endPurgeSet s
    let n := nextSet s1.col.setCounter
    let s2 := { s1 with col := { s1.col with
      setCounter := n, openSet := some { number := n, owner := .ticket ring, sheets := 0, lastSheet := 0 } } }
    s2.editTicket ring fun t => { t with setsIssued := t.setsIssued + 1 }

/-- The open set with one sheet more. -/
def OpenSet.add (anchor : Word) (o : OpenSet) : OpenSet := { o with sheets := o.sheets + 1, lastSheet := anchor }

/-- R76: a sheet joins a ticket's set. `lastFlag` is whether it is OK and carries the last flag. -/
def joinTicket (ring : Index) (anchor : Word) (lastFlag : Bool) (s : State) : State :=
  let s1 := openFor ring s
  match s1.col.openSet, findTicket ring s1.tix.table with
  | some o, some t =>
    let o' := o.add anchor
    let n := t.assigned + 1
    let ends := decide (n = t.count) || decide (n = 255) || lastFlag
    let splits := !ends && decide (o'.sheets = Config.setCapacity)
    let s2 := s1.editTicket ring fun x => { x with
      assigned := n, state := if ends then .closed else .collating }
    let s3 := { s2 with col := { s2.col with openSet := if ends || splits then none else some o' } }
    let s4 := assign anchor { owner := o.owner, number := o.number, position := o'.sheets } (ends || splits) s3
    if splits then addTicketReason ring .oversize s4 else s4
  | _, _ => s1

/-- R79: the purge set a sheet joins, begun if none is open. -/
def openPurge (s : State) : State :=
  match s.col.openSet with
  | some _ => s
  | none =>
    let n := nextSet s.col.setCounter
    { s with col := { s.col with
        setCounter := n, openSet := some { number := n, owner := .purge, sheets := 0, lastSheet := 0 } } }

/-- R79: a sheet joins a purge set. -/
def joinPurge (anchor : Word) (s : State) : State :=
  let s1 := openPurge s
  match s1.col.openSet with
  | none => s1
  | some o =>
    let o' := o.add anchor
    let full := decide (o'.sheets = Config.setCapacity)
    assign anchor { owner := .purge, number := o.number, position := o'.sheets } full
      { s1 with col := { s1.col with openSet := if full then none else some o' } }

/-! ### The decisions -/

/-- R82: an orphan: the COLLATING ticket's piece is closed and the sheet joins a purge set. -/
def orphanSheet (anchor : Word) (s : State) : State := joinPurge anchor (closeCollating s)

/-- R80: the checks of a sheet with the current ticket's serial. -/
def checkSheet (t : Ticket) (f : Frame) (s : State) : State :=
  let i := f.index.toNat
  let s1 := if i = t.expected then s else addTicketReason t.ring .sequence s
  let s2 := s1.editTicket t.ring fun x => { x with expected := i + 1 }
  if f.isLast = decide (i + 1 = t.count) then s2 else addTicketReason t.ring .lastMismatch s2

/-- R80: the checks and the join of a sheet with the current ticket's serial. -/
def decideCurrent (t : Ticket) (anchor : Word) (f : Frame) (s : State) : State :=
  joinTicket t.ring anchor f.isLast (checkSheet t f s)

/-- R81: the WAITING tickets before the matching one are passed over, in ring order. -/
def passOver (ring : Index) (s : State) : State :=
  ((s.tix.table.takeWhile fun t => t.ring ≠ ring).filter fun t => t.state = .waiting).foldl
    (fun s t => makeDisposition .notSeen t s) s

/-- R81: the matching ticket, the first WAITING one of that serial. -/
def matchWaiting (serial : Serial) (s : State) : Option Ticket :=
  s.tix.table.find? fun t => t.state = .waiting ∧ t.serial = serial

/-- R78: which line of the table an OK frame fits. -/
inductive FrameCase where
  | separator
  | foreign
  | current (t : Ticket)
  | newer (t : Ticket)
  | late
  | unknown
  deriving DecidableEq, Repr

/-- R78 lines 5 and 6: the serial of a piece that is over. -/
def lateSerial (serial : Serial) (s : State) : Bool :=
  (s.tix.table.any fun t => t.serial = serial ∧
    (t.state = .closed ∨ t.state = .disposing ∨ t.state = .disposed)) || s.tix.retired.contains serial

/-- R78: the judgment of an OK frame. -/
def frameCase (f : Frame) (s : State) : FrameCase :=
  if f.tag = 0 then .separator
  else if f.tag.setWidth 32 ≠ s.setup 8 then .foreign
  else match (currentTicket s).filter fun t => t.serial = f.serial with
    | some t => .current t
    | none => match matchWaiting f.serial s with
      | some t => .newer t
      | none => if lateSerial f.serial s then .late else .unknown

/-- R83: the collator stalls at the sheet; TICKET_WAIT is offered when the stall begins. -/
def stallAt (anchor : Word) (serial : Serial) (s : State) : State :=
  if s.col.stall = some serial then s
  else offer (.ticketWait serial anchor) (hand [15] s { s with col := { s.col with stall := some serial } })

/-- R78 to R83: an OK frame decided; false when the collator stops at it. DEDUCED (notes/assumptions/31.md; "unsafe"):
where the pending sheet has just completed a one-sheet piece and a WAITING ticket of the same serial stands, R86's last
paragraph calls the record an orphan and R78's line order gives it to that ticket; the model follows R78. -/
def decideFrame (anchor : Word) (f : Frame) (s : State) : State × Bool :=
  match frameCase f s with
  | .separator => (orphanSheet anchor s, true)
  | .foreign => (takeFault .foreignSheet false (foreignDetail f) s, false)
  | .current t => (decideCurrent t anchor f s, true)
  | .newer t => (decideCurrent t anchor f (passOver t.ring (closeCollating s)), true)
  | .late => (orphanSheet anchor s, true)
  | .unknown =>
    if Config.tableCapacity ≤ s.tix.table.length then (orphanSheet anchor s, true)
    else (stallAt anchor f.serial s, false)

/-- The pending unread sheet set or cleared. -/
def setPending (p : Option Word) (s : State) : State := { s with col := { s.col with pendingRead := p } }

/-- R86: whether the next record leaves the pending sheet pending: a stall or a foreign tag. -/
def keepsPending (f : Frame) (s : State) : Bool :=
  match frameCase f s with
  | .foreign => true
  | .unknown => decide (s.tix.table.length < Config.tableCapacity)
  | _ => false

/-- R86: the WAITING ticket whose index 0 the pending sheet becomes. -/
def pendingMatch (f : Frame) (s : State) : Option Ticket :=
  match frameCase f s with
  | .current t | .newer t => if f.index = 1 ∧ t.state = .waiting then some t else none
  | _ => none

/-- R86: the pending sheet becomes index 0 of a ticket. -/
def pendingJoins (t : Ticket) (pend : Word) (s : State) : State :=
  let s1 := joinTicket t.ring pend false (passOver t.ring s)
  addTicketReason t.ring .unread (s1.editTicket t.ring fun x => { x with expected := 1 })

/-- R86: an OK frame decides the pending sheet. -/
def decidePending (f : Frame) (s : State) : State :=
  match s.col.pendingRead with
  | none => s
  | some pend =>
    if keepsPending f s then s
    else match pendingMatch f s with
      | some t => pendingJoins t pend (setPending none s)
      | none => joinPurge pend (setPending none s)

/-- R84: an unread sheet of the COLLATING ticket's piece. -/
def unreadJoins (t : Ticket) (anchor : Word) (s : State) : State :=
  let s1 := joinTicket t.ring anchor false s
  addTicketReason t.ring .unread (s1.editTicket t.ring fun x => { x with expected := min 255 (x.expected + 1) })

/-- R84 to R86: an unread sheet. -/
def decideUnread (anchor : Word) (s : State) : State :=
  match collating s with
  | some t => unreadJoins t anchor s
  | none => match s.col.pendingRead with
    | some pend => setPending (some anchor) (joinPurge pend s)
    | none => setPending (some anchor) s

/-- R78: one offered record decided; false when the collator stops at it. -/
def decideSheet (r : Sheet) (s : State) : State × Bool :=
  match r.result, r.frame with
  | .leadIn, _ => (joinPurge r.anchor s, true)
  | .ok, some f => decideFrame r.anchor f (decidePending f s)
  | _, _ => (decideUnread r.anchor s, true)

/-- R75: the next record offered after the cursor's, and the end of a stall (R83). -/
def advanceCursor (anchor : Word) (s : State) : State :=
  let next := match sheetsAfter anchor s.trk.queue with
    | r :: _ => if r.stage = .readDone then some r.anchor else none
    | [] => none
  hand [15] s { s with col := { s.col with cursor := next, stall := none } }

/-- R74, R92: the line states in which the collator decides. -/
def collatorActs (l : LineState) : Bool := l.running || decide (l = .register)

/-- R75: the collator decides record after record until it stops or none is offered. -/
def collateFor : Nat → State → State
  | 0, s => s
  | n + 1, s =>
    if !collatorActs s.seq.line then s
    else match s.col.cursor.bind fun a => findSheet a s.trk.queue with
      | none => s
      | some r =>
        let d := decideSheet r s
        if d.2 then collateFor n (advanceCursor r.anchor d.1) else d.1

/-- R88: the pending unread sheet becomes an orphan at runout. -/
def orphanPending (s : State) : State :=
  match s.col.pendingRead with
  | none => s
  | some pend => joinPurge pend (setPending none s)

/-- R88: at runout, once every record is decided, the pending sheet, the piece and the purge set end. -/
def runoutClose (s : State) : State :=
  if s.col.runoutNoted && s.col.cursor.isNone && collatorActs s.seq.line then
    endPurgeSet (closeCollating (orphanPending s))
  else s

/-- R75, R88: the collator at work. -/
def collate (s : State) : State := runoutClose (collateFor (s.trk.queue.length + 1) s)

/-- R47, R75: a record is offered to the collator. -/
def offerSheet (anchor : Word) (s : State) : State :=
  match s.col.cursor with
  | some _ => s
  | none => collate { s with col := { s.col with cursor := some anchor } }

/-- R60 step 3, R88: the collator is told of the runout. DEDUCED (notes/assumptions/29.md; "unsafe"): so it is when
the tail it was offered before has raised FOREIGN_SHEET, although R92 keeps the collator's state in FAULT. -/
def noteRunout (s : State) : State := runoutClose { s with col := { s.col with runoutNoted := true } }

end Sys2Proof.Machine
end

