-- ==== Sys2Proof/Machine/Tracking.lean ====
section
/-! DEFINITION. Sheet tracking (chapter 3): perforations and settles, re-anchoring, registration,
runout, the tests of a high-water advance, and the belt's windows, edges and landings. -/

namespace Sys2Proof.Machine

/-! ### The settle of the READ_OPEN record -/

/-- R32: the result a sheet verdict gives at the settle, with the fields of an OK frame. -/
def Verdict.result (v : Verdict) : ReadResult × Option Frame :=
  match v.governing with
  | none => (.noFrame, none)
  | some g => match g.result with
    | none => (.format, none)
    | some r =>
      if v.conflict then (.conflict, none)
      else match r with
        | .ok f => (.ok, some f)
        | .badCheck => (.badCheck, none)
        | .format => (.format, none)
        | .smudge => (.smudge, none)

/-- R32: the reader after a settle: a frame in progress is dropped and the verdict emptied. -/
def Reader.settled (r : Reader) : Reader :=
  { r with
    state := if r.state = .blocked then .blocked else .hunt
    regs := FrameRegs.cleared
    verdict := Verdict.empty }

/-- R32: SHEET_READ for an OK result, SHEET_UNREAD for any other. -/
def settleEvent (result : ReadResult) (frame : Option Frame) (anchor : Word) : Event :=
  match result, frame with
  | .ok, some f => .sheetRead f
  | _, _ => .sheetUnread result anchor

/-- R45 step 1, R60 step 2: the READ_OPEN record settles: the reader's result is written, the stage becomes
READ_DONE, and the record is offered to the collator. A STOP halt may choose it (R102). -/
def settleRecord (r : Sheet) (origin : SheetOrigin) (s : State) : State :=
  let v := s.rd.verdict.result
  let s1 := offer (settleEvent v.1 v.2 r.anchor) { s with rd := s.rd.settled }
  let s2 := s1.editSheet r.anchor fun x => { x with
    result := v.1, frame := v.2, origin := origin, stage := .readDone }
  offerSheet r.anchor (haltAtSettle r.anchor s2)

/-- R41: the READ_OPEN record. -/
def readOpen (s : State) : Option Sheet := frontOf .readOpen s.trk.queue

/-- A record as it is created (R40). -/
def newSheet (anchor : Word) (origin : SheetOrigin) : Sheet :=
  { anchor := anchor, origin := origin
    result := match origin with
      | .leadIn => .leadIn
      | _ => .pending
    frame := none, assignment := none, setEnd := false
    stage := match origin with
      | .leadIn => .readDone
      | _ => .readOpen
    sepPos := none, leadPos := none, length := none, verdict := none }

/-- A record joins the queue at the newest end. -/
def pushSheet (r : Sheet) (s : State) : State :=
  { s with trk := { s.trk with queue := s.trk.queue ++ [r] } }

/-- R45 step 1: the READ_OPEN record, if there is one, settles at a perforation. -/
def settleOpen (s : State) : State :=
  match readOpen s with
  | none => s
  | some r => settleRecord r r.origin s

/-- R45 steps 2 and 3, R46: the record of the perforation at `p` is created, or the queue overflows. -/
def createAtPerf (p : Word) (settled : Word) (s : State) : State :=
  if s.trk.queue.length < Config.trackCapacity then
    let r := newSheet p .read
    haltAtCreation r (pushSheet r { s with trk := { s.trk with nextPerf := some (p + s.setup 9) } })
  else takeFault .trackOverflow false settled { s with trk := { s.trk with nextPerf := none } }

/-- R45: the perforation at `p` is taken. A fault the collator reports at step 1 ends it there (R62). -/
def takePerforation (p : Word) (s : State) : State :=
  let settled := ((readOpen s).map Sheet.anchor).getD p
  let s1 := settleOpen s
  if s1.seq.line.running then createAtPerf p settled s1 else s1

/-- R45: a high-water advance to `h` tested against the next perforation. -/
def perforationTest (h : Word) (s : State) : State :=
  if s.seq.line.running && s.trk.registered && !s.trk.runout then
    match s.trk.nextPerf with
    | some p => if reached h p then takePerforation p s else s
    | none => s
  else s

/-! ### Re-anchoring and registration -/

/-- R48: the READ_OPEN record is re-anchored by `d`. -/
def reanchor (d : Word) (s : State) : State :=
  match readOpen s with
  | none => s
  | some r =>
    let s1 := s.editSheet r.anchor fun x => { x with anchor := r.anchor + d }
    let s2 := { s1 with trk := { s1.trk with nextPerf := s1.trk.nextPerf.map fun p => p + d } }
    offer (.sheetReanchor (r.anchor + d) d) (haltAtReanchor r.anchor d s2)

/-- R44 step 2, R87: one lead-in record is created and offered. -/
def addLeadIn (anchor : Word) (s : State) : State := offerSheet anchor (pushSheet (newSheet anchor .leadIn) s)

/-- R44 step 2: the lead-in records, at `i` form lengths before `a`, oldest first. -/
def addLeadIns (a : Word) : Nat → State → State
  | 0, s => s
  | i + 1, s => addLeadIns a i (addLeadIn (a - word ((i + 1) * s.setupN 9)) s)

/-- R60 steps 3 and 4, R103, R167: the collator is told of the runout, the planner takes the runout target and
the line enters HALTING. A fault the collator reported ends it before that (R104). -/
def runoutHalt (tailBurst : Option Word) (s : State) : State :=
  let s1 := noteRunout s
  if s1.seq.line = .run then
    let s2 := { s1 with pln := { s1.pln with
      haltKind := .runout, haltSheet := .none
      haltTarget := tailBurst.map fun b => b + word Config.runoutMargin } }
    changeLine .halting .runout s2
  else s1

/-- R60: runout is taken. -/
def takeRunout (s : State) : State :=
  let s1 := { s with trk := { s.trk with runout := true, nextPerf := none } }
  match readOpen s1 with
  | none => runoutHalt none s1
  | some r => runoutHalt (some (s1.burstPoint r)) (settleRecord r .tail s1)

/-- R60: runout is taken at the first moment at which the line is in RUN, the web is registered, the
runout flag is clear and WEB_PRESENT is low. -/
def runoutTest (s : State) : State :=
  if decide (s.seq.line = .run) && s.trk.registered && !s.trk.runout && !s.pins.webPresent then takeRunout s
  else s

/-- R44, R34: the web registers on the frame `f` whose dark edge is `edge`. The lead-in records stop nothing
(R87), so the line is still in REGISTER at the end (notes/assumptions/13.md). -/
def registerWeb (edge : Word) (f : Frame) (s : State) : State :=
  let a := edge - s.setup 10
  let s1 := { s with rd := { s.rd with
    searching := false
    verdict := { governing := some { edge := edge, d := 0, result := some (.ok f) }, conflict := false } } }
  let s2 := pushSheet (newSheet a .read) (addLeadIns a (s.setupN 13 / s.setupN 9) s1)
  let s3 := { s2 with
    trk := { s2.trk with nextPerf := some (a + s.setup 9), registered := true }
    enc := { s2.enc with highWater := s2.enc.web, runContext := true, reverseReported := false }
    seq := { s2.seq with regLimit := none } }
  if s3.seq.line = .register then runoutTest (changeLine .run .none s3) else s3

/-! ### A high-water advance -/

/-- R53: the READ_DONE record overrun at `h`. -/
def overrunAt (h : Word) (s : State) : Option Sheet :=
  s.trk.queue.find? fun r => r.stage = .readDone ∧ s.burstPoint r + s.setup 14 = h

/-- R53: a web that covers a held sheet's burst point plus the park margin reports HOLD_OVERRUN. -/
def overrunTest (h : Word) (s : State) : State :=
  if s.seq.line.running then
    match overrunAt h s with
    | some r => takeFault .holdOverrun false r.anchor s
    | none => s
  else s

/-- R52: the FIRED records that the high-water position has reached separate. -/
def separationTest (s : State) : State :=
  if s.seq.line.running then separateFired s.trk.queue.length s else s

/-- R45, R50, R52, R53: what tracking does on a high-water advance to `h`. -/
def trackAdvance (h : Word) (s : State) : State :=
  overrunTest h (settle (separationTest (perforationTest h s)))

/-! ### The belt -/

/-- R54: the centre of a record's trailing window; the leading window's lies one form length before. -/
def windowCentre (lead : Bool) (r : Sheet) (s : State) : Word :=
  let c := r.sepPos.getD 0 + s.setup 23
  if lead then c - s.setup 9 else c

/-- R54: the opening of a window. -/
def windowFrom (lead : Bool) (r : Sheet) (s : State) : Word := windowCentre lead r s - s.setup 25

/-- R54: the end of a window. -/
def windowTo (lead : Bool) (r : Sheet) (s : State) : Word := windowCentre lead r s + s.setup 25

/-- R57: a stray edge; the detail flag is 0 for a leading edge and 1 for a trailing one (R203). -/
def strayEdge (lead : Bool) (s : State) : State := takeFault .strayEdge (!lead) s.enc.belt s

/-- R58: a missing edge of the record. -/
def missingEdge (lead : Bool) (r : Sheet) (s : State) : State := takeFault .missingSheet (!lead) r.anchor s

/-- R55, R56: an edge at the belt counter tested against its candidate's window: attributed by `take`, or
reported. -/
def attributeEdge (lead : Bool) (candidate : Option Sheet) (take : Sheet → State → State) (s : State) : State :=
  match candidate with
  | none => strayEdge lead s
  | some r =>
    if !reached s.enc.belt (windowFrom lead r s) then strayEdge lead s
    else if passed s.enc.belt (windowTo lead r s) then missingEdge lead r s
    else take r s

/-- R55: the leading edge is attributed. -/
def takeLeading (r : Sheet) (s : State) : State :=
  s.editSheet r.anchor fun x => { x with stage := .leadSeen, leadPos := some s.enc.belt }

/-- R56: the length verdict of a measured length. -/
def lengthVerdict (length : Word) (s : State) : LengthVerdict :=
  let d := length.toInt - (s.setupN 9 : Int)
  if d.natAbs ≤ s.setupN 26 then .ok else if d < 0 then .short else .long

/-- R56: the trailing edge is attributed. -/
def takeTrailing (r : Sheet) (s : State) : State :=
  let length := s.enc.belt - r.leadPos.getD 0
  let v := lengthVerdict length s
  let s1 := s.editSheet r.anchor fun x => { x with stage := .clear, length := some length, verdict := some v }
  if v = .ok then s1 else offer (.sheetLength v r.anchor length) s1

/-- R58: the front record of a stage tested against the end of its window. -/
def windowEndTest (lead : Bool) (st : Stage) (s : State) : State :=
  if s.seq.line.running then
    match frontOf st s.trk.queue with
    | some r => if passed s.enc.belt (windowTo lead r s) then missingEdge lead r s else s
    | none => s
  else s

/-- R59: the belt position at which a CLEAR record has landed: its trailing edge position plus the
sensor-to-pocket distance. -/
def landingPoint (r : Sheet) (s : State) : Word := r.leadPos.getD 0 + r.length.getD 0 + s.setup 24

/-- The record leaves the queue. -/
def dropSheet (anchor : Word) (s : State) : State :=
  { s with trk := { s.trk with queue := s.trk.queue.filter fun r => r.anchor ≠ anchor } }

/-- R59: the CLEAR records that have landed leave the queue and are handed to the accumulator. -/
def landFor : Nat → State → State
  | 0, s => s
  | n + 1, s => match frontOf .clear s.trk.queue with
    | none => s
    | some r => if reached s.enc.belt (landingPoint r s) then landFor n (landSheet r (dropSheet r.anchor s)) else s

/-- R59: the landings of a belt step. -/
def landings (s : State) : State := if s.seq.line.running then landFor s.trk.queue.length s else s

/-- R58, R59: what tracking does on a step of the belt counter. -/
def trackBelt (s : State) : State :=
  landings (windowEndTest false .leadSeen (windowEndTest true .separated s))

end Sys2Proof.Machine
end

