-- ==== Sys2Proof/Machine/Reader.lean ====
section
/-! DEFINITION. The margin code reader (chapter 2): the sampling grid, the frame, the check value, dark runs,
the sheet verdict, the registration search and the calibration sweep. -/

namespace Sys2Proof.Machine

/-! ### Where the reader acts (R19) -/

/-- R19: framing acts. -/
def framingActs (l : LineState) : Bool := l.running || decide (l = .register)

/-- R19: the dark-run watch acts. -/
def watchActs (l : LineState) : Bool := framingActs l || decide (l = .fault)

/-! ### The check value (R24) -/

/-- R24: one bit fed to the check register. -/
def checkStep (c : BitVec 16) (b : Bool) : BitVec 16 :=
  if b ^^ c.getLsbD 15 then (c <<< 1) ^^^ 0x8005 else c <<< 1

/-- The bits of a field, first received as most significant. -/
def bitsValue (bs : List Bool) : Nat := bs.foldl (fun n b => 2 * n + (if b then 1 else 0)) 0

/-- R25, R216: a field of the data bits, from bit `i` (counted from 0), `n` bits long. -/
def bitField (i n : Nat) (bs : List Bool) : Nat := bitsValue ((bs.drop i).take n)

/-- R25, R216: the four fields of the data bits. -/
def frameOf (bs : List Bool) : Frame :=
  { tag := BitVec.ofNat 8 (bitField 0 8 bs), serial := BitVec.ofNat 24 (bitField 8 24 bs)
    index := BitVec.ofNat 4 (bitField 32 4 bs), isLast := bs.getD 36 false }

/-- R24: the check word is the complement of the check value. -/
def checkCorrect (g : FrameRegs) : Bool :=
  decide (BitVec.ofNat 16 (bitField 37 16 g.bits) = g.check ^^^ 0xFFFF)

/-- R25: the result of a completed frame. -/
def completedResult (g : FrameRegs) : FrameResult := if checkCorrect g then .ok (frameOf g.bits) else .badCheck

/-! ### The end of a frame (R26, R30, R31, R34) -/

/-- The frame registers cleared and the reader back in HUNT; the grid origin and dark run are kept. -/
def Reader.toHunt (r : Reader) : Reader := { r with state := .hunt, regs := FrameRegs.cleared }

/-- R34: a frame that ends during the registration search. -/
def searchFrame (res : FrameResult) (edge : Word) (s : State) : State :=
  match res with
  | .ok f =>
    if f.tag.setWidth 32 = s.setup 8 then registerWeb edge f s
    else if f.tag = 0 then s
    else takeFault .foreignSheet false (foreignDetail f) s
  | _ => s

/-- R30: the governing frame ends. -/
def governingEnds (res : FrameResult) (g : Governing) (s : State) : State :=
  let s1 := { s with rd := { s.rd with verdict := { s.rd.verdict with
    governing := some { g with result := some res } } } }
  match res with
  | .ok _ => reanchor g.d s1
  | _ => s1

/-- R31: whether a result is OK. -/
def FrameResult.isOk : FrameResult → Bool
  | .ok _ => true
  | _ => false

/-- R30, R31, R33: a frame that ends while the reader reads for the READ_OPEN record. -/
def sheetFrame (res : FrameResult) (governs : Bool) (s : State) : State :=
  match readOpen s, s.rd.verdict.governing with
  | some _, some g =>
    if governs then governingEnds res g s
    else if res.isOk then
      { s with rd := { s.rd with verdict := { s.rd.verdict with conflict := true } } }
    else s
  | _, _ => s

/-- R26: a frame ends with a result. -/
def frameEnds (res : FrameResult) (s : State) : State :=
  let s1 := { s with rd := s.rd.toHunt }
  if s.seq.line = .register then
    (if s.rd.searching then searchFrame res s.rd.origin s1 else s1)
  else sheetFrame res s.rd.regs.governs s1

/-! ### The frame (R22 to R25) -/

/-- The frame registers replaced, and the reader state. -/
def setRegs (st : ReaderState) (g : FrameRegs) (s : State) : State :=
  { s with rd := { s.rd with state := st, regs := g } }

/-- R29: whether the completed flag counts for the READ_OPEN sheet, and its deviation. -/
def flagDeviation (s : State) : Option Word :=
  match readOpen s with
  | none => none
  | some r =>
    let d := s.rd.origin - (r.anchor + s.setup 10)
    if s.rd.verdict.governing.isNone ∧ d.toInt.natAbs ≤ s.setupN 11 then some d else none

/-- R22, R29: the opening flag completes and the reader enters DATA. -/
def flagCompletes (s : State) : State :=
  let g := { s.rd.regs with sample := s.rd.regs.sample + 1, darks := 0, bits := [] }
  if s.seq.line.running then
    match flagDeviation s with
    | some d => setRegs .data { g with governs := true } { s with rd := { s.rd with
        verdict := { s.rd.verdict with governing := some { edge := s.rd.origin, d := d, result := none } } } }
    | none => setRegs .data g s
  else setRegs .data g s

/-- R22: a sample in FLAG. -/
def flagSample (dark : Bool) (s : State) : State :=
  let g := s.rd.regs
  if g.sample < 5 then
    (if dark then setRegs .flag { g with sample := g.sample + 1, darks := g.darks + 1 } s
     else { s with rd := s.rd.toHunt })
  else if dark then { s with rd := s.rd.toHunt }
  else flagCompletes s

/-- R23, R24: a data bit held and, among the first 37, fed to the check register. -/
def takeBit (b : Bool) (g : FrameRegs) : FrameRegs :=
  { g with
    sample := g.sample + 1
    darks := if b then g.darks + 1 else 0
    bits := g.bits ++ [b]
    check := if g.bits.length < 37 then checkStep g.check b else g.check }

/-- R23: the field count starts again at 0 when CLOSE begins. -/
def enterClose (g : FrameRegs) (s : State) : State := setRegs .close { g with darks := 0 } s

/-- R23: a sample in DATA. -/
def dataSample (dark : Bool) (s : State) : State :=
  let g := s.rd.regs
  if g.darks < 4 then
    let g' := takeBit dark g
    if g'.bits.length = 53 ∧ g'.darks < 4 then enterClose g' s else setRegs .data g' s
  else if g.darks = 4 then
    let g' := { g with sample := g.sample + 1, darks := if dark then 5 else 0 }
    if dark then setRegs .data g' s
    else if g.bits.length = 53 then enterClose g' s
    else setRegs .data g' s
  else frameEnds (if dark then .smudge else .format) s

/-- R25: a sample in CLOSE. -/
def closeSample (dark : Bool) (s : State) : State :=
  let g := s.rd.regs
  if g.darks < 5 then
    (if dark then setRegs .close { g with sample := g.sample + 1, darks := g.darks + 1 } s
     else frameEnds .format s)
  else if dark then frameEnds .smudge s
  else frameEnds (completedResult g) s

/-- R21: a sample given to the reader state in force. -/
def frameSample (dark : Bool) (s : State) : State :=
  match s.rd.state with
  | .flag => flagSample dark s
  | .data => dataSample dark s
  | .close => closeSample dark s
  | .hunt | .blocked => s

/-! ### Dark runs (R27, R28) -/

/-- R27: a dark sample. At 64 the reader is blocked and the fault reported. -/
def darkSample (s : State) : State :=
  let n := min 65535 (s.rd.darkRun + 1)
  let s1 := { s with rd := { s.rd with darkRun := n } }
  if n = Config.blockedLength then
    takeFault .readerBlocked false (word n) { s1 with rd := { s1.rd with
      state := .blocked, regs := FrameRegs.cleared } }
  else s1

/-- R28: a blank sample at `h`. In BLOCKED it ends the blocked run. -/
def blankSample (h : Word) (s : State) : State :=
  let s1 := { s with rd := { s.rd with darkRun := 0 } }
  if s.rd.state = .blocked then
    offer (.darkClear s.rd.darkRun h) { s1 with rd := { s1.rd with state := .hunt } }
  else s1

/-- R27, R28: a sample given to the dark-run watch. -/
def watchSample (dark : Bool) (h : Word) (s : State) : State :=
  if watchActs s.seq.line then (if dark then darkSample s else blankSample h s) else s

/-- R21: the sample at `h`. -/
def takeSample (dark : Bool) (h : Word) (s : State) : State :=
  let s1 := watchSample dark h s
  if framingActs s1.seq.line then frameSample dark s1 else s1

/-- R21: whether `h` is a sample position. -/
def isSamplePosition (h : Word) (s : State) : Bool :=
  let d := signedDiff h (s.rd.origin + s.setup 12)
  decide (0 ≤ d) && decide (d.toNat % Config.markPitch = 0)

/-! ### The calibration sweep (R36 to R39) -/

/-- R39: whether a phase starts a run: it passes and its predecessor fails. -/
def runStart (m : List Bool) (p : Nat) : Bool := m.getD p false && !m.getD ((p + 11) % 12) false

/-- R39: the number of passing phases from `p` on, counted round, at most `n`. -/
def runLength (m : List Bool) : Nat → Nat → Nat
  | 0, _ => 0
  | n + 1, p => if m.getD (p % 12) false then 1 + runLength m n (p + 1) else 0

/-- R39: the longest run (start, length), the lower start among equals. -/
def longestRun (m : List Bool) : Nat × Nat :=
  (List.range 12).foldl (fun best p =>
    if runStart m p ∧ best.2 < runLength m 12 p then (p, runLength m 12 p) else best) (0, 0)

/-- R39: the phase chosen from the pass map. -/
def chosenPhase (m : List Bool) : Nat :=
  if m.all id then 6 else ((longestRun m).1 + ((longestRun m).2 - 1) / 2) % 12

/-- R38: the sweep ends with its result, and the line returns to IDLE (R163). `edge` is the dark-edge
position, or 0 when none was seen. -/
def sweepEnds (edge : Word) (s : State) : State :=
  let m := s.rd.sweep.passMap
  let passed := m.any id
  let s1 := { s with rd := { s.rd with sweep := { s.rd.sweep with state := .off } } }
  let s2 := if passed then
      { s1 with path := { s1.path with
          shadow := s1.path.shadow.set 12 (word (chosenPhase m)), phaseReport := true } }
    else s1
  let s3 := latch .calibrated (enterIdle s2)
  offer (.calibration passed (s3.setup 12) m edge) s3

/-- R37: a sample of the sweep at the distance `n` past the edge. -/
def sweepSample (dark : Bool) (n : Nat) (w : Sweep) : Sweep :=
  if dark = decide (n / 12 % 2 = 0) then w else { w with passMap := w.passMap.set (n % 12) false }

/-- R36 to R38: the sweep on a high-water advance to `h`. -/
def sweepAdvance (h : Word) (s : State) : State :=
  match s.rd.sweep.state with
  | .off => s
  | .seeking => if reached h s.rd.sweep.seekLimit then sweepEnds 0 s else s
  | .sweeping =>
    let d := signedDiff h s.rd.sweep.edge
    if 780 ≤ d then sweepEnds s.rd.sweep.edge s
    else if 1 ≤ d ∧ d ≤ 767 then
      { s with rd := { s.rd with sweep := sweepSample s.pins.mark d.toNat s.rd.sweep } }
    else s

/-! ### The reader's two kinds of event -/

/-- R21, R36: what the reader does on a high-water advance to `h`. -/
def readerAdvance (h : Word) (s : State) : State :=
  if s.seq.line = .calibrate then sweepAdvance h s
  else if isSamplePosition h s then takeSample s.pins.mark h s
  else s

/-- R20: a usable edge in HUNT starts a candidate flag; with the phase at 0 its sample 0 is taken as dark at
the edge itself (R21). -/
def startFlag (s : State) : State :=
  let s1 := { s with rd := { s.rd with
    state := .flag, origin := s.enc.web, darkRun := 0, regs := FrameRegs.cleared } }
  if s.setup 12 = 0 then takeSample true s.enc.web s1 else s1

/-- R36: a usable edge in SEEKING starts the sweep. -/
def startSweep (s : State) : State :=
  { s with rd := { s.rd with sweep :=
    { s.rd.sweep with state := .sweeping, edge := s.enc.web, passMap := List.replicate 12 true } } }

/-- R20, R36: a usable mark edge, latched at the web counter. -/
def usableEdge (s : State) : State :=
  if s.seq.line = .calibrate then (if s.rd.sweep.state = .seeking then startSweep s else s)
  else if framingActs s.seq.line ∧ s.rd.state = .hunt then startFlag s
  else s

end Sys2Proof.Machine
end

