-- ==== Sys2Proof/Machine/Motion.lean ====
section
/-! DEFINITION. The encoders, the mark head, the belt sensor, the tick and the step pulse: WEB_MOTION_EVENT,
BELT_STEP, MARK_EDGE, LEADING_EDGE, TRAILING_EDGE, TICK, STEP_PULSE, SNAP_END. -/

namespace Sys2Proof.Machine

/-- A next state. -/
abbrev Out := Host.Outcome State Fault Refusal

/-! ### Web motion -/

/-- R118: the slip check at a change of either counter, with the level DRIVE_ENABLE had at the change: a fault that
the same event has raised does not take the test away. -/
def slipTest (drive : Bool) (s : State) : State :=
  if drive then
    if s.setupN 21 < s.deviation.toInt.natAbs then
      (if s.tr.slipReported then s
       else takeFault .slip false s.deviation { s with tr := { s.tr with slipReported := true } })
    else { s with tr := { s.tr with slipReported := false } }
  else s

/-- R9: the reverse watch. -/
def reverseTest (s : State) : State :=
  if s.enc.runContext then
    if (s.setupN 22 : Int) < signedDiff s.enc.highWater s.enc.web then
      (if s.enc.reverseReported then s
       else takeFault .reverse false s.enc.highWater { s with enc := { s.enc with reverseReported := true } })
    else { s with enc := { s.enc with reverseReported := false } }
  else s

/-- R162: a high-water advance to `h` tested against the registration limit. -/
def regLimitTest (h : Word) (s : State) : State :=
  match s.seq.regLimit with
  | none => s
  | some l =>
    if s.seq.line = .register ∧ ¬ s.seq.stopPending ∧ reached h l then takeFault .noRegistration false l s else s

/-- R6: a high-water advance event: the reader, the registration limit, then tracking, which takes no
action on the event that registers the web (R43, R44). -/
def highWaterAdvance (h : Word) (s : State) : State :=
  let s1 := regLimitTest h (readerAdvance h s)
  if s.seq.line.running then trackAdvance h s1 else s1

/-- R6: the high-water logic of a web motion event. -/
def highWaterTest (s : State) : State :=
  if 0 < signedDiff s.enc.web s.enc.highWater then
    highWaterAdvance s.enc.web { s with enc := { s.enc with highWater := s.enc.web } }
  else s

/-- R1: a step of the web counter. -/
def webStep (d : Word) (s : State) : State :=
  slipTest s.tr.driveEnable (reverseTest (highWaterTest { s with enc := { s.enc with web := s.enc.web + d } }))

/-- The height gauge as it stands when the step is taken (R131). -/
def setGauge (g : Gauge) (s : State) : State := { s with pins := { s.pins with gauge := g } }

/-- The end of a web motion event. Tracking has made its firing test on an advance (trackAdvance); an event that does
not advance, and the one that registers the web, fires nothing (R6, R44). -/
def endMoved (s : State) : State := endStep (refresh s)

/-- R1, R2: the web encoder takes new channel levels. -/
def webChannels (a b : Bool) (s : State) : State :=
  let s1 := { s with pins := { s.pins with webA := a, webB := b } }
  match quadStep s.pins.webA s.pins.webB a b with
  | .same => s1
  | .forward => endMoved (webStep 1 s1)
  | .reverse => endMoved (webStep (-1) s1)
  | .illegal => endStep (takeFault .encoder false 0 s1)

/-- WEB_MOTION_EVENT. -/
def execWebMotionEvent (a b : Bool) (g : Gauge) (s : State) : Out := .next (webChannels a b (setGauge g s))

/-- R3: a step of the belt counter. -/
def beltMoved (d : Word) (s : State) : State := trackBelt { s with enc := { s.enc with belt := s.enc.belt + d } }

/-- R3: the belt encoder takes new channel levels. -/
def beltChannels (a b : Bool) (s : State) : State :=
  let s1 := { s with pins := { s.pins with beltA := a, beltB := b } }
  match quadStep s.pins.beltA s.pins.beltB a b with
  | .same => s1
  | .forward => settleEnd s (beltMoved 1 s1)
  | .reverse => settleEnd s (beltMoved (-1) s1)
  | .illegal => endStep (takeFault .encoder true 0 s1)

/-- BELT_STEP. -/
def execBeltStep (a b : Bool) (g : Gauge) (s : State) : Out := .next (beltChannels a b (setGauge g s))

/-! ### The mark head and the belt sensor -/

/-- R8, R20: a change of MARK; a blank-to-dark edge is usable on the high-water position. -/
def markChange (dark : Bool) (s : State) : State :=
  let s1 := { s with pins := { s.pins with mark := dark } }
  if dark ∧ ¬ s.pins.mark ∧ s.enc.web = s.enc.highWater then usableEdge s1 else s1

/-- MARK_EDGE. -/
def execMarkEdge (dark : Bool) (s : State) : Out := .next (markChange dark s)

/-- R54, R55: BELT_EDGE rises. -/
def beltEdgeRises (s : State) : State :=
  let s1 := { s with pins := { s.pins with beltEdge := true } }
  if ¬ s.pins.beltEdge ∧ s.seq.line.running then
    attributeEdge true (frontOf .separated s1.trk.queue) takeLeading s1
  else s1

/-- LEADING_EDGE. -/
def execLeadingEdge (s : State) : Out := .next (beltEdgeRises s)

/-- R54, R56: BELT_EDGE falls. -/
def beltEdgeFalls (s : State) : State :=
  let s1 := { s with pins := { s.pins with beltEdge := false } }
  if s.pins.beltEdge ∧ s.seq.line.running then
    attributeEdge false (frontOf .leadSeen s1.trk.queue) takeTrailing s1
  else s1

/-- TRAILING_EDGE. -/
def execTrailingEdge (s : State) : Out := .next (beltEdgeFalls s)

/-! ### Step pulses -/

/-- R111: whether the command counter has reached the tick's target. -/
def atTarget (s : State) : Bool := (s.tr.targetC.map fun t => reached s.tr.command t).getD false

/-- R110, R111, R118: one of the tick's due pulses is emitted. With none due STEP stays low. -/
def emitPulse (s : State) : State :=
  if s.tr.emitted < s.tr.due ∧ s.tr.driveEnable then
    let s1 := slipTest true { s with tr := { s.tr with
      command := s.tr.command + 1, emitted := s.tr.emitted + 1, stepOut := true } }
    if atTarget s1 then targetMet s1 else s1
  else { s with tr := { s.tr with stepOut := false } }

/-- A step pulse and what follows from it. -/
def pulse (s : State) : State := settleEnd s (emitPulse s)

/-- STEP_PULSE. -/
def execStepPulse (s : State) : Out := .next (pulse s)

/-- R110: the pulses due of one tick are all emitted before the next tick. -/
def emitRest : Nat → State → State
  | 0, s => s
  | n + 1, s => emitRest n (pulse s)

/-! ### The tick -/

/-- R11: the travel over the 8 ticks. -/
def travel (e : Encoder) : Int := signedDiff e.web (e.history.headD 0)

/-- R10, R11: the ms clock and the measured speed. -/
def Encoder.tick (e : Encoder) : Encoder :=
  { e with msClock := e.msClock + 1, vm := measuredSpeed (travel e), history := e.history.drop 1 ++ [e.web] }

/-- R206: the snapshot count. -/
def Reporter.tick (r : Reporter) : Reporter :=
  if r.snapCount + 1 = Config.snapshotPeriod then { r with snapCount := 0, snapDue := true }
  else { r with snapCount := r.snapCount + 1 }

/-- R10: the tick delivered to the clock, the measured speed and every timer. -/
def tickClocks (s : State) : State :=
  { s with
    enc := s.enc.tick
    rep := s.rep.tick
    trk := { s.trk with snapTimer := s.trk.snapTimer.tick }
    acc := { s.acc with jogTimer := s.acc.jogTimer.tick, dropTimer := s.acc.dropTimer.tick }
    rel := { s.rel with
      releaseTimer := s.rel.releaseTimer.tick, foldTimer := s.rel.foldTimer.tick
      exitList := s.rel.exitList.map fun e => { e with timer := e.timer.tick } }
    tr := { s.tr with stepOut := false } }

/-- R108: the line-state goal. -/
def lineGoal (s : State) : Nat :=
  match s.seq.line with
  | .calibrate => s.setupN 17
  | .register => if s.seq.stopPending then 0 else s.setupN 17
  | .run | .halting => s.setupN 16
  | .idle | .halted | .fault => 0

/-- R108: the profile states. -/
def LineState.profiles : LineState → Bool
  | .calibrate | .register | .run | .halting | .halted => true
  | .idle | .fault => false

/-- R14 to R17: the tick's profile. -/
def tickFigures (s : State) : Profile :=
  profile (lineGoal s) (s.setupN 18) (s.setupN 19) s.tr.speed s.tr.remainder (s.pln.stop.map s.remaining)

/-- R109 steps 1 to 4, and the hand-over of the permitted speed to the planner (R105). -/
def tickProfile (s : State) : State :=
  let p := tickFigures s
  let ahead := (s.pln.stop.map fun t => decide (0 < s.remaining t)).getD false
  hand [0] s { s with
    tr := { s.tr with
      state := if p.speed = 0 then .still else .moving
      speed := p.speed
      remainder := if p.speed = 0 then 0 else p.remainder
      due := p.due, emitted := 0
      targetW := s.pln.stop, targetC := s.pln.stop.map fun t => t + s.deviation
      metTold := s.tr.metTold && !(ahead && decide (lineGoal s ≠ 0)) }
    pln := { s.pln with limited := (p.permitted.map fun v => decide (v < lineGoal s)).getD false } }

/-- R111: a target whose remaining distance is 0 or less at the tick itself is met there. -/
def tickTarget (s : State) : State :=
  if (s.pln.stop.map fun t => decide (s.remaining t ≤ 0)).getD false && !s.tr.metTold then targetMet s else s

/-- R113, R164, R35: a transport STILL with the stop-pending flag set brings the line from REGISTER to IDLE,
and the reader is cleared as at a path reset. -/
def tickStopPending (s : State) : State :=
  if s.seq.line = .register ∧ s.seq.stopPending ∧ s.tr.state = .still then
    enterIdle { s with rd := s.rd.clear }
  else s

/-- R116: one tick of a ramp stop. -/
def tickRamp (s : State) : State :=
  let v := s.tr.speed - s.setupN 20 / 1000
  let n := s.tr.remainder + v
  if v = 0 then
    hand [0] s { s with tr := { s.tr with
      state := .still, speed := 0, remainder := 0, due := 0, emitted := 0, driveEnable := false } }
  else { s with tr := { s.tr with speed := v, remainder := n % 1000, due := n / 1000, emitted := 0 } }

/-- R109, R116: the transport's tick. -/
def tickTransport (s : State) : State :=
  if s.seq.line.profiles ∧ s.tr.state ≠ .rampStop then tickStopPending (tickTarget (tickProfile s))
  else if s.tr.state = .rampStop then tickRamp s
  else s

/-- R120: the belt travel over the last 100 ticks. -/
def beltTravel (s : State) : Word := s.enc.belt - s.tr.beltHistory.headD 0

/-- R120: the belt history with this tick's entry. -/
def beltHistoryTick (s : State) : List Word :=
  (if Config.stallWindow ≤ s.tr.beltHistory.length then s.tr.beltHistory.drop 1 else s.tr.beltHistory)
    ++ [s.enc.belt]

/-- R120: whether the check made at this tick finds the belt stalled. -/
def beltStalled (s : State) : Bool :=
  decide (Config.stallGrace ≤ s.tr.beltTicks + 1) && !s.tr.stallReported
    && decide (Config.stallWindow ≤ s.tr.beltHistory.length) && decide ((beltTravel s).toInt < Config.stallTravel)

/-- R120: the belt stall check. -/
def tickBelt (s : State) : State :=
  if s.tr.beltRun then
    let s1 := { s with tr := { s.tr with
      beltTicks := s.tr.beltTicks + 1, beltHistory := beltHistoryTick s
      stallReported := s.tr.stallReported || beltStalled s } }
    if beltStalled s then takeFault .beltStall false (beltTravel s) s1 else s1
  else s

/-- R10: the tick, with the pulses of the last tick all emitted. -/
def tickNow (s : State) : State := endStep (settle (tickBelt (tickTransport (tickClocks s))))

/-- TICK. -/
def execTick (s : State) : Out := .next (tickNow (emitRest (s.tr.due - s.tr.emitted) s))

/-- R51: the SNAP timer expires. -/
def snapEnds (s : State) : State :=
  if s.trk.snapTimer.expired then { s with trk := { s.trk with snap := false, snapTimer := Timer.stopped } } else s

/-- SNAP_END. -/
def execSnapEnd (s : State) : Out := .next (snapEnds s)

end Sys2Proof.Machine
end

