-- ==== Sys2Proof/Machine/Pockets.lean ====
section
/-! DEFINITION. The pockets', the folder's and the line's inputs and timers: JOG_END, DROP_END, RELEASE_END,
FOLD_TIMEOUT, EXIT_MISSING, FOLD_DONE, FOLD_FAULT, EXIT_EDGE, REJECT_FULL_CHANGE, FOLD_READY_CHANGE,
WEB_PRESENT_FALL, PAPER_LOW, ESTOP, WEB_BREAK. -/

namespace Sys2Proof.Machine

/-! ### Timers -/

/-- R122, R130: the jog timer expires. -/
def jogEnds (s : State) : State :=
  if s.seq.line.running && s.acc.jogTimer.expired then endStep (endJog s) else s

/-- JOG_END. -/
def execJogEnd (g : Gauge) (s : State) : Out := .next (jogEnds (setGauge g s))

/-- R122, R133: the drop timer expires. -/
def dropEnds (s : State) : State :=
  if s.seq.line.running && s.acc.dropTimer.expired then settleEnd s (endDrop s) else s

/-- DROP_END. -/
def execDropEnd (s : State) : Out := .next (dropEnds s)

/-- R144: RELEASE falls and the hold pocket becomes EMPTY. -/
def emptyHold (s : State) : State :=
  hand [7] s { s with rel := { s.rel with
    hold := .empty, set := none, release := false, releaseTimer := Timer.stopped } }

/-- R144: what a divert release ends with: the outcome of a ticket's set, or PURGE_SET. -/
def divertOutcome (r : SetRecord) (s : State) : State :=
  match r.owner with
  | .purge => offer (.purgeSet r.number r.sheets.length r.reasons) s
  | .ticket _ => reportOutcome r.owner r.reasons true s

/-- The piece a set becomes in the folder (R138). -/
def SetRecord.piece (r : SetRecord) : Piece :=
  { number := r.number, owner := r.owner, sheets := r.sheets.length, reasons := r.reasons }

/-- R144: a good set enters the folder. -/
def enterFolder (r : SetRecord) (s : State) : State :=
  hand [8] s { s with rel := { s.rel with
    folding := true, folder := some r.piece, foldTimer := Timer.start (s.setupN 31) } }

/-- R144: the release ends. -/
def endRelease (s : State) : State :=
  let s1 := emptyHold s
  let s2 := match s.rel.set with
    | none => s1
    | some r => match s.rel.verdict with
      | .divert => divertOutcome r s1
      | .good => enterFolder r s1
  holdEmptied s2

/-- R138, R144: the release timer expires. -/
def releaseEnds (s : State) : State :=
  if s.seq.line.running && s.rel.releaseTimer.expired then endStep (endRelease s) else s

/-- RELEASE_END. -/
def execReleaseEnd (s : State) : Out := .next (releaseEnds s)

/-- The set number of the folder record, 0 without one. -/
def folderNumber (s : State) : Word := s.rel.folder.elim 0 fun p => p.number.setWidth 32

/-- R148: the fold timer expires in FOLDING. -/
def foldTimesOut (s : State) : State :=
  if s.seq.line.running && s.rel.folding && s.rel.foldTimer.expired then
    takeFault .foldTimeout false (folderNumber s) s
  else s

/-- FOLD_TIMEOUT. -/
def execFoldTimeout (s : State) : Out := .next (foldTimesOut s)

/-- R151: the oldest piece whose exit timer has expired. -/
def missingPiece (s : State) : Option ExitEntry := s.rel.exitList.find? fun e => e.timer.expired

/-- R151: an exit timer expires. -/
def exitTimesOut (s : State) : State :=
  if s.seq.line.running then
    match missingPiece s with
    | some e => takeFault .exitMissing false (e.piece.number.setWidth 32) s
    | none => s
  else s

/-- EXIT_MISSING. -/
def execExitMissing (s : State) : Out := .next (exitTimesOut s)

/-! ### The folder and the exit sensor -/

/-- R146: the fold is complete: the piece joins the exit list and the folder becomes IDLE. -/
def completeFold (p : Piece) (s : State) : State :=
  releaseTest (hand [8] s { s with rel := { s.rel with
    exitList := s.rel.exitList ++ [{ piece := p, timer := Timer.start (s.setupN 32) }]
    foldReq := false, folding := false, folder := none, foldTimer := Timer.stopped } })

/-- R146: FOLD_DONE takes a level. -/
def foldDoneLevel (level : Bool) (s : State) : State :=
  let s1 := { s with pins := { s.pins with foldDone := level } }
  if level && !s.pins.foldDone && s.seq.line.running && s.rel.folding then
    match s.rel.folder with
    | some p => endStep (completeFold p s1)
    | none => s1
  else s1

/-- FOLD_DONE. -/
def execFoldDone (level : Bool) (s : State) : Out := .next (foldDoneLevel level s)

/-- R147: FOLD_FAULT takes a level. -/
def foldFaultLevel (level : Bool) (s : State) : State :=
  let s1 := { s with pins := { s.pins with foldFault := level } }
  if level && !s.pins.foldFault && s.seq.line.running then
    takeFault .foldFault s.rel.folding (if s.rel.folding then folderNumber s else 0) s1
  else s1

/-- FOLD_FAULT. -/
def execFoldFault (level : Bool) (s : State) : Out := .next (foldFaultLevel level s)

/-- R150: an exit edge. -/
def exitRise (s : State) : State :=
  match s.rel.exitList with
  | [] => takeFault .strayExit s.rel.folding 0 s
  | e :: es =>
    let s1 := hand [8] s { s with rel := { s.rel with exitList := es } }
    endStep (releaseTest (reportOutcome e.piece.owner e.piece.reasons false s1))

/-- R150: EXIT_EDGE takes a level. -/
def exitEdgeLevel (level : Bool) (s : State) : State :=
  let s1 := { s with pins := { s.pins with exitEdge := level } }
  if level && !s.pins.exitEdge && s.seq.line.running then exitRise s1 else s1

/-- EXIT_EDGE. -/
def execExitEdge (level : Bool) (s : State) : Out := .next (exitEdgeLevel level s)

/-- R141: REJECT_FULL takes a level. -/
def rejectFullLevel (level : Bool) (s : State) : State :=
  endStep (releaseTest { s with pins := { s.pins with rejectFull := level } })

/-- REJECT_FULL_CHANGE. -/
def execRejectFullChange (level : Bool) (s : State) : Out := .next (rejectFullLevel level s)

/-- R141: FOLD_READY takes a level. -/
def foldReadyLevel (level : Bool) (s : State) : State :=
  endStep (releaseTest { s with pins := { s.pins with foldReady := level } })

/-- FOLD_READY_CHANGE. -/
def execFoldReadyChange (level : Bool) (s : State) : Out := .next (foldReadyLevel level s)

/-! ### The line's inputs -/

/-- R60: WEB_PRESENT takes a level; a fall in RUN is runout. -/
def webPresentLevel (level : Bool) (s : State) : State :=
  let s1 := { s with pins := { s.pins with webPresent := level } }
  if s.pins.webPresent && !level then settleEnd s (runoutTest s1) else s1

/-- WEB_PRESENT_FALL. -/
def execWebPresentFall (level : Bool) (g : Gauge) (s : State) : Out := .next (webPresentLevel level (setGauge g s))

/-- R165, R166: the line enters HALTING and the planner takes the halt request. -/
def enterHalting (kind : HaltKind) (s : State) : State :=
  settleEnd s (requestHalt kind (changeLine .halting kind s))

/-- R166: PAPER_LOW takes a level; a rise in RUN halts the line when the option is on. -/
def paperLowLevel (level : Bool) (s : State) : State :=
  let s1 := { s with pins := { s.pins with paperLow := level } }
  if level && !s.pins.paperLow && decide (s.seq.line = .run) && (s.setup 39).getLsbD 0 then
    enterHalting .paperLow s1
  else s1

/-- PAPER_LOW. -/
def execPaperLow (level : Bool) (s : State) : Out := .next (paperLowLevel level s)

/-- R172: ESTOP_N takes a level; a fall is reported. -/
def estopLevel (level : Bool) (s : State) : State :=
  let s1 := { s with pins := { s.pins with estopN := level } }
  if s.pins.estopN && !level then takeFault .estop false 0 s1 else s1

/-- ESTOP. -/
def execEstop (level : Bool) (s : State) : Out := .next (estopLevel level s)

/-- R172: WEB_BREAK_N takes a level; a fall is reported in every line state but IDLE. -/
def webBreakLevel (level : Bool) (s : State) : State :=
  let s1 := { s with pins := { s.pins with webBreakN := level } }
  if s.pins.webBreakN && !level && decide (s.seq.line ≠ .idle) then takeFault .webBreak false 0 s1 else s1

/-- WEB_BREAK. -/
def execWebBreak (level : Bool) (s : State) : Out := .next (webBreakLevel level s)

end Sys2Proof.Machine
end

