-- ==== Sys2Proof/Machine/Commands.lean ====
section
/-! DEFINITION. The commands of software as the line sequencer decides them (R157 to R170, R197, R198), the
path reset (R175) and the level watches of ESTOP_N and WEB_BREAK_N (R172). -/

namespace Sys2Proof.Machine

/-! ### The level watches -/

/-- R172: ESTOP_N found low at the completion of start-up and on entry into IDLE by CLEAR. -/
def estopCheck (s : State) : State :=
  if !s.pins.estopN && s.seq.startupComplete && decide (s.seq.line ≠ .fault) then takeFault .estop false 0 s
  else s

/-- R172: WEB_BREAK_N found low on entry into CALIBRATE or REGISTER. -/
def webBreakCheck (s : State) : State := if s.pins.webBreakN then s else takeFault .webBreak false 0 s

/-! ### The checks of START -/

/-- R159: the five conditions of the geometry. -/
def geometryOk (s : State) : Bool :=
  decide (3 * s.setupN 9 + 2000 ≤ s.setupN 13)
    && decide (s.setupN 10 + 960 + s.setupN 11 ≤ s.setupN 9)
    && decide (s.setupN 11 + 12 ≤ s.setupN 10)
    && decide (s.setupN 9 + s.setupN 25 + 400 ≤ s.setupN 23)
    && decide (s.setupN 14 + 1000 ≤ s.setupN 9)

/-- R160: a region of memory, its base and its length in bytes. -/
structure Region where
  base   : Nat
  length : Nat
  deriving DecidableEq, Repr

/-- R160: the region lies wholly below the top. -/
def Region.below (top : Nat) (r : Region) : Bool := decide (r.base + r.length ≤ top)

/-- R160: two regions share no byte. -/
def Region.apart (r t : Region) : Bool := decide (r.base + r.length ≤ t.base) || decide (t.base + t.length ≤ r.base)

/-- R160: the setup and status blocks. -/
def setupRegion (s : State) : Region := { base := s.base, length := 224 }

/-- R160: the ticket ring. -/
def ticketRegion (s : State) : Region := { base := s.setupN 35, length := s.setupN 36 * 32 }

/-- R160: the event ring. -/
def eventRegion (s : State) : Region := { base := s.setupN 37, length := s.setupN 38 * 24 }

/-- R160: the three regions lie below the top and apart. -/
def regionsOk (s : State) : Bool :=
  (setupRegion s).below s.top && (ticketRegion s).below s.top && (eventRegion s).below s.top
    && (setupRegion s).apart (ticketRegion s) && (setupRegion s).apart (eventRegion s)
    && (ticketRegion s).apart (eventRegion s)

/-! ### The path reset -/

/-- R43, R63: tracking emptied. -/
def Tracking.emptied : Tracking :=
  { queue := [], nextPerf := none, registered := false, runout := false, snap := false,
    snapTimer := Timer.stopped }

/-- R74, R93: the collator cleared; the set counter goes on. -/
def Collator.cleared (c : Collator) : Collator :=
  { cursor := none, pendingRead := none, stall := none, openSet := none, runoutNoted := false,
    setCounter := c.setCounter }

/-- R154: the release and folder interface emptied; DIVERT keeps its position. -/
def ReleaseUnit.emptied (r : ReleaseUnit) : ReleaseUnit :=
  { hold := .empty, set := none, verdict := r.verdict, releaseTimer := Timer.stopped, folding := false,
    folder := none, foldTimer := Timer.stopped, exitList := [], release := false, divert := r.divert,
    foldReq := false, style := FoldStyle.flat.code }

/-- R137: the accumulator emptied. -/
def Accumulator.emptied : Accumulator :=
  { state := .empty, set := none, jogTimer := Timer.stopped, dropTimer := Timer.stopped, jog := false,
    drop := false }

/-- R175: the path reset. The hold planner's part and the line sequencer's own are taken with the entry into
IDLE. -/
def pathReset (s : State) : State :=
  let s1 := abandonTickets s
  hand [6, 7, 8, 15] s1 { s1 with
    trk := Tracking.emptied, col := s1.col.cleared, acc := Accumulator.emptied, rel := s1.rel.emptied
    rd := s1.rd.clear }

/-! ### The effects -/

/-- R119, R120: BELT_RUN rises. -/
def raiseBelt (s : State) : State :=
  { s with tr := { s.tr with beltRun := true, beltTicks := 0, beltHistory := [], stallReported := false } }

/-- R161, R36: the position three form lengths past the web counter. -/
def threeForms (s : State) : Word := s.enc.web + word (3 * s.setupN 9)

/-- R7, R35, R43, R74, R161: the blocks' own state as START enters REGISTER. -/
def startBlocks (s : State) : State :=
  hand [15] s { s with
    enc := { s.enc with highWater := s.enc.web }
    rd := { s.rd.clear with origin := s.enc.web, searching := true }
    trk := Tracking.emptied
    col := s.col.cleared
    seq := { s.seq with stopPending := false, regLimit := some (threeForms s) } }

/-- R161: START. -/
def startRun (s : State) : State :=
  webBreakCheck (changeLine .register .none (raiseBelt (align (startBlocks s))))

/-- R36, R163: the sweep as CALIBRATE begins it. -/
def calibrateBlocks (s : State) : State :=
  { s with
    enc := { s.enc with highWater := s.enc.web }
    rd := { s.rd.clear with sweep :=
      { s.rd.sweep with state := .seeking, seekLimit := threeForms s, passMap := List.replicate 12 false } } }

/-- R163: CALIBRATE. -/
def calibrateRun (s : State) : State :=
  webBreakCheck (changeLine .calibrate .none (align (calibrateBlocks s)))

/-- R164: STOP in REGISTER. -/
def stopRegister (s : State) : State :=
  { s with seq := { s.seq with stopPending := true }, rd := { s.rd with searching := false } }

/-- R164, R165: STOP. -/
def stopRun (s : State) : State := if s.seq.line = .register then stopRegister s else enterHalting .stop s

/-- R104: the halt request is cleared at RESUME, but for a RUNOUT request. -/
def clearHalt (s : State) : State :=
  if s.pln.haltKind = .runout then s
  else { s with pln := { s.pln with haltKind := .none, haltSheet := .none, haltTarget := none } }

/-- R103: a runout target already met is reported met at once. -/
def runoutMet (s : State) : State :=
  if s.pln.cause = .runout ∧ ((s.pln.stop.map s.remaining).getD 1) ≤ 0 then targetMet (s.taking s.pln.stop) else s

/-- R103, R168: a standing RUNOUT request takes the line from RUN to HALTING again. -/
def askRunout (s : State) : State :=
  if s.pln.haltKind = .runout ∧ s.seq.line = .run then runoutMet (refresh (changeLine .halting .runout s)) else s

/-- R168: RESUME. -/
def resumeRun (s : State) : State :=
  settleEnd s (askRunout (runoutTest (changeLine .run .none (clearHalt s))))

/-- R169: what END waits for. -/
def draining (s : State) : Bool :=
  decide (s.rel.hold ≠ .empty) || s.rel.folding || !s.rel.exitList.isEmpty

/-- R169: END. -/
def endTheRun (s : State) : State := enterIdle (pathReset s)

/-- R170: the first fault code and the added-fault count are cleared. -/
def clearFaults (s : State) : State :=
  hand [1] s { s with seq := { s.seq with firstFault := .none, added := 0 } }

/-- R170: CLEAR. ESTOP_N low takes the line back to FAULT. -/
def clearLine (s : State) : State := estopCheck (enterIdle (pathReset (clearFaults s)))

/-! ### The decision (R157, R158) -/

/-- R197: the commands a code names. -/
inductive Command where
  | start | calibrate | pause | stop | resume | endRun | clear
  deriving DecidableEq, Repr

/-- R197: the command of a code, none for 0 and for 8 and above. -/
def commandOf (code : BitVec 8) : Option Command :=
  if code = 1 then some .start
  else if code = 2 then some .calibrate
  else if code = 3 then some .pause
  else if code = 4 then some .stop
  else if code = 5 then some .resume
  else if code = 6 then some .endRun
  else if code = 7 then some .clear
  else none

/-- R158: the line states that admit a command. -/
def Command.admitted (c : Command) (l : LineState) : Bool :=
  match c with
  | .start | .calibrate => decide (l = .idle)
  | .pause => decide (l = .run)
  | .stop => decide (l = .run) || decide (l = .register)
  | .resume | .endRun => decide (l = .halted)
  | .clear => decide (l = .fault)

/-- R158: the command's own checks. -/
def Command.check (c : Command) (s : State) : Option CommandRefusal :=
  match c with
  | .start => if !geometryOk s then some .geometry else if !regionsOk s then some .regions else none
  | .stop => if s.seq.line = .register ∧ s.seq.stopPending then some .state else none
  | .endRun => if draining s then some .draining else none
  | .clear => if s.tr.state ≠ .still then some .state else none
  | .calibrate | .pause | .resume => none

/-- R158: the command's effect when accepted. -/
def Command.effect (c : Command) (s : State) : State :=
  match c with
  | .start => startRun s
  | .calibrate => calibrateRun s
  | .pause => enterHalting .pause s
  | .stop => stopRun s
  | .resume => resumeRun s
  | .endRun => endTheRun s
  | .clear => clearLine s

/-- R157: the first test that fails names the refusal. -/
def judgeCommand (code : BitVec 8) (s : State) : Option CommandRefusal :=
  if !s.seq.startupComplete then some .state
  else match commandOf code with
    | none => some .unknown
    | some c => if c.admitted s.seq.line then c.check s else some .state

/-- R157, R158: the effect of a command that is accepted. -/
def commandEffect (code : BitVec 8) (s : State) : State :=
  match judgeCommand code s, commandOf code with
  | none, some c => c.effect s
  | _, _ => s

/-- R157, R198: the outcome is recorded and placed, COMMAND is latched and the event is offered, with the
line state in which the command was decided. -/
def recordOutcome (o : CommandOutcome) (line : LineState) (s : State) : State :=
  offer (.command o.code o.tag o.refusal line)
    (latch .command (placeResult (hand [2] s { s with seq := { s.seq with outcome := some o } })))

/-- R157: a command handed over is decided. Code 0 is not. -/
def decideCommand (code : BitVec 8) (tag : Index) (s : State) : State :=
  if code = 0 then s
  else recordOutcome { code := code, tag := tag, refusal := judgeCommand code s } s.seq.line (commandEffect code s)

end Sys2Proof.Machine
end

