-- ==== Sys2Proof/Machine/Bus.lean ====
section
/-! DEFINITION. The memory path at the two ports (chapter 10): the arbiter, the address classes, the judgment
of setup writes, the controller's accesses and the writes that software gives its commands with. -/

namespace Sys2Proof.Machine

/-! ### The arbiter (R191, R192) -/

/-- Who waits for the memory port. -/
inductive Party where
  | controller | queue | fetch
  deriving DecidableEq, Repr

/-- A grant of R191; `burst` is a queue grant of line 1 or line 4. -/
inductive Grant where
  | burst | queue | fetch | controller
  deriving DecidableEq, Repr

/-- The party a grant goes to. -/
def Grant.party : Grant → Party
  | .burst | .queue => .queue
  | .fetch => .fetch
  | .controller => .controller

/-- R191: a fetch read is due. -/
def fetchDue (s : State) : Bool :=
  match s.tix.fetch with
  | .due0 | .due1 _ => true
  | .idle | .flight0 _ | .flight1 _ _ => false

/-- R191: the own party that waits; of both, the one granted less recently. -/
def ownGrant (queueWaits fetchWaits : Bool) (a : Arbiter) : Option Grant :=
  if queueWaits && fetchWaits then (if a.fetchLatest then some .queue else some .fetch)
  else if queueWaits then some .queue
  else if fetchWaits then some .fetch
  else none

/-- R191 line 1: a burst is in progress with fewer than 4 grants made. -/
def Arbiter.inBurst (a : Arbiter) : Bool := (a.burst.map fun n => decide (n < Config.burstLength)).getD false

/-- R191: the grant for what waits: the first line of the table that applies. -/
def decideGrant (controllerWaits : Bool) (s : State) : Option Grant :=
  let a := s.path.arbiter
  let n := s.path.queue.length
  let f := fetchDue s
  let patientQueue := decide (0 < n) && decide (a.queuePatience = Config.patienceLimit)
  let patientFetch := f && decide (a.fetchPatience = Config.patienceLimit)
  if a.inBurst && decide (0 < n) then some .burst
  else if a.afterBurst && decide (Config.burstThreshold ≤ n) && f then some .fetch
  else if patientQueue || patientFetch then ownGrant patientQueue patientFetch a
  else if Config.burstThreshold ≤ n then some .burst
  else if controllerWaits then some .controller
  else ownGrant (decide (0 < n)) f a

/-- R191, R192: the arbiter at a queue grant. -/
def Arbiter.grantQueue (inBurst : Bool) (a : Arbiter) : Arbiter :=
  let n := a.burst.getD 0 + 1
  { burst := if inBurst && decide (n < Config.burstLength) then some n else none
    afterBurst := inBurst && decide (n = Config.burstLength)
    queuePatience := 0, fetchPatience := a.fetchPatience, fetchLatest := false }

/-- R192: the arbiter at a fetch grant. -/
def Arbiter.grantFetch (a : Arbiter) : Arbiter :=
  { a with afterBurst := false, fetchPatience := 0, fetchLatest := true }

/-- R192: a patience count raised for a party that waits. -/
def raisePatience (waits : Bool) (n : Nat) : Nat := if waits then min Config.patienceLimit (n + 1) else n

/-- R192: the arbiter at a controller grant. -/
def Arbiter.grantController (queueWaits fetchWaits : Bool) (a : Arbiter) : Arbiter :=
  { a with
    afterBurst := false
    queuePatience := raisePatience queueWaits a.queuePatience
    fetchPatience := raisePatience fetchWaits a.fetchPatience }

/-- The arbiter replaced. -/
def setArbiter (a : Arbiter) (s : State) : State := { s with path := { s.path with arbiter := a } }

/-- R189: the oldest entry is written to memory and leaves the queue. -/
def drainQueue (inBurst : Bool) (s : State) : State :=
  match s.path.queue with
  | [] => s
  | q :: qs => setQueue qs (setArbiter (s.path.arbiter.grantQueue inBurst)
      { s with mem := Memory.writeWord q.addr.toNat q.data s.mem })

/-- R188, R190: the value an own read of a word below the top gives: forwarded, or from memory. -/
def ownValue (addr : Word) (s : State) : Word :=
  (queued addr s.path.queue).getD (Memory.readWord addr.toNat s.mem)

/-- R190: an own read at or above the top latches RANGE. -/
def ownRange (addr : Word) (s : State) : State := if s.inRange addr then s else latch .range s

/-- R190: the data of an own read. -/
def ownRead (addr : Word) (s : State) : Word := if s.inRange addr then ownValue addr s else 0xFFFFFFFF

/-- R66: the fetch replaced. -/
def setFetch (f : Fetch) (s : State) : State := { s with tix := { s.tix with fetch := f } }

/-- R66, R190: the due fetch read is made. -/
def grantFetchRead (s : State) : State :=
  let s1 := setArbiter s.path.arbiter.grantFetch s
  match s.tix.fetch with
  | .due0 =>
    let a := slotAddr s.tix.fetchIndex 0 s
    setFetch (.flight0 (ownRead a s)) (ownRange a s1)
  | .due1 w0 =>
    let a := slotAddr s.tix.fetchIndex 1 s
    setFetch (.flight1 w0 (ownRead a s)) (ownRange a s1)
  | .idle | .flight0 _ | .flight1 _ _ => s

/-- R191: a grant made. What a controller access does at its grant follows from its class. -/
def makeGrant (g : Grant) (s : State) : State :=
  match g with
  | .burst => drainQueue true s
  | .queue => drainQueue false s
  | .fetch => grantFetchRead s
  | .controller =>
    setArbiter (s.path.arbiter.grantController (decide (0 < s.path.queue.length)) (fetchDue s)) s

/-- R191: the grants made up to and including the one that goes to a party. Each one before it takes an entry
from the queue or the one fetch read that is due. -/
def grantUntil (want : Party) : Nat → State → State
  | 0, s => s
  | n + 1, s => match decideGrant (decide (want = .controller)) s with
    | none => s
    | some g => if g.party = want then makeGrant g s else grantUntil want n (makeGrant g s)

/-- R176, R191: the state in which a waiting party has just been granted. -/
def granted (want : Party) (s : State) : State := grantUntil want (s.path.queue.length + 2) s

/-! ### Address classes (R178) -/

/-- R178, R185: the class of an access, with the setup word, or the slot and the word in it. -/
inductive AccessClass where
  | setup (n : Nat)
  | status
  | ticket (slot w : Nat)
  | event
  | outOfRange
  | plain
  deriving DecidableEq, Repr

/-- R178: the first class of the table that fits. -/
def classify (addr : Word) (s : State) : AccessClass :=
  let a := addr.toNat
  if s.base ≤ a ∧ a < s.base + 160 then .setup ((a - s.base) / 4)
  else if s.base + 160 ≤ a ∧ a < s.base + 224 then .status
  else if s.setupN 35 ≤ a ∧ a < s.setupN 35 + s.setupN 36 * 32 ∧ a < s.top then
    .ticket ((a - s.setupN 35) / 32) ((a - s.setupN 35) % 32 / 4)
  else if s.setupN 37 ≤ a ∧ a < s.setupN 37 + s.setupN 38 * 24 ∧ a < s.top then .event
  else if s.top ≤ a then .outOfRange
  else .plain

/-! ### Setup writes (R180 to R183) -/

/-- R180 step 1: the merged value. -/
def mergedSetup (n : Nat) (lanes : Lanes) (data : Word) (s : State) : Word :=
  mergeLanes lanes (s.setup n) data &&& setupFields n

/-- R180 step 2: the lock. -/
def setupLocked (n : Nat) (s : State) : Bool :=
  (decide (8 ≤ n) && decide (s.seq.line ≠ .idle))
    || ((decide (n = 35) || decide (n = 36))
        && (decide (s.publish ≠ s.tix.retireIndex) || decide (s.tix.fetch ≠ .idle)))

/-- R182: the publish index `v` is refused. -/
def publishRefused (v : Index) (s : State) : Bool :=
  decide (s.setupN 36 < (v - s.tix.retireIndex).toNat)
    || decide ((v - s.tix.retireIndex).toNat < (s.tix.fetchIndex - s.tix.retireIndex).toNat)

/-- R182: the event read index `v` is refused. -/
def readRefused (v : Index) (s : State) : Bool :=
  !decide ((s.rep.writeIndex - v).toNat ≤ (s.rep.writeIndex - s.readIndex).toNat)

/-- R182: words 3 and 4 judged against the ring indexes. -/
def indexRefused (n : Nat) (merged : Word) (s : State) : Bool :=
  (decide (n = 3) && publishRefused (merged.setWidth 16) s) || (decide (n = 4) && readRefused (merged.setWidth 16) s)

/-- R180: the judgment of a merged value: the working value it becomes, or why it is refused. -/
def judgeSetup (n : Nat) (merged : Word) (s : State) : Except SetupRefusal Word :=
  if setupLocked n s then .error .locked
  else if indexRefused n merged s then .error .index
  else match judgeRange s.top (s.setupN 38) n merged with
    | none => .error .range
    | some v => .ok v

/-- R181: a refused setup write. -/
def refuseSetup (n : Nat) (merged : Word) (reason : SetupRefusal) (s : State) : State :=
  offer (.setupRefused n merged reason) { s with port := .busError }

/-- R207: the listed causes leave the latched set. -/
def acknowledge (causes : BitVec 8) (s : State) : State :=
  hand [5] s { s with rep := { s.rep with latched := s.rep.latched &&& ~~~ causes } }

/-- R202: the event write slot is set to 0. -/
def resetWriteSlot (s : State) : State := hand [5] s { s with rep := { s.rep with writeSlot := 0 } }

/-- R183: the new working value handed to the block that acts on the word. -/
def handSetup (n : Nat) (v : Word) (s : State) : State :=
  if n = 0 then decideCommand (v.setWidth 8) (v.extractLsb' 16 16) s
  else if n = 1 then acknowledge (v.setWidth 8) s
  else if n = 3 ∨ n = 7 then ticketsLowTest s
  else if n = 37 ∨ n = 38 then resetWriteSlot s
  else s

/-- R180 step 4, R187, R183: the working value, the written mark and memory take the value, and a queued entry
and a waiting report of the word are gone. -/
def storeSetup (n : Nat) (v : Word) (s : State) : State :=
  setQueue (removeQueued (setupAddr n s) s.path.queue) { s with
    path := { s.path with
      shadow := s.path.shadow.set n v, written := s.path.written.set n true
      phaseReport := s.path.phaseReport && decide (n ≠ 12) }
    mem := Memory.writeWord (setupAddr n s).toNat v s.mem
    port := .done }

/-- R180: an accepted setup write. -/
def acceptSetup (n : Nat) (v : Word) (s : State) : State := handSetup n v (storeSetup n v s)

/-- R180: a setup write judged at its grant. -/
def setupWriteAt (n : Nat) (lanes : Lanes) (data : Word) (s : State) : State :=
  let m := mergedSetup n lanes data s
  match judgeSetup n m s with
  | .error reason => refuseSetup n m reason s
  | .ok v => acceptSetup n v s

/-! ### Other controller accesses -/

/-- R184, R187: a write made as written, or merged with the queued entry it meets. -/
def writeThrough (addr : Word) (lanes : Lanes) (data : Word) (s : State) : State :=
  let a := wordAddr addr
  match queued a s.path.queue with
  | some d => setQueue (removeQueued a s.path.queue)
      { s with mem := Memory.writeWord a.toNat (mergeLanes lanes d data) s.mem, port := .done }
  | none => { s with mem := Memory.writeLanes lanes a.toNat data s.mem, port := .done }

/-- R72: whether a write to its slot amends a ticket. -/
def Ticket.amendable (t : Ticket) : Bool :=
  decide (t.state = .waiting) || decide (t.state = .collating) || decide (t.state = .closed)

/-- R64, R185: the slot of a ring index. -/
def slotOf (ring : Index) (s : State) : Nat := ring.toNat % s.setupN 36

/-- R72: a ticket is amended. -/
def amendTicket (t : Ticket) (one : Bool) (s : State) : State :=
  if t.amended then s
  else offer (.ticketAmended t.ring t.serial one)
    (addTicketReason t.ring .amended (s.editTicket t.ring fun x => { x with amended := true }))

/-- R72: the ticket in the table that a write to the slot amends. -/
def amendSlot (slot : Nat) (one : Bool) (s : State) : State :=
  match s.tix.table.find? fun t => t.amendable && decide (slotOf t.ring s = slot) with
  | some t => amendTicket t one s
  | none => s

/-- R67: whether the fetch in progress has already read the word. -/
def Fetch.hasRead (one : Bool) : Fetch → Bool
  | .idle | .due0 => false
  | .flight0 _ | .due1 _ => !one
  | .flight1 _ _ => true

/-- R67: a write that meets the fetch in progress after the word's own read. -/
def amendFetch (slot : Nat) (one : Bool) (s : State) : State :=
  if s.tix.fetch.hasRead one ∧ slotOf s.tix.fetchIndex s = slot ∧ s.tix.fetchAmended = none then
    { s with tix := { s.tix with fetchAmended := some one } }
  else s

/-- R185, R72, R67: a write to a slot handed to the ticket unit. One that enables no lane touches nothing. -/
def handTicketWrite (slot w : Nat) (lanes : Lanes) (s : State) : State :=
  if lanes ≠ 0 ∧ w < 2 then amendFetch slot (decide (w = 1)) (amendSlot slot (decide (w = 1)) s) else s

/-- R179: an out-of-range write. DEDUCED (notes/assumptions/20.md; "unsafe"): its record carries the whole data word as
presented, the lanes not enabled included (R215). -/
def rangeWrite (addr : Word) (lanes : Lanes) (data : Word) (s : State) : State :=
  offer (.rangeWrite addr lanes data) (latch .range { s with port := .done })

/-- R176, R178: a controller write at its grant. -/
def portWrite (addr : Word) (lanes : Lanes) (data : Word) (s : State) : State :=
  match classify addr s with
  | .setup n => setupWriteAt n lanes data s
  | .ticket slot w => endStep (handTicketWrite slot w lanes (writeThrough addr lanes data s))
  | .status | .event | .plain => writeThrough addr lanes data s
  | .outOfRange => rangeWrite addr lanes data s

/-- R179: an out-of-range read. -/
def rangeRead (addr : Word) (lanes : Lanes) (s : State) : State :=
  offer (.rangeRead addr lanes) (latch .range { s with port := .data allLanes 0xFFFFFFFF })

/-- R188: a read forwarded from the queue or made at the memory port. Only the enabled lanes carry data. -/
def readThrough (addr : Word) (lanes : Lanes) (s : State) : State :=
  { s with port := .data lanes (ownValue (wordAddr addr) s &&& laneMask lanes) }

/-- R176, R178: a controller read at its grant. -/
def portRead (addr : Word) (lanes : Lanes) (s : State) : State :=
  match classify addr s with
  | .outOfRange => rangeRead addr lanes s
  | .setup _ | .status | .ticket _ _ | .event | .plain => readThrough addr lanes s

/-- R176: a controller read presented at the port, taken at its grant. -/
def controllerReads (addr : Word) (lanes : Lanes) (s : State) : State := portRead addr lanes (granted .controller s)

/-- R176: a controller write presented at the port, taken at its grant. -/
def controllerWrites (addr : Word) (lanes : Lanes) (data : Word) (s : State) : State :=
  portWrite addr lanes data (granted .controller s)

/-- R195: a controller write to setup word `n`. -/
def setupWrites (n : Nat) (lanes : Lanes) (data : Word) (s : State) : State :=
  controllerWrites (setupAddr n s) lanes data s

/-- R212: a command word: code and tag. -/
def commandWord (code : BitVec 8) (tag : Index) : Word := code.setWidth 32 ||| (tag.setWidth 32 <<< 16)

/-- R157: a full-word write of a command code and tag to setup word 0. -/
def commandWrites (code : BitVec 8) (tag : Index) (s : State) : State :=
  setupWrites 0 allLanes (commandWord code tag) s

/-! ### The controller's rows -/

/-- CONTROLLER_READ. -/
def execControllerRead (addr : Word) (lanes : Lanes) (s : State) : Out := .next (controllerReads addr lanes s)

/-- CONTROLLER_WRITE. -/
def execControllerWrite (addr : Word) (lanes : Lanes) (data : Word) (s : State) : Out :=
  .next (controllerWrites addr lanes data s)

/-- TICKET_WRITE. -/
def execTicketWrite (addr : Word) (lanes : Lanes) (data : Word) (s : State) : Out :=
  .next (controllerWrites addr lanes data s)

/-- SETUP_WRITE. -/
def execSetupWrite (n : BitVec 6) (lanes : Lanes) (data : Word) (s : State) : Out :=
  .next (setupWrites n.toNat lanes data s)

/-- INTERRUPT_ACKNOWLEDGE. -/
def execInterruptAcknowledge (lanes : Lanes) (data : Word) (s : State) : Out := .next (setupWrites 1 lanes data s)

/-- INTERRUPT_ENABLE. -/
def execInterruptEnable (lanes : Lanes) (data : Word) (s : State) : Out := .next (setupWrites 2 lanes data s)

/-- PUBLISH_INDEX. -/
def execPublishIndex (lanes : Lanes) (data : Word) (s : State) : Out := .next (setupWrites 3 lanes data s)

/-- EVENT_READ_INDEX. -/
def execEventReadIndex (lanes : Lanes) (data : Word) (s : State) : Out := .next (setupWrites 4 lanes data s)

/-- TICKETS_LOW_MARK. -/
def execTicketsLowMark (lanes : Lanes) (data : Word) (s : State) : Out := .next (setupWrites 7 lanes data s)

/-- EVENT_RING_LAYOUT. -/
def execEventRingLayout (slots : Bool) (lanes : Lanes) (data : Word) (s : State) : Out :=
  .next (setupWrites (if slots then 38 else 37) lanes data s)

/-- NONE. -/
def execNone (tag : Index) (s : State) : Out := .next (commandWrites 0 tag s)

/-- START. -/
def execStart (tag : Index) (s : State) : Out := .next (commandWrites 1 tag s)

/-- CALIBRATE. -/
def execCalibrate (tag : Index) (s : State) : Out := .next (commandWrites 2 tag s)

/-- PAUSE. -/
def execPause (tag : Index) (s : State) : Out := .next (commandWrites 3 tag s)

/-- STOP. -/
def execStop (tag : Index) (s : State) : Out := .next (commandWrites 4 tag s)

/-- RESUME. -/
def execResume (tag : Index) (s : State) : Out := .next (commandWrites 5 tag s)

/-- END. -/
def execEnd (tag : Index) (s : State) : Out := .next (commandWrites 6 tag s)

/-- CLEAR. -/
def execClear (tag : Index) (s : State) : Out := .next (commandWrites 7 tag s)

/-- UNKNOWN_COMMAND. -/
def execUnknownCommand (code : BitVec 8) (tag : Index) (s : State) : Out := .next (commandWrites code tag s)

end Sys2Proof.Machine
end

