-- ==== Sys2Proof/Machine/Reporting.lean ====
section
/-! DEFINITION. The part's own traffic: fetches (R66 to R70), the queue's grant (R189), start-up (R193), the
placement of dispositions, event records and status words (R90, R201, R205, R183), the snapshot (R206), and
the pin reset (R177). -/

namespace Sys2Proof.Machine

/-! ### Fetches -/

/-- R66: when a fetch begins. -/
def fetchBegins (s : State) : Bool :=
  s.seq.startupComplete && decide (s.tix.fetch = .idle) && decide (s.tix.fetchIndex ≠ s.publish)
    && decide (s.tix.table.length < Config.tableCapacity)

/-- R66: a fetch begins. -/
def startFetch (s : State) : State :=
  if fetchBegins s then { s with tix := { s.tix with fetch := .due0, fetchAmended := none } } else s

/-- FETCH_START. -/
def execFetchStart (s : State) : Out := .next (startFetch s)

/-- R190: the fetch read that is due is granted. -/
def readFetch (s : State) : State := if fetchDue s then granted .fetch s else s

/-- FETCH_READ. -/
def execFetchRead (s : State) : Out := .next (readFetch s)

/-- R69, R214: the fold style of ticket word 1, none for an undefined code. -/
def styleOf (w1 : Word) : Option FoldStyle :=
  match (w1.extractLsb' 16 3).toNat with
  | 0 => some .flat
  | 1 => some .half
  | 2 => some .letter
  | 3 => some .zig
  | _ => none

/-- R69, R214: the divert class of ticket word 1, none for the undefined code. -/
def classOf (w1 : Word) : Option DivertClass :=
  match (w1.extractLsb' 20 2).toNat with
  | 0 => some .normal
  | 1 => some .sample
  | 2 => some .pull
  | _ => none

/-- R70: a style's limit of sheets. -/
def FoldStyle.limit : FoldStyle → Nat
  | .flat => 14 | .half => 12 | .letter => 10 | .zig => 8

/-- R214: the serial of ticket word 0. -/
def serialOf (w0 : Word) : Serial := w0.setWidth 24

/-- R214: the sheet count of ticket word 1. -/
def countOf (w1 : Word) : Nat := (w1.extractLsb' 8 8).toNat

/-- R214: the job tag of ticket word 1. -/
def tagOf (w1 : Word) : BitVec 8 := w1.setWidth 8

/-- R70: the first check that fails. -/
def validate (w0 w1 : Word) (s : State) : Option InvalidReason :=
  let style := (styleOf w1).getD .flat
  if w0.extractLsb' 24 8 ≠ 0x5C then some .marker
  else if serialOf w0 = 0 then some .serial
  else if countOf w1 = 0 ∨ Config.setCapacity < countOf w1 then some .count
  else if (styleOf w1).isNone ∨ (classOf w1).isNone then some .code
  else if style.limit < countOf w1 then some .styleLimit
  else if (tagOf w1).setWidth 32 ≠ s.setup 8 then some .tag
  else if s.tix.table.any fun t => t.invalid.isNone && decide (t.serial = serialOf w0) then some .duplicate
  else none

/-- R70: the reason a divert class puts into the reason set. -/
def DivertClass.reasons : DivertClass → BitVec 12
  | .normal => 0
  | .sample => Reason.sample.bit
  | .pull => Reason.pull.bit

/-- R69: the ticket as it enters the table. -/
def newTicket (w0 w1 : Word) (s : State) : Ticket :=
  let invalid := validate w0 w1 s
  let cls := (classOf w1).getD .normal
  { ring := s.tix.fetchIndex, serial := serialOf w0, tag := tagOf w1, count := countOf w1
    style := (styleOf w1).getD .flat, cls := cls, invalid := invalid
    amended := s.tix.fetchAmended.isSome, assigned := 0, expected := 0
    reasons := (if invalid.isSome then Reason.ticketInvalid.bit else 0) ||| cls.reasons
      ||| (if s.tix.fetchAmended.isSome then Reason.amended.bit else 0)
    setsIssued := 0, setsFinal := 0, diverted := false, state := .waiting }

/-- R70: TICKET_INVALID is offered for an invalid ticket. -/
def offerInvalid (t : Ticket) (s : State) : State :=
  match t.invalid with
  | some r => offer (.ticketInvalid t.ring t.serial r) s
  | none => s

/-- R67: TICKET_AMENDED is offered for a ticket amended in its fetch. -/
def offerAmended (t : Ticket) (one : Option Bool) (s : State) : State :=
  match one with
  | some b => offer (.ticketAmended t.ring t.serial b) s
  | none => s

/-- R66: the fetch is over. -/
def endFetch (s : State) : State := { s with tix := { s.tix with fetch := .idle, fetchAmended := none } }

/-- R83: a ticket entering the table has a stalled collator decide afresh. -/
def ticketEntered (s : State) : State := if s.col.stall.isSome then collate s else s

/-- R66: the ticket enters the table and the fetch index advances. -/
def enterTicket (t : Ticket) (s : State) : State :=
  hand [3, 15] s { s with tix := { s.tix with
    table := s.tix.table ++ [t], fetchIndex := s.tix.fetchIndex + 1 } }

/-- R66, R70, R83: the fetch completes with the data of both words. -/
def completeFetch (w0 w1 : Word) (s : State) : State :=
  if s.publish = s.tix.fetchIndex then endFetch s
  else
    let t := newTicket w0 w1 s
    settleEnd s (ticketEntered (offerAmended t s.tix.fetchAmended (offerInvalid t (enterTicket t (endFetch s)))))

/-- R66: the data of a fetch read returns. -/
def returnData (s : State) : State :=
  match s.tix.fetch with
  | .flight0 w0 => setFetch (.due1 w0) s
  | .flight1 w0 w1 => completeFetch w0 w1 s
  | .idle | .due0 | .due1 _ => s

/-- FETCH_DATA_RETURN. -/
def execFetchDataReturn (g : Gauge) (s : State) : Out := .next (returnData (setGauge g s))

/-! ### The queue's grant -/

/-- R189: the arbiter grants the queue. -/
def grantTheQueue (s : State) : State := if s.path.queue.isEmpty then s else granted .queue s

/-- QUEUE_GRANT. -/
def execQueueGrant (s : State) : Out := .next (grantTheQueue s)

/-! ### Start-up -/

/-- R200: the records held from before start-up take the numbers after `n`, in order. -/
def numberHeld (n : Word) : List Staged → List Staged
  | [] => []
  | r :: rs => { r with seq := some (n + 1) } :: numberHeld (n + 1) rs

/-- R200: LINE_STATE with the state IDLE and no previous state, the first record of the run. -/
def firstRecord (s : State) : Staged :=
  { seq := some (s.rep.seq + 1), time := s.enc.msClock, event := .lineState .idle none .none }

/-- R155, R193, R200: start-up is complete. -/
def completeStartup (s : State) : State :=
  estopCheck (hand [14] s { s with
    seq := { s.seq with startupComplete := true }
    rep := { s.rep with
      seq := s.rep.seq + 1 + word s.rep.staging.length
      staging := firstRecord s :: numberHeld (s.rep.seq + 1) s.rep.staging } })

/-- R193: the writer moves to the next position; past 55 start-up is complete. -/
def advanceStartup (s : State) : State :=
  let s1 := { s with path := { s.path with startPos := s.path.startPos + 1 } }
  if s1.path.startPos = 56 then completeStartup s1 else s1

/-- R193: the writer at setup word `n`. -/
def startupSetup (n : Nat) (s : State) : State :=
  if s.path.written.getD n false then advanceStartup s
  else if placeable (setupAddr n s) s then advanceStartup (place (setupAddr n s) (s.setup n) s)
  else s

/-- R206: the value of a snapshot word last placed. -/
def notePlaced (n : Nat) (v : Word) (s : State) : State :=
  if 9 ≤ n then { s with rep := { s.rep with snapPlaced := s.rep.snapPlaced.set (n - 9) (some v) } } else s

/-- R193: the writer at status word `n`. -/
def startupStatus (n : Nat) (s : State) : State :=
  if placeable (statusAddr n s) s then
    advanceStartup (notePlaced n (statusWord n s) (place (statusAddr n s) (statusWord n s) s))
  else s

/-- R193: the start-up writer at its position. -/
def startupStep (s : State) : State :=
  if s.path.startPos < 40 then startupSetup s.path.startPos s
  else if s.path.startPos < 56 then startupStatus (s.path.startPos - 40) s
  else s

/-- STARTUP_WRITE. -/
def execStartupWrite (s : State) : Out := .next (startupStep s)

/-! ### Dispositions -/

/-- R90: a serial joins the retired-serial list. -/
def retireSerial (x : Serial) (l : List Serial) : List Serial :=
  (if l.length < Config.retiredCapacity then l else l.drop 1) ++ [x]

/-- R68: the number of DISPOSED tickets at the oldest end of the table. -/
def disposedAtFront (t : List Ticket) : Nat := (t.takeWhile fun x => x.state = .disposed).length

/-- R68: retirement. -/
def retire (s : State) : State :=
  let n := disposedAtFront s.tix.table
  hand [3, 15] s { s with tix := { s.tix with
    table := s.tix.table.drop n, retireIndex := s.tix.retireIndex + BitVec.ofNat 16 n } }

/-- R90: the disposition is placed: DISPOSED, the retired-serial list, the event, retirement. -/
def placeDisposition (d : Disposition) (rest : List Disposition) (s : State) : State :=
  let s1 := place (slotAddr d.ring 7 s) d.word s
  let s2 := s1.editTicket d.ring fun t => { t with state := .disposed }
  let s3 := { s2 with tix := { s2.tix with waiting := rest, retired := retireSerial d.serial s2.tix.retired } }
  retire (offer (.piece d.outcome d.ring d.serial d.count d.reasons) s3)

/-- R90: the oldest waiting disposition, if the queue takes it. -/
def dispose (s : State) : State :=
  match s.tix.waiting with
  | [] => s
  | d :: rest =>
    if s.seq.startupComplete && placeable (slotAddr d.ring 7 s) s then placeDisposition d rest s else s

/-- DISPOSITION_PLACE. -/
def execDispositionPlace (s : State) : Out := .next (dispose s)

/-! ### Event records -/

/-- R201: the conditions for moving a record. -/
def recordMoves (s : State) : Bool :=
  s.seq.startupComplete && decide (s.path.queue.length + Config.recordWords ≤ Config.queueCapacity)
    && decide (s.occupancy < s.setupN 38)

/-- R201: the address of word `i` of the record at the write slot. -/
def recordAddr (i : Nat) (s : State) : Word := word (s.setupN 37 + s.rep.writeSlot * 24 + 4 * i)

/-- R201 step 1: the words of a record placed from word `i` on. -/
def placeWords : Nat → List Word → State → State
  | _, [], s => s
  | i, w :: ws, s => placeWords (i + 1) ws (place (recordAddr i s) w s)

/-- R201: the write slot after a record. -/
def nextSlot (s : State) : Nat := if s.rep.writeSlot + 1 < s.setupN 38 then s.rep.writeSlot + 1 else 0

/-- R201 steps 2 to 4. -/
def advanceRing (rest : List Staged) (s : State) : State :=
  hand [4, 5] s { s with rep := { s.rep with
    staging := rest, writeIndex := s.rep.writeIndex + 1, writeSlot := nextSlot s } }

/-- R208: EVENTS is latched when the record has taken the occupancy from below the threshold to it. -/
def eventsTest (before : Nat) (s : State) : State :=
  if before < s.setupN 6 ∧ s.setupN 6 ≤ s.occupancy then latch .events s else s

/-- R201: the oldest staged record is moved into the ring. -/
def moveRecord (s : State) : State :=
  match s.rep.staging with
  | [] => s
  | r :: rest =>
    if recordMoves s then eventsTest s.occupancy (advanceRing rest (placeWords 0 r.words s)) else s

/-- EVENT_RECORD_MOVE. -/
def execEventRecordMove (s : State) : Out := .next (moveRecord s)

/-! ### Status words, the snapshot and setup word 12 -/

/-- R205: the first due status word that would be taken is placed. -/
def placeDue (s : State) : State :=
  match (List.range 16).find? fun n => statusReady n s with
  | some n => placeStatus n s
  | none => s

/-- STATUS_PLACE. -/
def execStatusPlace (s : State) : Out := .next (placeDue s)

/-- R206: the due marks after a snapshot of the values. DEDUCED (notes/assumptions/30.md; "unsafe"): a word that the
controller has overwritten while its value stands is not made due, although R205 has it written again at the next
snapshot; R206's comparison with the value last placed is followed. -/
def snapDues (values : List Word) (placed : List (Option Word)) (due : List Bool) : List Bool :=
  (List.range 5).foldl (fun d i =>
    if placed.getD i none = some (values.getD i 0) then d else d.set (9 + i) true) due

/-- R206: the snapshot, once the 10th tick has come. -/
def takeSnapshot (s : State) : State :=
  if s.rep.snapDue then
    { s with rep := { s.rep with
      snapDue := false, snapValues := s.snapNow, due := snapDues s.snapNow s.rep.snapPlaced s.rep.due } }
  else s

/-- SNAPSHOT. -/
def execSnapshot (s : State) : Out := .next (takeSnapshot s)

/-- R183: the report write of setup word 12 that waits after a calibration is placed. -/
def reportPhase (s : State) : State :=
  if s.path.phaseReport && s.seq.startupComplete && placeable (setupAddr 12 s) s then
    place (setupAddr 12 s) (s.setup 12) { s with path := { s.path with phaseReport := false } }
  else s

/-- SETUP_WORD_12_REPORT. -/
def execSetupWord12Report (s : State) : Out := .next (reportPhase s)

/-! ### Pin reset -/

/-- PIN_RESET. The memory and the commands still waiting outside are kept (R176). -/
def execPinReset (straps : Straps) (pins : Pins) (s : State) : Out :=
  .next (State.afterPinReset straps pins s.mem s.pending)

end Sys2Proof.Machine
end

