-- ==== Sys2Proof/Machine/Dispatch.lean ====
section
/-! DEFINITION. Which meaning each command has, one arm per row of spec/opcode_table.json. -/

namespace Sys2Proof.Machine

def exec (i : Instr) (s : State) : Host.Outcome State Fault Refusal :=
  match i with
  | .pinReset straps pins => Sys2Proof.Machine.execPinReset straps pins s
  | .webMotionEvent a b gauge => Sys2Proof.Machine.execWebMotionEvent a b gauge s
  | .beltStep a b gauge => Sys2Proof.Machine.execBeltStep a b gauge s
  | .markEdge dark => Sys2Proof.Machine.execMarkEdge dark s
  | .leadingEdge => Sys2Proof.Machine.execLeadingEdge s
  | .trailingEdge => Sys2Proof.Machine.execTrailingEdge s
  | .tick => Sys2Proof.Machine.execTick s
  | .stepPulse => Sys2Proof.Machine.execStepPulse s
  | .snapEnd => Sys2Proof.Machine.execSnapEnd s
  | .jogEnd gauge => Sys2Proof.Machine.execJogEnd gauge s
  | .dropEnd => Sys2Proof.Machine.execDropEnd s
  | .releaseEnd => Sys2Proof.Machine.execReleaseEnd s
  | .foldTimeout => Sys2Proof.Machine.execFoldTimeout s
  | .exitMissing => Sys2Proof.Machine.execExitMissing s
  | .snapshot => Sys2Proof.Machine.execSnapshot s
  | .foldDone level => Sys2Proof.Machine.execFoldDone level s
  | .foldFault level => Sys2Proof.Machine.execFoldFault level s
  | .exitEdge level => Sys2Proof.Machine.execExitEdge level s
  | .rejectFullChange level => Sys2Proof.Machine.execRejectFullChange level s
  | .foldReadyChange level => Sys2Proof.Machine.execFoldReadyChange level s
  | .webPresentFall level gauge => Sys2Proof.Machine.execWebPresentFall level gauge s
  | .paperLow level => Sys2Proof.Machine.execPaperLow level s
  | .estop level => Sys2Proof.Machine.execEstop level s
  | .webBreak level => Sys2Proof.Machine.execWebBreak level s
  | .controllerRead addr lanes => Sys2Proof.Machine.execControllerRead addr lanes s
  | .controllerWrite addr lanes data => Sys2Proof.Machine.execControllerWrite addr lanes data s
  | .ticketWrite addr lanes data => Sys2Proof.Machine.execTicketWrite addr lanes data s
  | .setupWrite n lanes data => Sys2Proof.Machine.execSetupWrite n lanes data s
  | .noneCommand tag => Sys2Proof.Machine.execNone tag s
  | .start tag => Sys2Proof.Machine.execStart tag s
  | .calibrate tag => Sys2Proof.Machine.execCalibrate tag s
  | .pause tag => Sys2Proof.Machine.execPause tag s
  | .stop tag => Sys2Proof.Machine.execStop tag s
  | .resume tag => Sys2Proof.Machine.execResume tag s
  | .endRun tag => Sys2Proof.Machine.execEnd tag s
  | .clear tag => Sys2Proof.Machine.execClear tag s
  | .interruptAcknowledge lanes data => Sys2Proof.Machine.execInterruptAcknowledge lanes data s
  | .interruptEnable lanes data => Sys2Proof.Machine.execInterruptEnable lanes data s
  | .publishIndex lanes data => Sys2Proof.Machine.execPublishIndex lanes data s
  | .eventReadIndex lanes data => Sys2Proof.Machine.execEventReadIndex lanes data s
  | .ticketsLowMark lanes data => Sys2Proof.Machine.execTicketsLowMark lanes data s
  | .eventRingLayout slots lanes data => Sys2Proof.Machine.execEventRingLayout slots lanes data s
  | .fetchStart => Sys2Proof.Machine.execFetchStart s
  | .fetchRead => Sys2Proof.Machine.execFetchRead s
  | .fetchDataReturn gauge => Sys2Proof.Machine.execFetchDataReturn gauge s
  | .queueGrant => Sys2Proof.Machine.execQueueGrant s
  | .startupWrite => Sys2Proof.Machine.execStartupWrite s
  | .dispositionPlace => Sys2Proof.Machine.execDispositionPlace s
  | .eventRecordMove => Sys2Proof.Machine.execEventRecordMove s
  | .statusPlace => Sys2Proof.Machine.execStatusPlace s
  | .setupWord12Report => Sys2Proof.Machine.execSetupWord12Report s
  | .unknownCommand code tag => Sys2Proof.Machine.execUnknownCommand code tag s

end Sys2Proof.Machine
end

