-- ==== Sys2Proof/Machine/Margin.lean ====
section
/-! DEFINITION. The margin frame as the printer prints it (R216), the counterpart of the reader of chapter 2:
the machine never runs it; statements about reading are made with it. True stands for a dark mark. -/

namespace Sys2Proof.Machine

/-- R22, R216: the flag, five dark marks and one blank. -/
def flagMarks : List Bool := [true, true, true, true, true, false]

/-- R216: a field of `n` bits, most significant bit first. -/
def fieldBits (n v : Nat) : List Bool := (List.range n).map fun i => Nat.testBit v (n - 1 - i)

/-- R216: data bits 1 to 37. -/
def contentBits (f : Frame) : List Bool :=
  fieldBits 8 f.tag.toNat ++ fieldBits 24 f.serial.toNat ++ fieldBits 4 f.index.toNat ++ [f.isLast]

/-- R24: the check value of the first 37 data bits. -/
def checkValue (bits : List Bool) : BitVec 16 := bits.foldl checkStep 0xFFFF

/-- R24, R216: the 53 data bits, the check word last. -/
def frameBits (f : Frame) : List Bool :=
  contentBits f ++ fieldBits 16 (checkValue (contentBits f) ^^^ 0xFFFF).toNat

/-- R216: the data marks: a blank stuffed after every four dark marks that have run together. `d` counts the
dark marks that have run together so far. -/
def stuffed : Nat → List Bool → List Bool
  | _, [] => []
  | _, false :: bs => false :: stuffed 0 bs
  | d, true :: bs => if d = 3 then true :: false :: stuffed 0 bs else true :: stuffed (d + 1) bs

/-- R216: the marks of a frame in the order they pass the read head. -/
def printedMarks (f : Frame) : List Bool := flagMarks ++ stuffed 0 (frameBits f) ++ flagMarks

/-- The reader given one sample after another. -/
def feedMarks : List Bool → State → State
  | [], s => s
  | m :: ms, s => feedMarks ms (frameSample m s)

end Sys2Proof.Machine
end

