-- ==== Sys2Proof/Safety.lean ====
section
/-! DEFINITION. What claims about runs speak of: the conditions that the rules promise for every state the
part is in, and what software reads of a word of memory. Each holds at State.reset, and Safe gathers them. -/

namespace Sys2Proof.Machine

/-! ### The line and its outputs -/

/-- R155: the halt kind is none in every line state other than HALTING and HALTED. -/
def haltKindOk (s : State) : Bool :=
  match s.seq.line with
  | .halting | .halted => true
  | .idle | .calibrate | .register | .run | .fault => decide (s.seq.haltKind = .none)

/-- R113: the level DRIVE_ENABLE has in a line state with the transport in a state. -/
def driveLevel (l : LineState) (m : MoveState) : Bool :=
  match l with
  | .idle => false
  | .calibrate | .register | .run | .halting | .halted => true
  | .fault => decide (m = .rampStop)

/-- R119: the level BELT_RUN has in a line state. -/
def beltLevel (l : LineState) : Bool :=
  match l with
  | .idle | .calibrate | .fault => false
  | .register | .run | .halting | .halted => true

/-- R107, R108, R114: the transport states a line state admits. -/
def moveOk (l : LineState) (m : MoveState) : Bool :=
  match l with
  | .idle => decide (m = .still)
  | .fault => decide (m ≠ .moving)
  | .calibrate | .register | .run | .halting | .halted => decide (m ≠ .rampStop)

/-- R107, R110, R17: the transport's figures: STILL has speed and remainder 0, the others a speed above 0; the
remainder is at most 999 and no more pulses are emitted than are due. -/
def figuresOk (t : Transport) : Bool :=
  (if t.state = .still then decide (t.speed = 0 ∧ t.remainder = 0) else decide (0 < t.speed))
    && decide (t.remainder ≤ 999) && decide (t.emitted ≤ t.due)

/-- R104, R114: in FAULT the transport has no stop target. -/
def faultTargetOk (s : State) : Bool := decide (s.seq.line = .fault → s.tr.targetC = none)

/-- R107, R113, R119, R155: the line's outputs and the transport follow the line state. -/
def LineOk (s : State) : Prop :=
  haltKindOk s = true ∧ s.tr.driveEnable = driveLevel s.seq.line s.tr.state
    ∧ s.tr.beltRun = beltLevel s.seq.line ∧ moveOk s.seq.line s.tr.state = true ∧ figuresOk s.tr = true
    ∧ faultTargetOk s = true

/-! ### The memory path -/

/-- R186: the report write queue holds at most 16 entries and no two for the same word. -/
def QueueOk (s : State) : Prop :=
  s.path.queue.length ≤ Config.queueCapacity ∧ (s.path.queue.map QueueEntry.addr).Nodup

/-- R195: a value is within the range of setup word `n`. The greatest value of word 6 is word 38's. -/
def setupInRange (top n : Nat) (v : Word) : Bool :=
  if n = 35 then decide (v.toNat % 32 = 0 ∧ v.toNat < top)
  else if n = 36 then isSlotCount v.toNat
  else if n = 37 then decide (v.toNat % 8 = 0 ∧ v.toNat < top)
  else match (setupRow n).cls with
    | .free | .own => decide (v &&& setupFields n = v)
    | .clamp | .refuse =>
      decide ((setupRow n).lo ≤ v.toNat) && decide (v.toNat ≤ (setupRow n).hi)

/-- R180, R195: the shadow holds 40 working values, each in its word's range. -/
def ShadowOk (s : State) : Prop :=
  s.path.shadow.length = 40 ∧ ∀ n, n < 40 → setupInRange s.top n (s.setup n) = true

/-- R188: the value of the latest write to the word at `addr`: a queued report write, or what memory holds. -/
def latestValue (addr : Word) (s : State) : Word := ownValue addr s

/-- A word address in the memory fitted. -/
def wordIn (addr : Word) (s : State) : Prop := addr.toNat % 4 = 0 ∧ addr.toNat < s.top

/-- R186: every entry's address is that of a word below the top (R189). -/
def EntriesIn (s : State) : Prop := ∀ e ∈ s.path.queue, wordIn e.addr s

/-! ### The reports and the tickets -/

/-- R200: at most 8 records are staged, and at most 7 before start-up completes. -/
def StageOk (s : State) : Prop :=
  s.rep.staging.length ≤ Config.stagingCapacity
    ∧ (s.seq.startupComplete = false → s.rep.staging.length ≤ Config.heldCapacity)

/-- R66, R70: at most 16 tickets stand in the table, and fewer while a fetch is in progress. -/
def TableOk (s : State) : Prop :=
  s.tix.table.length ≤ Config.tableCapacity
    ∧ (s.tix.fetch ≠ .idle → s.tix.table.length < Config.tableCapacity)

/-- R193: the start-up writer's position runs from 0 to 56, and start-up is complete exactly at 56. -/
def StartupOk (s : State) : Prop :=
  s.path.startPos ≤ 56 ∧ (s.seq.startupComplete = true ↔ s.path.startPos = 56)

/-- R65, R70: the tickets in the table are those whose ring indexes run from retire to fetch less 1. -/
def RingOk (s : State) : Prop :=
  s.tix.fetchIndex = s.tix.retireIndex + BitVec.ofNat 16 s.tix.table.length
    ∧ s.tix.table.map Ticket.ring
      = (List.range s.tix.table.length).map fun i => s.tix.retireIndex + BitVec.ofNat 16 i

/-- R65: publish less retire is no greater than the ring slots and no less than fetch less retire. -/
def PublishOk (s : State) : Prop :=
  (s.publish - s.tix.retireIndex).toNat ≤ s.setupN 36
    ∧ (s.tix.fetchIndex - s.tix.retireIndex).toNat ≤ (s.publish - s.tix.retireIndex).toNat

/-- R70: no two tickets not marked invalid share a serial. -/
def SerialsOk (s : State) : Prop :=
  s.tix.table.Pairwise fun a b => a.invalid = none → b.invalid = none → a.serial ≠ b.serial

/-- R201, R182: the write slot is one of the ring's, and the occupancy is at most the most slots a ring can have. -/
def EventRingOk (s : State) : Prop := s.rep.writeSlot < s.setupN 38 ∧ s.occupancy ≤ 4096

/-! ### The sheet path -/

/-- R40, R42: at most 48 records, and none in IDLE, CALIBRATE and REGISTER. -/
def SheetsOk (s : State) : Prop :=
  s.trk.queue.length ≤ Config.trackCapacity
    ∧ (s.seq.line = .idle ∨ s.seq.line = .calibrate ∨ s.seq.line = .register → s.trk.queue = [])

/-- R94, R104: outside RUN, HALTING and HALTED the hold planner names no sheet and holds no target, no halt request
and no parked flag, and the transport has no target. -/
def PlannerOk (s : State) : Prop :=
  s.seq.line.running = false →
    s.pln.gateSheet = none ∧ s.pln.gateTarget = none ∧ s.pln.haltKind = .none ∧ s.pln.haltSheet = .none
      ∧ s.pln.haltTarget = none ∧ s.pln.stop = none ∧ s.pln.parked = false ∧ s.tr.targetW = none
      ∧ s.tr.targetC = none

/-- R121, R122, R132: the build pocket's record, outputs and timers follow its state, and a set drops only into an
EMPTY hold pocket. -/
def BuildOk (s : State) : Prop :=
  (s.acc.state = .empty ↔ s.acc.set = none)
    ∧ (s.acc.jog = true → s.acc.state = .jogging) ∧ (s.acc.drop = true → s.acc.state = .dropping)
    ∧ (s.acc.jogTimer.running = true → s.acc.state = .jogging)
    ∧ (s.acc.dropTimer.running = true → s.acc.state = .dropping)
    ∧ (s.acc.state = .dropping → s.rel.hold = .empty)

/-- R138, R139, R146: the hold pocket's and the folder's records, outputs and timers follow their states. -/
def HoldOk (s : State) : Prop :=
  (s.rel.hold = .empty ↔ s.rel.set = none)
    ∧ (s.rel.release = true → s.rel.hold = .releasing)
    ∧ (s.rel.releaseTimer.running = true → s.rel.hold = .releasing)
    ∧ (s.rel.folding = true ↔ s.rel.folder ≠ none)
    ∧ (s.rel.foldTimer.running = true → s.rel.folding = true)

/-- A fold release is in progress. -/
def foldReleasing (s : State) : Bool := decide (s.rel.hold = .releasing) && decide (s.rel.verdict = .good)

/-- R146, R149: one set at a time is released to or held by the folder, and with it the exit list holds no more than
2 pieces. -/
def FolderOk (s : State) : Prop :=
  (foldReleasing s = true → s.rel.folding = false)
    ∧ s.rel.exitList.length + (if s.rel.folding = true ∨ foldReleasing s = true then 1 else 0) ≤ Config.exitCapacity

/-- The pockets and the folder together. -/
def PocketOk (s : State) : Prop := BuildOk s ∧ HoldOk s ∧ FolderOk s

/-- All the conditions together. -/
def Safe (s : State) : Prop :=
  LineOk s ∧ PlannerOk s ∧ SheetsOk s ∧ PocketOk s ∧ QueueOk s ∧ EntriesIn s ∧ ShadowOk s ∧ StartupOk s ∧ StageOk s
    ∧ EventRingOk s ∧ TableOk s ∧ RingOk s ∧ PublishOk s ∧ SerialsOk s ∧ Memory.wf s.mem = true

/-! ### What a step leaves alone

The frames of the claims about single commands. -/

/-- Every byte of memory reads as before. -/
def sameBytes (s t : State) : Prop := ∀ a, Memory.readByte a t.mem = Memory.readByte a s.mem

/-- The bus side: the report write queue, the arbiter, the straps, the written marks, the start-up writer, the
controller port and the waiting commands. -/
def sameBus (s t : State) : Prop :=
  t.path.queue = s.path.queue ∧ t.path.arbiter = s.path.arbiter ∧ t.path.straps = s.path.straps
    ∧ t.path.written = s.path.written ∧ t.path.startPos = s.path.startPos ∧ t.port = s.port ∧ t.pending = s.pending

/-- R69: the fields of a ticket that stay in force for its whole stay in the table. -/
def Ticket.fetched (t : Ticket) : Index × Serial × BitVec 8 × Nat × FoldStyle × DivertClass × Option InvalidReason :=
  (t.ring, t.serial, t.tag, t.count, t.style, t.cls, t.invalid)

/-- The ticket ring: the indexes, the fetch, the retired serials, and the tickets as they were fetched. -/
def sameRing (s t : State) : Prop :=
  t.tix.fetchIndex = s.tix.fetchIndex ∧ t.tix.retireIndex = s.tix.retireIndex ∧ t.tix.fetch = s.tix.fetch
    ∧ t.tix.fetchAmended = s.tix.fetchAmended ∧ t.tix.retired = s.tix.retired
    ∧ t.tix.table.map Ticket.fetched = s.tix.table.map Ticket.fetched

/-- The event ring's indexes, the values the last snapshot took, the command outcome and the start-up flag. -/
def sameReports (s t : State) : Prop :=
  t.rep.writeIndex = s.rep.writeIndex ∧ t.rep.writeSlot = s.rep.writeSlot ∧ t.rep.snapValues = s.rep.snapValues
    ∧ t.rep.snapPlaced = s.rep.snapPlaced ∧ t.seq.outcome = s.seq.outcome
    ∧ t.seq.startupComplete = s.seq.startupComplete

/-- What no event of the line itself touches: memory, the bus side, the ticket ring and the report indexes. -/
def Outside (s t : State) : Prop := sameBytes s t ∧ sameBus s t ∧ sameRing s t ∧ sameReports s t

/-- The ms clock, the measured speed and its history. -/
def sameClock (s t : State) : Prop :=
  t.enc.msClock = s.enc.msClock ∧ t.enc.vm = s.enc.vm ∧ t.enc.history = s.enc.history

/-- The web, belt and command counters and the high-water position. -/
def sameCounters (s t : State) : Prop :=
  t.enc.web = s.enc.web ∧ t.enc.belt = s.enc.belt ∧ t.enc.highWater = s.enc.highWater ∧ t.tr.command = s.tr.command

/-- The sheet path below the reader: tracking, the collator, the planner and both pockets. -/
def samePath (s t : State) : Prop :=
  t.trk = s.trk ∧ t.col = s.col ∧ t.pln = s.pln ∧ t.acc = s.acc ∧ t.rel = s.rel

/-- All of the line: the counters, the reader, the sheet path, the transport, the sequencer and the inputs. -/
def sameLine (s t : State) : Prop :=
  t.pins = s.pins ∧ t.enc = s.enc ∧ t.rd = s.rd ∧ samePath s t ∧ t.tr = s.tr ∧ t.seq = s.seq

/-- R1: the pair of channels goes one place forward in the cycle of four states. -/
def forwardPair (a b a' b' : Bool) : Bool := decide (a' = !b) && decide (b' = a)

/-- R1: the pair of channels goes one place back. -/
def reversePair (a b a' b' : Bool) : Bool := decide (a' = b) && decide (b' = !a)

/-- R2: both channels change together. -/
def illegalPair (a b a' b' : Bool) : Bool := decide (a' = !a) && decide (b' = !b)

/-- The causes latched contain `c`. -/
def State.latches (s : State) (c : Cause) : Prop := s.rep.latched &&& c.bit ≠ 0

/-! ### What claims about an advance of the web speak of -/

/-- R1, R6, R118: the levels make a forward step onto new ground, `h` is the position it covers, and the deviation
there is within the slip limit. -/
def advancesTo (s : State) (a b : Bool) (h : Word) : Prop :=
  forwardPair s.pins.webA s.pins.webB a b = true ∧ s.enc.web = s.enc.highWater ∧ h = s.enc.web + 1
    ∧ (s.tr.command - h).toInt.natAbs ≤ s.setupN 21

/-- R21: `h` is a sample position: a whole number of 12 tu past the grid's first. -/
def onGrid (s : State) (h : Word) : Prop :=
  0 ≤ signedDiff h (s.rd.origin + s.setup 12) ∧ signedDiff h (s.rd.origin + s.setup 12) % 12 = 0

/-- An advance to `h` in RUN, HALTING or HALTED at which the reader takes no sample and no perforation passes
(R21, R45), between ticks whose pulses are all emitted. -/
def plainAdvance (s : State) (a b : Bool) (h : Word) : Prop :=
  advancesTo s a b h ∧ s.seq.line.running = true ∧ ¬ onGrid s h ∧ (∀ p, s.trk.nextPerf = some p → reached h p = false)
    ∧ s.tr.due ≤ s.tr.emitted

/-- R53: no record is overrun at `h`. -/
def noOverrun (s : State) (h : Word) : Prop := ∀ x ∈ s.trk.queue, x.anchor + s.setup 13 + s.setup 14 ≠ h

/-- R40: a record's anchor names it alone. -/
def onlyOne (s : State) (r : Sheet) : Prop := ∀ x ∈ s.trk.queue, x.anchor = r.anchor → x = r

/-- R95: the record is the oldest unfired one that is unassigned or at position 1. -/
def isGateSheet (s : State) (r : Sheet) : Prop :=
  s.trk.queue.find? (fun x => decide (x.stage = .readOpen ∨ x.stage = .readDone)
    && (x.assignment.map fun a => decide (a.position = 1)).getD true) = some r

/-- R96: the five parts of the gate condition. -/
def gateParts (s : State) (r : Sheet) : Prop :=
  r.assignment ≠ none ∧ s.acc.state = .empty ∧ (∀ x ∈ s.trk.queue, x.stage = .readOpen ∨ x.stage = .readDone)
    ∧ (s.seq.line = .run ∨ s.seq.line = .halting)
    ∧ ¬ ((s.pln.haltKind = .pause ∨ s.pln.haltKind = .paperLow) ∧ s.pln.haltSheet = .sheet r.anchor)

/-- R12, R50: the high-water position at which a record fires: its burst point less the lead in force. -/
def firingPoint (s : State) (r : Sheet) : Word :=
  r.anchor + s.setup 13 - BitVec.ofNat 32 (min 2000 ((s.enc.vm * s.setupN 15 + 999999) / 1000000))

/-- R50, R61: the record waits at the nip: it is unassigned, the shut gate or a stop target at its park holds it, or the
web has not reached the point at which it goes. -/
def waitsAtNip (s : State) (r : Sheet) : Prop :=
  r.assignment = none ∨ s.pln.gateSheet = some r.anchor ∧ s.pln.gateOpen = false ∨
    s.pln.stop = some (r.anchor + s.setup 13 - s.setup 14) ∧ s.pln.cause ≠ .runout ∨
    r.origin = .tail ∧ reached s.enc.highWater (r.anchor + s.setup 13) = false ∨
    r.origin ≠ .tail ∧ reached s.enc.highWater (firingPoint s r) = false

/-- R98: the stop target in force when the gate target is `g`: the earlier of it and the halt target, with its
cause. -/
def stopWith (s : State) (g : Word) : Word × StopCause :=
  match s.pln.haltTarget with
  | none => (g, .gate)
  | some t => if reached g t then (t, s.pln.haltKind.cause) else (g, .gate)

/-- An advance in RUN, HALTING or HALTED at which no perforation passes (R45) and no record is overrun (R53). -/
def readingAdvance (s : State) (a b : Bool) (h : Word) : Prop :=
  advancesTo s a b h ∧ s.seq.line.running = true ∧ (∀ p, s.trk.nextPerf = some p → reached h p = false) ∧ noOverrun s h

/-! ### What claims about the reader speak of -/

/-- R23, R25: the sample of the level MARK has ends the frame in progress with the result. -/
def endsFrame (s : State) (res : FrameResult) : Prop :=
  s.rd.state = .data ∧ 5 ≤ s.rd.regs.darks ∧ res = (if s.pins.mark = true then .smudge else .format) ∨
    s.rd.state = .close ∧ s.rd.regs.darks < 5 ∧ s.pins.mark = false ∧ res = .format ∨
    s.rd.state = .close ∧ 5 ≤ s.rd.regs.darks ∧
      res = (if s.pins.mark = true then .smudge else completedResult s.rd.regs)

/-- R32: the result and the fields a sheet verdict settles with. -/
def settles (v : Verdict) (res : ReadResult) (f : Option Frame) : Prop :=
  v.governing = none ∧ res = .noFrame ∧ f = none ∨
    ∃ g, v.governing = some g ∧
      (g.result = none ∧ res = .format ∧ f = none ∨
        g.result ≠ none ∧ v.conflict = true ∧ res = .conflict ∧ f = none ∨
        v.conflict = false ∧
          ((∃ x, g.result = some (.ok x) ∧ res = .ok ∧ f = some x) ∨
            g.result = some .badCheck ∧ res = .badCheck ∧ f = none ∨
            g.result = some .format ∧ res = .format ∧ f = none ∨
            g.result = some .smudge ∧ res = .smudge ∧ f = none))

/-! ### What claims about the collator speak of -/

/-- R65: no two tickets of the table share a ring index. -/
def ringsApart (s : State) : Prop := (s.tix.table.map Ticket.ring).Nodup

/-- R71, R85: no ticket is COLLATING, and the open set is a purge set or none. -/
def atBoundary (s : State) : Prop :=
  (∀ x ∈ s.tix.table, x.state ≠ .collating) ∧ ∀ o, s.col.openSet = some o → o.owner = .purge

/-- R71, R76: the ticket `k` is COLLATING, and the open set is its or none. -/
def collates (s : State) (k : Ticket) : Prop :=
  s.tix.table.find? (fun x => decide (x.state = .collating)) = some k
    ∧ ∀ o, s.col.openSet = some o → o.owner = .ticket k.ring

/-- R81: `k` is the first WAITING ticket of the serial. -/
def awaits (s : State) (serial : Serial) (k : Ticket) : Prop :=
  s.tix.table.find? (fun x => decide (x.state = .waiting ∧ x.serial = serial)) = some k

/-- R76: the number of the set begun next. -/
def State.nextSetNumber (s : State) : Index := if s.col.setCounter = 65535 then 1 else s.col.setCounter + 1

/-- R77: the records once the open set has ended: the set-end mark stands on its last sheet, if that has not
landed. -/
def setEnded (s : State) : List Sheet :=
  match s.col.openSet with
  | none => s.trk.queue
  | some o => s.trk.queue.map fun x => if x.anchor = o.lastSheet then { x with setEnd := true } else x

/-- R75: the records with an assignment, and the set-end mark with it, written into the one of anchor `a`. -/
def assignedIn (a : Word) (k : Assignment) (ends : Bool) (q : List Sheet) : List Sheet :=
  q.map fun x => if x.anchor = a then { x with assignment := some k, setEnd := x.setEnd || ends } else x

/-- R77, R90: from `s` to `u` the piece of the ticket `k` is closed. -/
def closesPiece (s u : State) (k : Ticket) : Prop :=
  u.trk.queue = setEnded s ∧ u.col = { s.col with openSet := none } ∧
  u.tix.table = s.tix.table.map (fun x => if x.ring = k.ring then { x with
    state := if k.setsFinal = k.setsIssued then .disposing else .closed
    reasons := x.reasons ||| Reason.short.bit } else x) ∧
  u.tix.waiting = s.tix.waiting ++ (if k.setsFinal = k.setsIssued then
    [{ ring := k.ring, serial := k.serial, outcome := if k.diverted = true then .diverted else .delivered
       count := k.assigned, reasons := k.reasons ||| Reason.short.bit }] else [])

/-- R81: the WAITING tickets before `k`. -/
def passedBefore (k : Ticket) (s : State) : List Ticket :=
  (s.tix.table.takeWhile fun x => decide (x.ring ≠ k.ring)).filter fun x => decide (x.state = .waiting)

/-- R81, R90: from `s` to `u` the WAITING tickets before `k` are passed over. -/
def passes (s u : State) (k : Ticket) : Prop :=
  u.trk.queue = s.trk.queue ∧ u.col = s.col ∧
  u.tix.table = s.tix.table.map (fun x =>
    if x.ring ∈ (passedBefore k s).map Ticket.ring then { x with state := .disposing } else x) ∧
  u.tix.waiting = s.tix.waiting ++ (passedBefore k s).map fun x =>
    { ring := x.ring, serial := x.serial, outcome := .notSeen, count := x.assigned, reasons := x.reasons }

/-- R89, R90: from `s` to `t` a set of the ticket `k` reaches its outcome with the reasons `why`, DIVERTED as `diverted`
says; with the last set of a CLOSED ticket its disposition is made. -/
def reachesOutcome (s t : State) (k : Ticket) (why : BitVec 12) (diverted : Bool) : Prop :=
  t.tix.table = s.tix.table.map (fun x => if x.ring = k.ring then { x with
    reasons := x.reasons ||| why, diverted := x.diverted || diverted, setsFinal := x.setsFinal + 1
    state := if k.state = .closed ∧ k.setsFinal + 1 = k.setsIssued then .disposing else x.state } else x) ∧
  t.tix.waiting = s.tix.waiting ++ (if k.state = .closed ∧ k.setsFinal + 1 = k.setsIssued then
    [{ ring := k.ring, serial := k.serial
       outcome := if k.diverted = true ∨ diverted = true then .diverted else .delivered
       count := k.assigned, reasons := k.reasons ||| why }] else [])

/-- R89: the owner of a set whose outcome changes no ticket. -/
def changesNoTicket (s : State) (owner : Owner) : Prop :=
  owner = .purge ∨ ∃ ring, owner = .ticket ring ∧
    ∀ k, findTicket ring s.tix.table = some k → k.state ≠ .collating ∧ k.state ≠ .closed

/-- R79: from `s` to `t` the sheet of anchor `a` joins a purge set, the `c`th of set `n`. -/
def joinsPurge (s t : State) (a : Word) : Prop :=
  ∀ (n : Index) (c : Nat),
    (s.col.openSet = none → n = s.nextSetNumber ∧ c = 1) →
    (∀ o, s.col.openSet = some o → o.owner = .purge ∧ n = o.number ∧ c = o.sheets + 1) →
    t.trk.queue = assignedIn a { owner := .purge, number := n, position := c } (decide (c = 14)) s.trk.queue ∧
    t.col.openSet = (if c = 14 then none else some { number := n, owner := .purge, sheets := c, lastSheet := a }) ∧
    t.col.setCounter = (if s.col.openSet = none then n else s.col.setCounter) ∧
    t.tix.table = s.tix.table ∧ t.tix.waiting = s.tix.waiting

/-- R76: from `s` to `t` the sheet of anchor `a` joins the ticket `k`'s set, the open set `o` or a fresh one; `why` are
the reasons it brings, `expected` the next expected index, `last` whether it carries the last flag. -/
def joinsTicket (s t : State) (k : Ticket) (a : Word) (why : BitVec 12) (expected : Nat) (last : Bool) : Prop :=
  ∀ (o : OpenSet) (q : List Sheet) (fresh ends full : Bool),
    (s.col.openSet = some o ∧ o.owner = .ticket k.ring ∧ q = s.trk.queue ∧ fresh = false ∨
      (∀ p, s.col.openSet = some p → p.owner = .purge) ∧ q = setEnded s ∧ fresh = true ∧
        o = { number := s.nextSetNumber, owner := .ticket k.ring, sheets := 0, lastSheet := 0 }) →
    (ends = true ↔ k.assigned + 1 = k.count ∨ k.assigned + 1 = 255 ∨ last = true) →
    (full = true ↔ ends = false ∧ o.sheets + 1 = 14) →
    t.trk.queue = assignedIn a { owner := .ticket k.ring, number := o.number, position := o.sheets + 1 }
      (ends || full) q ∧
    t.tix.table = s.tix.table.map (fun x => if x.ring = k.ring then { x with
      assigned := k.assigned + 1, expected := expected, state := if ends = true then .closed else .collating
      setsIssued := if fresh = true then x.setsIssued + 1 else x.setsIssued
      reasons := x.reasons ||| why ||| (if full = true then Reason.oversize.bit else 0) } else x) ∧
    t.tix.waiting = s.tix.waiting ∧
    t.col.openSet = (if ends = true ∨ full = true then none
      else some { o with sheets := o.sheets + 1, lastSheet := a }) ∧
    t.col.setCounter = (if fresh = true then o.number else s.col.setCounter)

/-- R80: the reasons the checks of an OK sheet's index and last flag bring. -/
def checkReasons (k : Ticket) (f : Frame) : BitVec 12 :=
  (if f.index.toNat = k.expected then 0 else Reason.sequence.bit) |||
    (if (f.isLast = true ↔ f.index.toNat + 1 = k.count) then 0 else Reason.lastMismatch.bit)

/-! ### R195's figures -/

/-- R195: the setup words of the clamp class with a range of their own: number, least and greatest value. -/
def clampRanges : List (Nat × Nat × Nat) :=
  [(15, 0, 20000), (16, 2000, 60000), (17, 200, 4000), (18, 10000, 2000000), (19, 10000, 2000000),
    (20, 10000, 4000000), (21, 20, 2000), (22, 10, 1000), (25, 50, 1000), (26, 20, 600), (27, 0, 2000), (28, 0, 200),
    (29, 20, 1000), (30, 20, 1000), (31, 100, 5000), (32, 100, 5000), (33, 40, 300), (34, 0, 1000)]

/-- R195: the setup words of the refuse class with a range: number, least and greatest value. -/
def refuseRanges : List (Nat × Nat × Nat) :=
  [(8, 1, 255), (9, 1500, 9000), (10, 60, 8000), (11, 20, 400), (12, 0, 11), (13, 6000, 60000), (14, 40, 2000),
    (23, 9500, 20000), (24, 1000, 8000), (38, 16, 4096)]

end Sys2Proof.Machine
end

