-- ==== Sys2Proof/Certificates/Slice0/Obligations.lean ====
section
/-! DEFINITION. The statements for the provers. The commands' operands and frames are explained in
Sys2Proof/Syntax.lean and at the end of Sys2Proof/Safety.lean. -/

open Sys2Proof Sys2Proof.Machine

/-! ### The queue of commands and reset -/

/-- A step executes the command at the front of the queue on the state with the queue's rest. The queue is the model's
(notes/assumptions/6.md). -/
def Obligations.StepExecutesFrontCommand : Prop :=
  ∀ (c : Instr) (rest : List Instr) (s : State), step (s.withPending (c :: rest)) = exec c (s.withPending rest)

/-- Every condition of Safety.lean holds at the state after reset. The straps and levels there are the model's
(notes/assumptions/2.md). -/
def Obligations.ResetMeetsEveryCondition : Prop := Safe State.reset

/-- R177, R180, R186, R192 to R194, R155 and the reset values of each block: PIN_RESET. That the levels come with the
command, and that waiting commands are kept, is the model's choice (notes/assumptions/6.md and 7.md). -/
def Obligations.PinResetLeavesResetValues : Prop :=
  ∀ (st : Straps) (p : Pins) (s : State), ∃ t, exec (.pinReset st p) s = .next t ∧
    t.pins = p ∧ t.path.straps = st ∧ sameBytes s t ∧ t.pending = s.pending ∧
    t.enc.web = 0 ∧ t.enc.belt = 0 ∧ t.enc.highWater = 0 ∧ t.enc.msClock = 0 ∧ t.enc.vm = 0 ∧
    t.enc.history = [0, 0, 0, 0, 0, 0, 0, 0] ∧ t.enc.runContext = false ∧ t.enc.reverseReported = false ∧
    t.tr.command = 0 ∧ t.tr.state = .still ∧ t.tr.speed = 0 ∧ t.tr.remainder = 0 ∧ t.tr.due = 0 ∧
    t.tr.targetW = none ∧ t.tr.targetC = none ∧ t.tr.slipReported = false ∧ t.tr.stallReported = false ∧
    t.tr.beltHistory = [] ∧ t.tr.driveEnable = false ∧ t.tr.beltRun = false ∧
    t.tr.stepOut = false ∧ t.trk.snap = false ∧ t.acc.jog = false ∧ t.acc.drop = false ∧ t.rel.release = false ∧
    t.rel.divert = false ∧ t.rel.foldReq = false ∧ t.rel.style = 0 ∧ t.irqN = true ∧
    t.seq.line = .idle ∧ t.seq.haltKind = .none ∧ t.seq.stopPending = false ∧ t.seq.regLimit = none ∧
    t.seq.firstFault = .none ∧ t.seq.added = 0 ∧ t.seq.outcome = none ∧ t.seq.startupComplete = false ∧
    t.rd.state = .hunt ∧ t.rd.origin = 0 ∧ t.rd.regs.sample = 0 ∧ t.rd.regs.darks = 0 ∧ t.rd.regs.bits = [] ∧
    t.rd.regs.check = 0xFFFF ∧ t.rd.darkRun = 0 ∧ t.rd.verdict = { governing := none, conflict := false } ∧
    t.rd.searching = false ∧ t.rd.sweep.state = .off ∧
    t.trk.queue = [] ∧ t.trk.nextPerf = none ∧ t.trk.registered = false ∧ t.trk.runout = false ∧
    t.tix.table = [] ∧ t.tix.fetchIndex = 0 ∧ t.tix.retireIndex = 0 ∧ t.publish = 0 ∧ t.tix.retired = [] ∧
    t.col = { cursor := none, pendingRead := none, stall := none, openSet := none, runoutNoted := false
              setCounter := 0 } ∧
    t.pln.gateSheet = none ∧ t.pln.gateOpen = false ∧ t.pln.gateTarget = none ∧ t.pln.haltKind = .none ∧
    t.pln.haltSheet = .none ∧ t.pln.haltTarget = none ∧ t.pln.stop = none ∧ t.pln.cause = .none ∧
    t.pln.parked = false ∧ t.pln.holdReason = .none ∧
    t.acc.state = .empty ∧ t.acc.set = none ∧ t.rel.hold = .empty ∧ t.rel.set = none ∧ t.rel.folding = false ∧
    t.rel.folder = none ∧ t.rel.exitList = [] ∧
    t.rep.staging = [] ∧ t.rep.seq = 0 ∧ t.rep.writeIndex = 0 ∧ t.rep.latched = 0 ∧
    t.path.queue = [] ∧ t.path.startPos = 0 ∧
    (∀ n, n < 40 → t.setup n = setupDefault st n ∧ t.path.written.getD n true = false)

/-! ### Conditions that every step keeps -/

/-- R107, R113, R119, R155: the halt kind, DRIVE_ENABLE, BELT_RUN and the transport follow the line state. -/
def Obligations.StepKeepsLineOutputs : Prop :=
  ∀ s t : State, LineOk s → step s = .next t → LineOk t

/-- R40, R42, R94, R104: outside RUN, HALTING and HALTED the hold planner holds nothing; the sheet tracking queue
holds at most 48 records, and none in IDLE, CALIBRATE and REGISTER. -/
def Obligations.StepKeepsSheetPath : Prop :=
  ∀ s t : State, step s = .next t → (PlannerOk s → PlannerOk t) ∧ (ShadowOk s → SheetsOk s → SheetsOk t)

/-- R121, R132, R138, R149: the pockets, the folder and the exit list. -/
def Obligations.StepKeepsPockets : Prop :=
  ∀ s t : State, PocketOk s → step s = .next t → PocketOk t

/-- R180, R186, R189, R190, R195: the report write queue holds at most 16 entries, no two for one word, each of a word
below the memory top; every working value stays within the range of its setup word. -/
def Obligations.StepKeepsMemoryPath : Prop :=
  ∀ s t : State, step s = .next t →
    (QueueOk s → QueueOk t) ∧ (ShadowOk s → ShadowOk t) ∧ (ShadowOk s → EntriesIn s → EntriesIn t)

/-- The memory keeps its canonical form, which is the model's (notes/assumptions/1.md). -/
def Obligations.StepKeepsMemoryForm : Prop :=
  ∀ s t : State, Memory.wf s.mem = true → step s = .next t → Memory.wf t.mem = true

/-- R182, R193, R200, R201: start-up is complete exactly when its writer has passed position 55; the staging FIFO never
holds more than 8 records, nor more than 7 before; the event write slot is one of the ring's, and the occupancy stays
bounded. -/
def Obligations.StepKeepsReports : Prop :=
  ∀ s t : State, step s = .next t →
    (StartupOk s → StageOk s → StartupOk t ∧ StageOk t) ∧ (ShadowOk s → EventRingOk s → EventRingOk t)

/-- R65, R66, R68, R70: the ticket table holds at most 16 tickets, the consecutive ring indexes from retire to fetch
less 1, with the publish index in its bounds and no serial twice among tickets not marked invalid. -/
def Obligations.StepKeepsTicketTable : Prop :=
  ∀ s t : State, TableOk s ∧ RingOk s ∧ PublishOk s ∧ SerialsOk s → step s = .next t →
    TableOk t ∧ RingOk t ∧ PublishOk t ∧ SerialsOk t

/-- R156, R170: but for a pin reset, the line leaves FAULT only by an accepted CLEAR, with the transport STILL, and
goes to IDLE with the first fault NONE and no added fault. -/
def Obligations.FaultLeftOnlyByClear : Prop :=
  ∀ (s t : State) (c : Instr), s.seq.line = .fault → exec c s = .next t → t.seq.line ≠ .fault →
    (∃ st p, c = .pinReset st p) ∨
      (s.tr.state = .still ∧ t.seq.line = .idle ∧ t.seq.firstFault = .none ∧ t.seq.added = 0 ∧
        ∃ tag, t.seq.outcome = some { code := 7, tag := tag, refusal := none })

/-! ### Arithmetic -/

/-- R5: reached, signed difference and passed. -/
def Obligations.ReachIsSignedOrder : Prop :=
  ∀ p t : Word, (reached p t = true ↔ (p - t).toNat < 2147483648) ∧ (reached p t = true ↔ 0 ≤ signedDiff p t) ∧
    -2147483648 ≤ signedDiff p t ∧ signedDiff p t ≤ 2147483647 ∧
    ((p - t).toNat = 2147483648 → reached p t = false ∧ signedDiff p t = -2147483648) ∧
    (passed p t = true ↔ reached p t = true ∧ p ≠ t)

/-- R13, R15, Conventions: the integer square root of a figure carried in 64 bits; the stop distance, which targets
are reachable, that the hold planner takes no other as a halt target, and what the permitted speed is at one. -/
def Obligations.StopDistanceAndSquareRoot : Prop :=
  (∀ n : Nat, n < 18446744073709551616 → isqrt n * isqrt n ≤ n ∧ n < (isqrt n + 1) * (isqrt n + 1)) ∧
  (∀ v a : Nat, 0 < a →
      v * v ≤ 2 * a * stopDistance v a ∧ 2 * a * stopDistance v a < v * v + 2 * a ∧ stopDistance 0 a = 0 ∧
      (∀ (s : State) (t : Word), s.tr.speed = v → s.setupN 19 = a →
        (reachable t s = true ↔ (stopDistance v a : Int) ≤ signedDiff (t + (s.tr.command - s.enc.web)) s.tr.command) ∧
        (s.remaining t < 0 → reachable t s = false)) ∧
      (∀ (s : State) (x : Sheet),
        (chooseHalt [x] s).pln.haltTarget = if reachable (s.park x) s = true then some (s.park x) else none) ∧
      (∀ r : Nat, stopDistance v a ≤ r → 2 * a * r < 18446744073709551616 →
        v * v ≤ 2 * a * r ∧ v ≤ permittedSpeed a (r : Int)))

/-- R15 to R17: one tick of the profile. Without a target no pulse is lost or gained; with one the pulses never pass
it. The speed gains at most one tick of acceleration or the creep, and sheds at most one tick of deceleration. -/
def Obligations.ProfileTickBounds : Prop :=
  ∀ (goal acc dec v rem : Nat) (r : Option Int),
    (r = none → 1000 * (profile goal acc dec v rem r).due + (profile goal acc dec v rem r).remainder
        = rem + (profile goal acc dec v rem r).speed) ∧
    (∀ d, r = some d → ((profile goal acc dec v rem r).due : Int) ≤ max d 0) ∧
    (profile goal acc dec v rem r).remainder ≤ 999 ∧
    v - dec / 1000 ≤ (profile goal acc dec v rem r).speed ∧
    (profile goal acc dec v rem r).speed ≤ max (max (v + acc / 1000) 200) (v - dec / 1000) ∧
    (200 ≤ goal → (profile goal acc dec v rem r).speed ≤ max goal (v - dec / 1000)) ∧
    (∀ d, r = some d → 0 < d → goal ≠ 0 → 200 ≤ (profile goal acc dec v rem r).speed)

/-- R39: the chosen phase is the centre of the longest circular run of passing phases. `run m p n` says that the
phases p to p + n - 1 counted round pass, and that the ones before and after them fail. -/
def Obligations.ChosenPhaseIsRunCentre : Prop :=
  ∀ m : List Bool, m.length = 12 →
    (m.all id = true → chosenPhase m = 6) ∧
    (m.all id = false → ∀ p n : Nat, p < 12 → 0 < n → n < 12 →
      (∀ i, i < n → m.getD ((p + i) % 12) false = true) → m.getD ((p + 11) % 12) false = false →
      m.getD ((p + n) % 12) false = false →
      (∀ q k : Nat, q < 12 → 0 < k → k < 12 → (∀ i, i < k → m.getD ((q + i) % 12) false = true) →
        m.getD ((q + 11) % 12) false = false → m.getD ((q + k) % 12) false = false → k < n ∨ k = n ∧ p ≤ q) →
      chosenPhase m = (p + (n - 1) / 2) % 12)

/-- R22 to R26, R216: a reader that has just found the start of a flag and is given the marks of a printed frame
reaches CLOSE with the frame's fields correct, and the closing blank ends the frame with OK and those fields. R44, R7,
R34: the WEB_MOTION_EVENT at whose sample a frame with the job tag so ends registers the web: `K` lead-in records, each
of a purge set, and the registered one. That nothing is fired in that step is the model's reading
(notes/assumptions/15.md), and so is that the frame registers before the registration limit is tested, where the
advance reaches both (R162; notes/assumptions/14.md). R29 to R31, R48, R101: the WEB_MOTION_EVENT at whose sample an opening flag completes or a
frame ends in RUN, HALTING and HALTED: the governing flag, the governing result, the re-anchoring of the READ_OPEN record
`r`, and CONFLICT. That the halt target stays in HALTED is the model's reading (notes/assumptions/27.md). -/
def Obligations.PrintedFrameReadsBack : Prop :=
  (∀ (f : Frame) (s : State), s.rd.state = .flag → s.rd.regs = FrameRegs.cleared →
    (feedMarks (printedMarks f).dropLast s).rd.state = .close ∧
    completedResult (feedMarks (printedMarks f).dropLast s).rd.regs = .ok f ∧
    feedMarks (printedMarks f) s = frameEnds (.ok f) (feedMarks (printedMarks f).dropLast s)) ∧
  (∀ (s : State) (a b : Bool) (g : Gauge) (h A : Word) (f : Frame) (K : Nat), advancesTo s a b h →
      s.seq.line = .register → s.rd.searching = true → s.rd.state = .close → 5 ≤ s.rd.regs.darks →
      s.pins.mark = false → onGrid s h → completedResult s.rd.regs = .ok f → f.tag.setWidth 32 = s.setup 8 →
      s.trk.queue = [] → s.col.cursor = none → s.col.openSet = none → s.col.runoutNoted = false →
      s.pins.webPresent = true → A = s.rd.origin - s.setup 10 → K = s.setupN 13 / s.setupN 9 →
      ∃ t, exec (.webMotionEvent a b g) s = .next t ∧
        t.seq = { s.seq with line := .run, haltKind := .none, regLimit := none } ∧
        t.trk.registered = true ∧ t.trk.nextPerf = some (A + s.setup 9) ∧ t.trk.snap = s.trk.snap ∧
        t.enc.highWater = h ∧ t.enc.runContext = true ∧ t.enc.reverseReported = false ∧ t.rd.searching = false ∧
        t.trk.queue.map Sheet.anchor
          = (List.range (K + 1)).map (fun i => A - BitVec.ofNat 32 ((K - i) * s.setupN 9)) ∧
        (∀ x ∈ t.trk.queue.dropLast, x.origin = .leadIn ∧ x.result = .leadIn ∧ x.stage = .readDone ∧
          ∃ n p, x.assignment = some { owner := .purge, number := n, position := p }) ∧
        t.trk.queue.getLast? = some { anchor := A, origin := .read, result := .pending, frame := none
                                      assignment := none, setEnd := false, stage := .readOpen, sepPos := none
                                      leadPos := none, length := none, verdict := none }) ∧
  (∀ (s : State) (a b : Bool) (g : Gauge) (h d : Word) (r : Sheet), readingAdvance s a b h → onGrid s h →
      s.rd.state = .flag → 5 ≤ s.rd.regs.sample → s.pins.mark = false → frontOf .readOpen s.trk.queue = some r →
      d = s.rd.origin - (r.anchor + s.setup 10) →
      ∃ t, exec (.webMotionEvent a b g) s = .next t ∧ t.rd.state = .data ∧ t.trk.nextPerf = s.trk.nextPerf ∧
        t.trk.queue.map Sheet.anchor = s.trk.queue.map Sheet.anchor ∧
        (s.rd.verdict.governing = none → d.toInt.natAbs ≤ s.setupN 11 →
          t.rd.verdict = { s.rd.verdict with governing := some { edge := s.rd.origin, d := d, result := none } } ∧
          t.rd.regs.governs = true) ∧
        (s.rd.verdict.governing ≠ none ∨ s.setupN 11 < d.toInt.natAbs →
          t.rd.verdict = s.rd.verdict ∧ t.rd.regs.governs = s.rd.regs.governs)) ∧
  (∀ (s : State) (a b : Bool) (g : Gauge) (h : Word) (r : Sheet) (v : Governing) (res : FrameResult),
      readingAdvance s a b h → onGrid s h → (s.pins.mark = true → s.rd.darkRun ≠ 63) → endsFrame s res →
      frontOf .readOpen s.trk.queue = some r → onlyOne s r → s.rd.verdict.governing = some v →
      (∀ p, s.trk.nextPerf = some p → reached h (p + v.d) = false) →
      ∃ t, exec (.webMotionEvent a b g) s = .next t ∧ t.rd.state = .hunt ∧ t.rd.regs = FrameRegs.cleared ∧
        t.rd.origin = s.rd.origin ∧ t.rd.darkRun = (if s.pins.mark = true then min 65535 (s.rd.darkRun + 1) else 0) ∧
        (s.rd.regs.governs = true → (∀ f, res ≠ .ok f) →
          t.rd.verdict = { s.rd.verdict with governing := some { v with result := some res } } ∧
          t.trk.nextPerf = s.trk.nextPerf ∧ t.trk.queue.map Sheet.anchor = s.trk.queue.map Sheet.anchor) ∧
        (∀ f, s.rd.regs.governs = true → res = .ok f →
          t.rd.verdict = { s.rd.verdict with governing := some { v with result := some (.ok f) } } ∧
          t.trk.nextPerf = s.trk.nextPerf.map (fun p => p + v.d) ∧
          t.trk.queue.map Sheet.anchor
            = s.trk.queue.map (fun x => if x.anchor = r.anchor then r.anchor + v.d else x.anchor) ∧
          ((∀ x ∈ s.trk.queue, x.anchor = r.anchor + v.d → x = r) →
            ∀ x ∈ t.trk.queue, x.anchor = r.anchor + v.d → x = { r with anchor := r.anchor + v.d }) ∧
          (s.pln.haltSheet = .sheet r.anchor → t.pln.haltSheet = .sheet (r.anchor + v.d) ∧
            (s.seq.line = .halting → t.pln.haltTarget = s.pln.haltTarget.map (fun w => w + v.d)) ∧
            (s.seq.line = .halted → t.pln.haltTarget = s.pln.haltTarget)) ∧
          (s.pln.haltSheet ≠ .sheet r.anchor →
            t.pln.haltSheet = s.pln.haltSheet ∧ t.pln.haltTarget = s.pln.haltTarget) ∧
          (isGateSheet s r → r.assignment = none →
            t.pln.gateSheet = some (r.anchor + v.d) ∧ t.pln.gateOpen = false ∧
            t.pln.gateTarget = some (r.anchor + v.d + s.setup 13 - s.setup 14) ∧
            t.pln.stop = some (stopWith t (r.anchor + v.d + s.setup 13 - s.setup 14)).1)) ∧
        (s.rd.regs.governs = false →
          t.rd.verdict = { s.rd.verdict with conflict := s.rd.verdict.conflict || res.isOk } ∧
          t.trk.nextPerf = s.trk.nextPerf ∧ t.trk.queue.map Sheet.anchor = s.trk.queue.map Sheet.anchor)) ∧
  (∀ (s : State) (a b : Bool) (g : Gauge) (h : Word) (res : FrameResult), readingAdvance s a b h → onGrid s h →
      (s.pins.mark = true → s.rd.darkRun ≠ 63) → endsFrame s res → s.rd.verdict.governing = none →
      ∃ t, exec (.webMotionEvent a b g) s = .next t ∧ t.rd.state = .hunt ∧ t.rd.regs = FrameRegs.cleared ∧
        t.rd.verdict = s.rd.verdict ∧ t.trk.nextPerf = s.trk.nextPerf ∧
        t.trk.queue.map Sheet.anchor = s.trk.queue.map Sheet.anchor)

/-! ### Encoders and the mark head -/

/-- R1, R2, R6: WEB_MOTION_EVENT. That the row carries a level, and what an unchanged one leaves, is the model's
choice (notes/assumptions/7.md). Then what its steps do, clause by clause: R9 and R118, a reverse step, which fires
nothing (R6; that REVERSE is first of the two is the model's order, notes/assumptions/14.md); R162, the registration
limit; R32, R45 to R47, a perforation; R52, the front FIRED record; R95 to R98, the gate sheet held and released; R50, R51
and R61, the front READ_DONE record going; R53, a held sheet overrun. -/
def Obligations.WebMotionCountsTravel : Prop :=
  (∀ (s : State) (a b : Bool) (g : Gauge), ∃ t, exec (.webMotionEvent a b g) s = .next t ∧
    t.pins = { s.pins with webA := a, webB := b, gauge := g } ∧
    (forwardPair s.pins.webA s.pins.webB a b = true → t.enc.web = s.enc.web + 1) ∧
    (reversePair s.pins.webA s.pins.webB a b = true → t.enc.web = s.enc.web - 1) ∧
    (forwardPair s.pins.webA s.pins.webB a b = true ∨ reversePair s.pins.webA s.pins.webB a b = true →
      t.enc.highWater = if 0 < signedDiff t.enc.web s.enc.highWater then t.enc.web else s.enc.highWater) ∧
    (illegalPair s.pins.webA s.pins.webB a b = true →
      t.enc = s.enc ∧ (s.seq.startupComplete = true → s.seq.line ≠ .fault →
        t.seq.line = .fault ∧ t.seq.firstFault = .encoder ∧ t.tr.state = .still)) ∧
    (a = s.pins.webA → b = s.pins.webB → t = { s with pins := { s.pins with gauge := g } }) ∧
    t.enc.belt = s.enc.belt ∧ t.tr.command = s.tr.command ∧ sameClock s t ∧ Outside s t) ∧
  (∀ (s : State) (a b : Bool) (g : Gauge) (w : Word), reversePair s.pins.webA s.pins.webB a b = true →
      w = s.enc.web - 1 → signedDiff w s.enc.highWater ≤ 0 → s.enc.runContext = true →
      s.seq.startupComplete = true → s.seq.line ≠ .fault →
      ∃ t, exec (.webMotionEvent a b g) s = .next t ∧ t.trk.queue = s.trk.queue ∧
        ((s.setupN 22 : Int) < signedDiff s.enc.highWater w → s.enc.reverseReported = false →
          t.seq.line = .fault ∧ t.seq.firstFault = .reverse ∧ t.enc.reverseReported = true ∧
          (s.tr.driveEnable = true → s.tr.slipReported = false → s.setupN 21 < (s.tr.command - w).toInt.natAbs →
            t.seq.added = min 255 (s.seq.added + 1))) ∧
        (signedDiff s.enc.highWater w ≤ s.setupN 22 → t.enc.reverseReported = false ∧
          (s.tr.driveEnable = true → s.tr.slipReported = false → s.setupN 21 < (s.tr.command - w).toInt.natAbs →
            t.seq.line = .fault ∧ t.seq.firstFault = .slip))) ∧
  (∀ (s : State) (a b : Bool) (g : Gauge) (h l : Word), advancesTo s a b h → s.seq.line = .register →
      ¬ onGrid s h → s.seq.regLimit = some l → s.seq.startupComplete = true →
      ∃ t, exec (.webMotionEvent a b g) s = .next t ∧
        (s.seq.stopPending = false → reached h l = true →
          t.seq.line = .fault ∧ t.seq.firstFault = .noRegistration ∧ t.seq.regLimit = none) ∧
        (s.seq.stopPending = true ∨ reached h l = false → t.seq = s.seq ∧ t.trk = s.trk)) ∧
  (∀ (s : State) (a b : Bool) (g : Gauge) (h : Word) (r : Sheet) (res : ReadResult) (f : Option Frame),
      advancesTo s a b h → s.seq.line.running = true → s.trk.registered = true → s.trk.runout = false →
      s.trk.nextPerf = some h → ¬ onGrid s h → noOverrun s h → frontOf .readOpen s.trk.queue = some r →
      s.trk.queue.getLast? = some r → onlyOne s r → (∀ x ∈ s.trk.queue, x.anchor ≠ h) →
      settles s.rd.verdict res f → (∀ x, f = some x → x.tag = 0 ∨ x.tag.setWidth 32 = s.setup 8) →
      ∃ t, exec (.webMotionEvent a b g) s = .next t ∧
        (∀ x ∈ t.trk.queue, x.anchor = r.anchor → x.result = res ∧ x.frame = f ∧ x.stage ≠ .readOpen) ∧
        t.rd.verdict = { governing := none, conflict := false } ∧
        (s.trk.queue.length < 48 →
          t.trk.nextPerf = some (h + s.setup 9) ∧
          t.trk.queue.dropLast.map Sheet.anchor = s.trk.queue.map Sheet.anchor ∧
          t.trk.queue.getLast? = some { anchor := h, origin := .read, result := .pending, frame := none
                                        assignment := none, setEnd := false, stage := .readOpen, sepPos := none
                                        leadPos := none, length := none, verdict := none }) ∧
        (48 ≤ s.trk.queue.length → s.seq.startupComplete = true →
          t.seq.line = .fault ∧ t.seq.firstFault = .trackOverflow ∧ t.trk.nextPerf = none ∧
          t.trk.queue.map Sheet.anchor = s.trk.queue.map Sheet.anchor)) ∧
  (∀ (s : State) (a b : Bool) (g : Gauge) (h : Word) (r : Sheet), plainAdvance s a b h → noOverrun s h →
      frontOf .fired s.trk.queue = some r → onlyOne s r →
      ∃ t, exec (.webMotionEvent a b g) s = .next t ∧
        (reached h (r.anchor + s.setup 13) = true →
          ∀ x ∈ t.trk.queue, x.anchor = r.anchor → x.stage = .separated ∧ x.sepPos = some s.enc.belt) ∧
        (reached h (r.anchor + s.setup 13) = false → ∀ x ∈ t.trk.queue, x.anchor = r.anchor → x = r)) ∧
  (∀ (s : State) (a b : Bool) (g : Gauge) (h : Word) (r : Sheet), plainAdvance s a b h → noOverrun s h →
      (∀ x ∈ s.trk.queue, x.stage ≠ .fired) → frontOf .readDone s.trk.queue = some r → onlyOne s r →
      isGateSheet s r →
      ∃ t, exec (.webMotionEvent a b g) s = .next t ∧
        (¬ gateParts s r →
          t.trk = s.trk ∧ t.seq = s.seq ∧ t.pln.gateSheet = some r.anchor ∧ t.pln.gateOpen = false ∧
          t.pln.gateTarget = some (r.anchor + s.setup 13 - s.setup 14) ∧
          t.pln.stop = some (stopWith s (r.anchor + s.setup 13 - s.setup 14)).1 ∧
          t.pln.cause = (stopWith s (r.anchor + s.setup 13 - s.setup 14)).2 ∧
          t.pln.parked = (s.pln.parked && decide (t.pln.stop = s.pln.stop))) ∧
        (gateParts s r → r.origin ≠ .tail → reached h (firingPoint s r) = false →
          t.trk = s.trk ∧ t.seq = s.seq ∧ t.pln.gateSheet = some r.anchor ∧ t.pln.gateOpen = true ∧
          t.pln.gateTarget = none ∧ t.pln.stop = s.pln.haltTarget ∧
          t.pln.parked = (s.pln.parked && decide (t.pln.stop = s.pln.stop)))) ∧
  (∀ (s : State) (a b : Bool) (g : Gauge) (h : Word) (r : Sheet) (k : Assignment), plainAdvance s a b h →
      noOverrun s h → (∀ x ∈ s.trk.queue, x.stage ≠ .fired) → frontOf .readDone s.trk.queue = some r → onlyOne s r →
      r.assignment = some k → (k.position ≠ 1 ∨ isGateSheet s r ∧ gateParts s r) →
      s.pln.haltTarget ≠ some (r.anchor + s.setup 13 - s.setup 14) →
      ∃ t, exec (.webMotionEvent a b g) s = .next t ∧
        (r.origin ≠ .tail → reached h (firingPoint s r) = true →
          t.trk.snap = true ∧ t.trk.snapTimer = { running := true, left := 4 } ∧
          (reached h (r.anchor + s.setup 13) = false →
            ∀ x ∈ t.trk.queue, x.anchor = r.anchor → x = { r with stage := .fired }) ∧
          (reached h (r.anchor + s.setup 13) = true →
            ∀ x ∈ t.trk.queue, x.anchor = r.anchor → x = { r with stage := .separated, sepPos := some s.enc.belt })) ∧
        (r.origin = .tail → reached h (r.anchor + s.setup 13) = true →
          (∀ x ∈ t.trk.queue, x.anchor = r.anchor → x = { r with stage := .separated, sepPos := some s.enc.belt }) ∧
          ((∀ x ∈ s.trk.queue, x.stage = .readDone → x = r) → t.trk.snap = s.trk.snap)) ∧
        (reached h (r.anchor + s.setup 13) = false → r.origin = .tail ∨ reached h (firingPoint s r) = false →
          t.trk = s.trk)) ∧
  (∀ (s : State) (a b : Bool) (g : Gauge) (h : Word) (r : Sheet), plainAdvance s a b h →
      frontOf .readDone s.trk.queue = some r → onlyOne s r → r.assignment = none →
      r.anchor + s.setup 13 + s.setup 14 = h → s.seq.startupComplete = true →
      ∃ t, exec (.webMotionEvent a b g) s = .next t ∧ t.seq.line = .fault ∧ t.seq.firstFault = .holdOverrun ∧
        r ∈ t.trk.queue ∧ t.trk.snap = false)

/-- R2, R3: BELT_STEP. That the row carries a level, and what an unchanged one leaves, is the model's choice
(notes/assumptions/7.md). R58: the ends of the windows; that the leading one comes first is the model's order
(notes/assumptions/14.md). R59, R123 to R129: the landing of the one CLEAR record: `u` is the set record it meets or
begins, `why` the reasons it folds in. -/
def Obligations.BeltStepCountsTravel : Prop :=
  (∀ (s : State) (a b : Bool) (g : Gauge), ∃ t, exec (.beltStep a b g) s = .next t ∧
    t.pins = { s.pins with beltA := a, beltB := b, gauge := g } ∧
    (forwardPair s.pins.beltA s.pins.beltB a b = true → t.enc = { s.enc with belt := s.enc.belt + 1 }) ∧
    (reversePair s.pins.beltA s.pins.beltB a b = true → t.enc = { s.enc with belt := s.enc.belt - 1 }) ∧
    (illegalPair s.pins.beltA s.pins.beltB a b = true →
      t.enc = s.enc ∧ (s.seq.startupComplete = true → s.seq.line ≠ .fault →
        t.seq.line = .fault ∧ t.seq.firstFault = .encoder ∧ t.tr.state = .still)) ∧
    (a = s.pins.beltA → b = s.pins.beltB → t = { s with pins := { s.pins with gauge := g } }) ∧
    t.tr.command = s.tr.command ∧ (t.rd = s.rd ∨ t.seq.line = .fault) ∧ Outside s t) ∧
  (∀ (s : State) (a b : Bool) (g : Gauge) (p q : Word) (r : Sheet),
      (forwardPair s.pins.beltA s.pins.beltB a b = true ∧ p = s.enc.belt + 1 ∨
        reversePair s.pins.beltA s.pins.beltB a b = true ∧ p = s.enc.belt - 1) →
      s.seq.line.running = true → s.seq.startupComplete = true → r.sepPos = some q →
      (frontOf .separated s.trk.queue = some r ∧ passed p (q + s.setup 23 - s.setup 9 + s.setup 25) = true ∨
        frontOf .separated s.trk.queue = none ∧ frontOf .leadSeen s.trk.queue = some r ∧
          passed p (q + s.setup 23 + s.setup 25) = true) →
      ∃ t, exec (.beltStep a b g) s = .next t ∧ t.seq.line = .fault ∧ t.seq.firstFault = .missingSheet ∧
        t.trk.queue = s.trk.queue ∧ t.acc.set = s.acc.set) ∧
  (∀ (s : State) (a b : Bool) (g : Gauge) (p q l : Word) (r : Sheet) (k : Assignment) (u : SetRecord)
      (why : BitVec 12) (jog : Nat),
      (forwardPair s.pins.beltA s.pins.beltB a b = true ∧ p = s.enc.belt + 1 ∨
        reversePair s.pins.beltA s.pins.beltB a b = true ∧ p = s.enc.belt - 1) →
      s.seq.line.running = true → frontOf .clear s.trk.queue = some r → onlyOne s r →
      (∀ x ∈ s.trk.queue, x.stage ≠ .separated ∧ x.stage ≠ .leadSeen ∧ (x.stage = .clear → x = r)) →
      r.leadPos = some q → r.length = some l → r.assignment = some k →
      (s.acc.set = none ∧
          (k.owner = .purge ∧ u = { number := k.number, owner := .purge, sheets := [], reasons := 0, style := .flat } ∨
            ∃ ring x, k.owner = .ticket ring ∧ findTicket ring s.tix.table = some x ∧
              u = { number := k.number, owner := k.owner, sheets := [], reasons := x.reasons, style := x.style }) ∨
        s.acc.set = some u ∧ s.acc.state = .collecting) →
      why = (if r.result = .noFrame ∨ r.result = .badCheck ∨ r.result = .smudge ∨ r.result = .format ∨
              r.result = .conflict then Reason.unread.bit else 0) |||
          (if k.owner = .purge ∧ r.result ≠ .leadIn ∧ ¬ (r.result = .ok ∧ r.frame.map Frame.tag = some 0) then
            Reason.orphan.bit else 0) |||
          (if (r.verdict = some .short ∨ r.verdict = some .long) ∧ (s.setup 39).getLsbD 2 = true then
            Reason.length.bit else 0) →
      jog = s.setupN 27 + (u.sheets.length + 1) * s.setupN 28 →
      ∃ t, exec (.beltStep a b g) s = .next t ∧
        (reached p (q + l + s.setup 24) = false → t.trk.queue.map Sheet.anchor = s.trk.queue.map Sheet.anchor ∧
          t.acc = s.acc) ∧
        (reached p (q + l + s.setup 24) = true →
          t.trk.queue.map Sheet.anchor = (s.trk.queue.map Sheet.anchor).filter (fun x => x ≠ r.anchor) ∧
          (r.setEnd = false → t.acc = { s.acc with
            state := .collecting
            set := some { u with sheets := u.sheets ++ [r.anchor], reasons := u.reasons ||| why } }) ∧
          (r.setEnd = true → 0 < jog → t.acc = { s.acc with
            state := .jogging, jog := true, jogTimer := { running := true, left := jog }
            set := some { u with sheets := u.sheets ++ [r.anchor], reasons := u.reasons ||| why } })))

/-- R8, R20, R21, R36: MARK_EDGE. A usable edge is one from blank to dark on the high-water position. That the row
carries a level, and what an unchanged one leaves, is the model's choice (notes/assumptions/7.md). R21 to R25, R27,
R28: the sample of a WEB_MOTION_EVENT in REGISTER, RUN, HALTING and HALTED that ends no frame, in HUNT, FLAG, DATA, CLOSE
and BLOCKED, and of one in FAULT, where only the dark-run watch acts (R19). R36 to R38, R163: the sweep on one in
CALIBRATE. -/
def Obligations.MarkEdgeStartsFlagOrSweep : Prop :=
  (∀ (s : State) (dark usable : Bool),
    usable = (dark && !s.pins.mark && decide (s.enc.web = s.enc.highWater)) →
    ∃ t, exec (.markEdge dark) s = .next t ∧
    (usable = true → framingActs s.seq.line = true → s.rd.state = .hunt → s.setup 12 ≠ 0 →
      t = { s with
        pins := { s.pins with mark := dark }
        rd := { s.rd with state := .flag, origin := s.enc.web, darkRun := 0, regs := FrameRegs.cleared } }) ∧
    (usable = true → framingActs s.seq.line = true → s.rd.state = .hunt → s.setup 12 = 0 →
      t = { s with
        pins := { s.pins with mark := dark }
        rd := { s.rd with
          state := .flag, origin := s.enc.web, darkRun := 1
          regs := { FrameRegs.cleared with sample := 1, darks := 1 } } }) ∧
    (usable = true → s.seq.line = .calibrate → s.rd.sweep.state = .seeking →
      t = { s with
        pins := { s.pins with mark := dark }
        rd := { s.rd with sweep := { s.rd.sweep with
          state := .sweeping, edge := s.enc.web, passMap := List.replicate 12 true } } }) ∧
    (usable = false ∨ framingActs s.seq.line = true ∧ s.rd.state ≠ .hunt
        ∨ s.seq.line = .calibrate ∧ s.rd.sweep.state ≠ .seeking ∨ s.seq.line = .idle ∨ s.seq.line = .fault →
      t = { s with pins := { s.pins with mark := dark } })) ∧
  (∀ (s : State) (a b : Bool) (g : Gauge) (h : Word) (n : Nat),
      advancesTo s a b h ∧ s.seq.line = .register ∧ (∀ l, s.seq.regLimit = some l → reached h l = false) ∨
        readingAdvance s a b h →
      n = (if s.pins.mark = true then s.rd.darkRun + 1 else 0) →
      ∃ t, exec (.webMotionEvent a b g) s = .next t ∧
        (¬ onGrid s h → t.rd = s.rd) ∧
        (onGrid s h → n < 64 → s.rd.state = .hunt → t.rd = { s.rd with darkRun := n }) ∧
        (onGrid s h → n < 64 → s.rd.state = .flag →
          (s.rd.regs.sample < 5 → s.pins.mark = true → t.rd = { s.rd with
            darkRun := n, regs := { s.rd.regs with sample := s.rd.regs.sample + 1, darks := s.rd.regs.darks + 1 } }) ∧
          (5 ≤ s.rd.regs.sample → s.pins.mark = false → t.rd = { s.rd with
            darkRun := n, state := .data, verdict := t.rd.verdict
            regs := { s.rd.regs with
              sample := s.rd.regs.sample + 1, darks := 0, bits := [], governs := t.rd.regs.governs } } ∧
            (s.seq.line = .register → t.rd.verdict = s.rd.verdict ∧ t.rd.regs.governs = s.rd.regs.governs)) ∧
          (s.rd.regs.sample < 5 ∧ s.pins.mark = false ∨ 5 ≤ s.rd.regs.sample ∧ s.pins.mark = true →
            t.rd = { s.rd with darkRun := n, state := .hunt, regs := FrameRegs.cleared })) ∧
        (onGrid s h → n < 64 → s.rd.state = .data →
          (s.rd.regs.darks < 4 → ∀ v : FrameRegs, v = { s.rd.regs with
              sample := s.rd.regs.sample + 1, darks := (if s.pins.mark = true then s.rd.regs.darks + 1 else 0)
              bits := s.rd.regs.bits ++ [s.pins.mark]
              check := (if s.rd.regs.bits.length < 37 then checkStep s.rd.regs.check s.pins.mark else s.rd.regs.check) } →
            (s.rd.regs.bits.length ≠ 52 ∨ 4 ≤ v.darks → t.rd = { s.rd with darkRun := n, regs := v }) ∧
            (s.rd.regs.bits.length = 52 → v.darks < 4 →
              t.rd = { s.rd with darkRun := n, state := .close, regs := { v with darks := 0 } })) ∧
          (s.rd.regs.darks = 4 → s.pins.mark = true → t.rd = { s.rd with
            darkRun := n, regs := { s.rd.regs with sample := s.rd.regs.sample + 1, darks := 5 } }) ∧
          (s.rd.regs.darks = 4 → s.pins.mark = false → t.rd = { s.rd with
            darkRun := n, state := (if s.rd.regs.bits.length = 53 then .close else .data)
            regs := { s.rd.regs with sample := s.rd.regs.sample + 1, darks := 0 } })) ∧
        (onGrid s h → n < 64 → s.rd.state = .close → s.rd.regs.darks < 5 → s.pins.mark = true → t.rd = { s.rd with
          darkRun := n
          regs := { s.rd.regs with sample := s.rd.regs.sample + 1, darks := s.rd.regs.darks + 1 } }) ∧
        (onGrid s h → n = 64 → s.seq.startupComplete = true →
          t.seq.line = .fault ∧ t.seq.firstFault = .readerBlocked ∧ t.rd.state = .blocked ∧ t.rd.darkRun = 64) ∧
        (onGrid s h → s.pins.mark = false → s.rd.state = .blocked →
          t.rd = { s.rd with darkRun := 0, state := .hunt })) ∧
  (∀ (s : State) (a b : Bool) (g : Gauge) (h : Word), advancesTo s a b h → s.seq.line = .fault →
      ∃ t, exec (.webMotionEvent a b g) s = .next t ∧ t.seq.line = .fault ∧ t.seq.firstFault = s.seq.firstFault ∧
        (¬ onGrid s h → t.rd = s.rd) ∧
        (onGrid s h → s.pins.mark = false →
          t.rd = { s.rd with darkRun := 0, state := (if s.rd.state = .blocked then .hunt else s.rd.state) }) ∧
        (onGrid s h → s.pins.mark = true → s.rd.darkRun ≠ 63 →
          t.rd = { s.rd with darkRun := min 65535 (s.rd.darkRun + 1) } ∧ t.seq = s.seq) ∧
        (onGrid s h → s.pins.mark = true → s.rd.darkRun = 63 → s.seq.startupComplete = true →
          t.rd = { s.rd with darkRun := 64, state := .blocked, regs := FrameRegs.cleared } ∧
          t.seq = { s.seq with added := min 255 (s.seq.added + 1) })) ∧
  (∀ (s : State) (a b : Bool) (g : Gauge) (h : Word) (d : Int) (done : Prop), advancesTo s a b h →
      s.seq.line = .calibrate → ShadowOk s → d = signedDiff h s.rd.sweep.edge →
      (done ↔ s.rd.sweep.state = .seeking ∧ reached h s.rd.sweep.seekLimit = true ∨
        s.rd.sweep.state = .sweeping ∧ 780 ≤ d) →
      ∃ t, exec (.webMotionEvent a b g) s = .next t ∧
        (done → t.seq.line = .idle ∧ t.latches .calibrated ∧ t.rd.sweep.state = .off ∧ t.tr.driveEnable = false ∧
          t.setup 12 = (if s.rd.sweep.passMap.any id = true then BitVec.ofNat 32 (chosenPhase s.rd.sweep.passMap)
            else s.setup 12) ∧
          (∀ n, n ≠ 12 → t.setup n = s.setup n) ∧ t.path.written = s.path.written ∧
          (t.path.phaseReport = true ↔ s.rd.sweep.passMap.any id = true ∨ s.path.phaseReport = true)) ∧
        (¬ done → t.seq = s.seq ∧ t.path = s.path ∧
          (s.rd.sweep.state = .sweeping → 1 ≤ d → d ≤ 767 → (s.pins.mark = true ↔ d / 12 % 2 = 1) →
            t.rd = { s.rd with sweep := { s.rd.sweep with passMap := s.rd.sweep.passMap.set (d % 12).toNat false } }) ∧
          (s.rd.sweep.state ≠ .sweeping ∨ d < 1 ∨ 767 < d ∨ (s.pins.mark = true ↔ d / 12 % 2 = 0) → t.rd = s.rd)))

/-! ### The belt sensor -/

/-- R54, R55, R57, R58: LEADING_EDGE. The window of a SEPARATED record is centred on its separation belt position plus
setup word 23 less setup word 9, and reaches setup word 25 either way. That the row carries a level, and what an
unchanged one leaves, is the model's choice (notes/assumptions/7.md). -/
def Obligations.LeadingEdgeIsAttributed : Prop :=
  ∀ s : State, ∃ t, exec .leadingEdge s = .next t ∧ t.pins = { s.pins with beltEdge := true } ∧
    sameCounters s t ∧ sameClock s t ∧ Outside s t ∧ t.col = s.col ∧
    (s.pins.beltEdge = true ∨ s.seq.line.running = false → t = { s with pins := { s.pins with beltEdge := true } }) ∧
    (s.pins.beltEdge = false → s.seq.line.running = true →
      (∀ r p, frontOf .separated s.trk.queue = some r → r.sepPos = some p →
        reached s.enc.belt (p + s.setup 23 - s.setup 9 - s.setup 25) = true →
        passed s.enc.belt (p + s.setup 23 - s.setup 9 + s.setup 25) = false →
        t = { s with
          pins := { s.pins with beltEdge := true }
          trk := { s.trk with queue := s.trk.queue.map fun x =>
            if x.anchor = r.anchor then { x with stage := .leadSeen, leadPos := some s.enc.belt } else x } }) ∧
      (∀ r p, frontOf .separated s.trk.queue = some r → r.sepPos = some p →
        reached s.enc.belt (p + s.setup 23 - s.setup 9 - s.setup 25) = false → s.seq.startupComplete = true →
        t.seq.line = .fault ∧ t.seq.firstFault = .strayEdge ∧ t.trk.queue = s.trk.queue) ∧
      (∀ r p, frontOf .separated s.trk.queue = some r → r.sepPos = some p →
        reached s.enc.belt (p + s.setup 23 - s.setup 9 - s.setup 25) = true →
        passed s.enc.belt (p + s.setup 23 - s.setup 9 + s.setup 25) = true → s.seq.startupComplete = true →
        t.seq.line = .fault ∧ t.seq.firstFault = .missingSheet ∧ t.trk.queue = s.trk.queue) ∧
      (frontOf .separated s.trk.queue = none → s.seq.startupComplete = true →
        t.seq.line = .fault ∧ t.seq.firstFault = .strayEdge ∧ t.trk.queue = s.trk.queue))

/-- R54, R56, R57, R58: TRAILING_EDGE. The measured length and its verdict against the form length, setup word 9, and
the length tolerance, setup word 26. That the row carries a level, and what an unchanged one leaves, is the model's
choice (notes/assumptions/7.md). -/
def Obligations.TrailingEdgeMeasuresLength : Prop :=
  ∀ s : State, ∃ t, exec .trailingEdge s = .next t ∧ t.pins = { s.pins with beltEdge := false } ∧
    sameCounters s t ∧ sameClock s t ∧ Outside s t ∧ t.col = s.col ∧
    (s.pins.beltEdge = false ∨ s.seq.line.running = false → t = { s with pins := { s.pins with beltEdge := false } }) ∧
    (s.pins.beltEdge = true → s.seq.line.running = true →
      (∀ r p q v, frontOf .leadSeen s.trk.queue = some r → r.sepPos = some p → r.leadPos = some q →
        reached s.enc.belt (p + s.setup 23 - s.setup 25) = true →
        passed s.enc.belt (p + s.setup 23 + s.setup 25) = false →
        (v = .ok ∧ (signedDiff s.enc.belt q - s.setupN 9).natAbs ≤ s.setupN 26
          ∨ v = .short ∧ signedDiff s.enc.belt q + s.setupN 26 < s.setupN 9
          ∨ v = .long ∧ (s.setupN 9 : Int) + s.setupN 26 < signedDiff s.enc.belt q) →
        t.seq = s.seq ∧ t.acc = s.acc ∧ t.rel = s.rel ∧ t.pln = s.pln ∧ t.tr = s.tr ∧
        t.trk = { s.trk with queue := s.trk.queue.map fun x =>
          if x.anchor = r.anchor then
            { x with stage := .clear, length := some (s.enc.belt - q), verdict := some v } else x }) ∧
      (∀ r p, frontOf .leadSeen s.trk.queue = some r → r.sepPos = some p →
        reached s.enc.belt (p + s.setup 23 - s.setup 25) = false → s.seq.startupComplete = true →
        t.seq.line = .fault ∧ t.seq.firstFault = .strayEdge ∧ t.trk.queue = s.trk.queue) ∧
      (∀ r p, frontOf .leadSeen s.trk.queue = some r → r.sepPos = some p →
        reached s.enc.belt (p + s.setup 23 - s.setup 25) = true →
        passed s.enc.belt (p + s.setup 23 + s.setup 25) = true → s.seq.startupComplete = true →
        t.seq.line = .fault ∧ t.seq.firstFault = .missingSheet ∧ t.trk.queue = s.trk.queue) ∧
      (frontOf .leadSeen s.trk.queue = none → s.seq.startupComplete = true →
        t.seq.line = .fault ∧ t.seq.firstFault = .strayEdge ∧ t.trk.queue = s.trk.queue))

/-! ### The tick and the step pulse -/

/-- R10, R11, R206: TICK, taken when the last tick's pulses have all been emitted (R110). That TICK marks the snapshot
due is the model's reading (notes/assumptions/10.md). R105, R106: the hold reason it leaves, for the named sheet `r`;
that it is evaluated once, at the step's end, and that the parked flag stands for the target met, is the model's
(notes/assumptions/12.md and 26.md). -/
def Obligations.TickAdvancesClockAndSpeed : Prop :=
  ∀ s : State, s.tr.due ≤ s.tr.emitted → ∃ t, exec .tick s = .next t ∧
    t.enc = { s.enc with
      msClock := s.enc.msClock + 1
      history := s.enc.history.drop 1 ++ [s.enc.web]
      vm := if signedDiff s.enc.web (s.enc.history.headD 0) < 0 then 0
        else if 1000000 ≤ signedDiff s.enc.web (s.enc.history.headD 0) then 125000000
        else (signedDiff s.enc.web (s.enc.history.headD 0)).toNat * 125
      runContext := t.enc.runContext } ∧
    (t.enc.runContext = s.enc.runContext ∨ t.seq.line = .idle) ∧
    t.rep.snapCount = (if s.rep.snapCount = 9 then 0 else s.rep.snapCount + 1) ∧
    (s.rep.snapCount = 9 → t.rep.snapDue = true) ∧
    (∀ r, (t.pln.cause = .gate ∧ (∃ a, t.pln.gateSheet = some a ∧ findSheet a t.trk.queue = some r) ∨
          (t.pln.cause = .pause ∨ t.pln.cause = .paperLow ∨ t.pln.cause = .stop) ∧
            (∃ a, t.pln.haltSheet = .sheet a ∧ findSheet a t.trk.queue = some r)) →
      (t.pln.parked = true ∨ t.pln.limited = true →
        t.pln.holdReason =
          if r.assignment = none then .ticket
          else if (t.pln.haltKind = .pause ∨ t.pln.haltKind = .paperLow) ∧ t.pln.haltSheet = .sheet r.anchor then .pause
          else if t.rel.hold = .holding ∧ (t.rel.set.map SetRecord.verdict) = some .divert ∧ t.pins.rejectFull = true then
            .rejectFull
          else if t.rel.hold = .holding ∧ (t.rel.set.map SetRecord.verdict) = some .good ∧
            (t.pins.foldReady = false ∨ t.rel.folding = true ∨ 2 ≤ t.rel.exitList.length) then .folder
          else if t.acc.state ≠ .empty ∨
            t.trk.queue.any (fun x => decide (x.stage ≠ .readOpen ∧ x.stage ≠ .readDone)) = true then .pocket
          else .none) ∧
      (t.pln.parked = true → t.pln.holdReason = .ticket ∨ t.pln.holdReason = .rejectFull →
        t.pln.holdReason ≠ s.pln.holdReason → t.latches .waiting)) ∧
    (t.pln.parked = false ∧ t.pln.limited = false ∨ t.pln.cause = .none ∨ t.pln.cause = .runout →
      t.pln.holdReason = .none) ∧
    t.tr.command = s.tr.command ∧ t.pins = s.pins ∧ Outside s t

/-- R108, R109, R15 to R17, R116: a TICK in CALIBRATE, or in REGISTER before STOP is taken, with no stop target and no
belt stall due: the crawl; and a TICK of a ramp stop. The level of STEP and the count of emitted pulses are the model's
(notes/assumptions/9.md). Then: R14, R111, R104, a TICK in RUN, HALTING or HALTED with the planner as R95 to R98 leave
it, at which the front READ_DONE record, if there is one, waits at the nip, with the speed the tick measures (R50);
R164, R113, the stop that is pending in REGISTER; R120, the belt check. -/
def Obligations.TickCrawlsOrRampsDown : Prop :=
  (∀ (s : State) (v : Nat), s.tr.due ≤ s.tr.emitted → s.pln.stop = none →
      s.seq.line = .calibrate ∨ s.seq.line = .register ∧ s.seq.stopPending = false →
      s.tr.state ≠ .rampStop → s.tr.beltRun = false ∨ s.tr.beltTicks + 1 < 500 →
      v = max (min (s.tr.speed + s.setupN 18 / 1000) (max (s.setupN 17) (s.tr.speed - s.setupN 19 / 1000)))
        (s.tr.speed - s.setupN 19 / 1000) → 0 < v →
      ∃ t, exec .tick s = .next t ∧ t.tr.state = .moving ∧ t.tr.speed = v ∧
        t.tr.due = (s.tr.remainder + v) / 1000 ∧ t.tr.remainder = (s.tr.remainder + v) % 1000 ∧
        t.tr.emitted = 0 ∧ t.tr.targetC = none ∧ t.tr.driveEnable = s.tr.driveEnable ∧ t.seq = s.seq ∧
        t.rd = s.rd ∧ t.col = s.col ∧ t.trk.queue = s.trk.queue) ∧
  (∀ (s : State) (v : Nat), s.tr.due ≤ s.tr.emitted → s.seq.line = .fault → s.tr.state = .rampStop →
      s.tr.beltRun = false → v = s.tr.speed - s.setupN 20 / 1000 →
      ∃ t, exec .tick s = .next t ∧ t.seq = s.seq ∧
        (v ≠ 0 → t.tr = { s.tr with
          speed := v, due := (s.tr.remainder + v) / 1000, remainder := (s.tr.remainder + v) % 1000, emitted := 0
          stepOut := false }) ∧
        (v = 0 → t.tr = { s.tr with
          state := .still, speed := 0, due := 0, remainder := 0, emitted := 0, driveEnable := false
          stepOut := false })) ∧
  (∀ (s : State) (r : Option Int) (p : Profile) (goal : Nat), s.tr.due ≤ s.tr.emitted →
      s.seq.line.running = true → s.tr.state ≠ .rampStop →
      (∀ x, frontOf .readDone s.trk.queue = some x → waitsAtNip { s with enc := s.enc.tick } x) →
      planNow s = s.pln → s.tr.beltRun = false ∨ s.tr.beltTicks + 1 < 500 →
      goal = (if s.seq.line = .halted then 0 else s.setupN 16) →
      r = s.pln.stop.map (fun w => signedDiff w s.enc.web) →
      p = profile goal (s.setupN 18) (s.setupN 19) s.tr.speed s.tr.remainder r →
      ∃ t, exec .tick s = .next t ∧
        (r = none ∨ (∃ d, r = some d ∧ 0 < d) →
          t.tr.speed = p.speed ∧ t.tr.remainder = (if p.speed = 0 then 0 else p.remainder) ∧ t.tr.due = p.due ∧
          t.tr.state = (if p.speed = 0 then .still else .moving) ∧ t.tr.emitted = 0 ∧ t.tr.targetW = s.pln.stop ∧
          t.tr.targetC = s.pln.stop.map (fun w => w + (s.tr.command - s.enc.web)) ∧ t.seq = s.seq ∧
          t.pln.stop = s.pln.stop ∧ t.pln.limited = (p.permitted.map fun v => decide (v < goal)).getD false ∧
          t.trk.queue = s.trk.queue) ∧
        (∀ d, r = some d → d ≤ 0 → s.tr.metTold = false →
          t.tr.state = .still ∧ t.tr.speed = 0 ∧ t.tr.remainder = 0 ∧ t.tr.due = 0 ∧
          (s.pln.cause.halts = true → s.seq.line = .halting →
            t.seq = { s.seq with line := .halted } ∧ t.latches .halted) ∧
          (s.pln.cause.halts = false ∨ s.seq.line ≠ .halting →
            t.seq = s.seq ∧ t.pln.parked = true ∧ t.trk.queue = s.trk.queue)) ∧
        (∀ d, r = some d → d ≤ 0 → s.tr.metTold = true → s.tr.speed = 0 →
          t.tr.state = .still ∧ t.tr.speed = 0 ∧ t.tr.remainder = 0 ∧ t.tr.due = 0 ∧ t.seq = s.seq ∧
          t.pln.parked = s.pln.parked ∧ t.trk.queue = s.trk.queue)) ∧
  (∀ (s : State) (v : Nat), s.tr.due ≤ s.tr.emitted → s.pln.stop = none → s.seq.line = .register →
      s.seq.stopPending = true → s.tr.state ≠ .rampStop → s.tr.beltRun = false ∨ s.tr.beltTicks + 1 < 500 →
      v = s.tr.speed - s.setupN 19 / 1000 →
      ∃ t, exec .tick s = .next t ∧
        (v ≠ 0 → t.seq = s.seq ∧ t.tr.state = .moving ∧ t.tr.speed = v ∧
          t.tr.due = (s.tr.remainder + v) / 1000 ∧ t.tr.remainder = (s.tr.remainder + v) % 1000) ∧
        (v = 0 → t.seq = { s.seq with line := .idle, haltKind := .none, stopPending := false, regLimit := none } ∧
          t.tr.state = .still ∧ t.tr.speed = 0 ∧ t.tr.remainder = 0 ∧ t.tr.driveEnable = false ∧
          t.tr.beltRun = false ∧ t.enc.runContext = false ∧ t.rd.searching = false)) ∧
  (∀ s : State, s.tr.due ≤ s.tr.emitted → s.seq.startupComplete = true →
      s.seq.line = .register ∧ s.seq.stopPending = false ∨ s.seq.line.running = true → s.tr.beltRun = true →
      s.tr.beltHistory.length = 100 →
      ∃ t, exec .tick s = .next t ∧
        (500 ≤ s.tr.beltTicks + 1 → s.tr.stallReported = false →
          (s.enc.belt - s.tr.beltHistory.headD 0).toInt < 20 →
          t.seq.line = .fault ∧ t.seq.firstFault = .beltStall ∧ t.tr.stallReported = true ∧ t.tr.beltRun = false) ∧
        (s.tr.beltTicks + 1 < 500 ∨ s.tr.stallReported = true ∨
            20 ≤ (s.enc.belt - s.tr.beltHistory.headD 0).toInt →
          t.seq.line ≠ .fault ∧ t.tr.stallReported = s.tr.stallReported ∧ t.tr.beltTicks = s.tr.beltTicks + 1 ∧
          t.tr.beltHistory = s.tr.beltHistory.drop 1 ++ [s.enc.belt]))

/-- R4, R110, R118: STEP_PULSE, with a pulse due and with none. The level of STEP is the model's
(notes/assumptions/9.md). -/
def Obligations.StepPulseCountsCommand : Prop :=
  ∀ s : State, ∃ t, exec .stepPulse s = .next t ∧
    (s.tr.emitted < s.tr.due → s.tr.driveEnable = true →
      t.tr.command = s.tr.command + 1 ∧ t.tr.stepOut = true ∧
      (s.setupN 21 < (s.tr.command + 1 - s.enc.web).toInt.natAbs → s.tr.slipReported = false →
        s.seq.startupComplete = true →
        t.seq.line = .fault ∧ t.tr.state = .still ∧ t.tr.driveEnable = false ∧
        (s.seq.line ≠ .fault → t.seq.firstFault = .slip) ∧
        (s.seq.line = .fault → t.seq.firstFault = s.seq.firstFault ∧ t.seq.added = min 255 (s.seq.added + 1)))) ∧
    (¬ (s.tr.emitted < s.tr.due ∧ s.tr.driveEnable = true) →
      t.tr.command = s.tr.command ∧ t.tr.stepOut = false) ∧
    t.enc = s.enc ∧ t.pins = s.pins ∧ Outside s t

/-- R111, R18, R99, R104: STEP_PULSE of the pulse that brings the command counter to the tick's target: of a halt, of
the gate, and of one that the planner has removed or moved in the meantime (R112), which parks nothing. -/
def Obligations.StepPulseMeetsHaltTarget : Prop :=
  ∀ (s : State) (c : Word), s.tr.emitted < s.tr.due → s.tr.driveEnable = true →
    s.tr.targetC = some c → reached (s.tr.command + 1) c = true →
    (s.tr.command + 1 - s.enc.web).toInt.natAbs ≤ s.setupN 21 →
    ∃ t, exec .stepPulse s = .next t ∧ t.tr.command = s.tr.command + 1 ∧
      (s.tr.targetW = s.pln.stop → s.seq.line = .halting → s.pln.cause.halts = true →
        t.seq.line = .halted ∧ t.seq.haltKind = s.seq.haltKind ∧ t.latches .halted ∧ t.tr.state = .still ∧
        t.tr.speed = 0 ∧ t.tr.remainder = 0) ∧
      (s.tr.targetW = s.pln.stop → s.pln.cause = .gate → planNow s = s.pln →
        t.seq = s.seq ∧ t.pln.parked = true ∧ t.tr.state = .still ∧ t.tr.speed = 0 ∧ t.tr.remainder = 0 ∧
        t.tr.due = s.tr.emitted + 1) ∧
      (s.tr.targetW ≠ s.pln.stop → planNow s = s.pln →
        t.seq = s.seq ∧ t.pln.parked = s.pln.parked ∧ t.tr.state = .still ∧ t.tr.speed = 0 ∧ t.tr.remainder = 0 ∧
        t.tr.due = s.tr.emitted + 1)

/-! ### The timers -/

/-- R51: SNAP_END, at the expiry of the SNAP timer and otherwise. That the expiry is due at 0 ms remaining is the
model's reading (notes/assumptions/8.md). -/
def Obligations.SnapEndLowersSnap : Prop :=
  ∀ s : State,
    (s.trk.snapTimer = { running := true, left := 0 } →
      exec .snapEnd s = .next { s with
        trk := { s.trk with snap := false, snapTimer := { running := false, left := 0 } } }) ∧
    (s.trk.snapTimer ≠ { running := true, left := 0 } → exec .snapEnd s = .next s)

/-- R130 to R133: JOG_END at the expiry of the jog timer: JOG falls, the stack-height check is made and the set is
placed. `fails` says that the check is made and fails. That the expiry is due at 0 ms remaining, and that the row
carries the gauge, is the model's reading (notes/assumptions/8.md and 7.md). -/
def Obligations.JogEndPlacesSet : Prop :=
  ∀ (s : State) (g : Gauge) (r : SetRecord) (fails : Bool), s.seq.line.running = true →
    s.acc.jogTimer = { running := true, left := 0 } → s.acc.set = some r →
    (fails = true ↔ (s.setup 39).getLsbD 1 = true ∧ r.owner ≠ .purge ∧ ¬ (g.valid = true ∧
      ((g.reading.toNat * 5 : Int) - r.sheets.length * s.setupN 33).natAbs ≤ s.setupN 33 / 2 + s.setupN 34)) →
    ∃ t, exec (.jogEnd g) s = .next t ∧
      t.acc.jog = false ∧ t.acc.jogTimer = { running := false, left := 0 } ∧
      t.acc.set = some (if fails = true then { r with reasons := r.reasons ||| Reason.height.bit } else r) ∧
      (s.rel.hold = .empty → t.acc.state = .dropping ∧ t.acc.drop = true ∧
        t.acc.dropTimer = { running := true, left := s.setupN 29 }) ∧
      (s.rel.hold ≠ .empty → t.acc.state = .waitDrop ∧ t.acc.drop = s.acc.drop ∧ t.acc.dropTimer = s.acc.dropTimer) ∧
      t.pins = { s.pins with gauge := g } ∧ t.rel = s.rel ∧ t.trk = s.trk ∧ t.col = s.col ∧ t.enc = s.enc ∧
      t.rd = s.rd ∧ t.tr = s.tr ∧ t.seq = s.seq ∧ Outside s t

/-- R133, R140, R141: DROP_END at the expiry of the drop timer: the set goes to the hold pocket, and is released at
once when its release conditions hold. That the expiry is due at 0 ms remaining is the model's reading
(notes/assumptions/8.md). -/
def Obligations.DropEndHandsSetToHold : Prop :=
  ∀ (s : State) (r : SetRecord) (ready : Bool), s.seq.line.running = true →
    s.acc.dropTimer = { running := true, left := 0 } → s.acc.set = some r →
    ready = (if r.owner ≠ .purge ∧ r.reasons = 0 then
        s.pins.foldReady && !s.rel.folding && decide (s.rel.exitList.length < 2) else !s.pins.rejectFull) →
    ∃ t, exec .dropEnd s = .next t ∧
      t.acc = { s.acc with state := .empty, set := none, drop := false, dropTimer := { running := false, left := 0 } } ∧
      t.rel.set = some r ∧ t.rel.hold = (if ready = true then .releasing else .holding) ∧
      (ready = true → t.rel.release = true ∧ t.rel.releaseTimer = { running := true, left := s.setupN 30 } ∧
        t.rel.divert = !decide (r.owner ≠ .purge ∧ r.reasons = 0)) ∧
      (ready = false → t.rel = { s.rel with hold := .holding, set := some r }) ∧
      t.enc = s.enc ∧ t.pins = s.pins ∧ t.tr.command = s.tr.command ∧ Outside s t

/-- R144, R89, R90, R132: RELEASE_END at the expiry of the release timer. That the expiry is due at 0 ms remaining is the
model's reading (notes/assumptions/8.md). -/
def Obligations.ReleaseEndEmptiesHold : Prop :=
  ∀ (s : State) (r : SetRecord), s.seq.line.running = true →
    s.rel.releaseTimer = { running := true, left := 0 } → s.rel.set = some r →
    ∃ t, exec .releaseEnd s = .next t ∧
      (s.rel.verdict = .good → t.rel = { s.rel with
        hold := .empty, set := none, release := false, releaseTimer := { running := false, left := 0 }
        folding := true
        folder := some { number := r.number, owner := r.owner, sheets := r.sheets.length, reasons := r.reasons }
        foldTimer := { running := true, left := s.setupN 31 } } ∧ t.tix.table = s.tix.table ∧
        t.tix.waiting = s.tix.waiting) ∧
      (s.rel.verdict = .divert → t.rel = { s.rel with
        hold := .empty, set := none, release := false, releaseTimer := { running := false, left := 0 } } ∧
        (changesNoTicket s r.owner → t.tix.table = s.tix.table ∧ t.tix.waiting = s.tix.waiting) ∧
        (∀ ring k, r.owner = .ticket ring → findTicket ring s.tix.table = some k →
          k.state = .collating ∨ k.state = .closed → reachesOutcome s t k r.reasons true)) ∧
      (s.acc.state = .waitDrop → t.acc.state = .dropping ∧ t.acc.drop = true ∧
        t.acc.dropTimer = { running := true, left := s.setupN 29 }) ∧
      (s.acc.state ≠ .waitDrop → t.acc.state = s.acc.state ∧ t.acc.drop = s.acc.drop) ∧
      t.trk = s.trk ∧ t.enc = s.enc ∧ t.tr = s.tr ∧ t.seq = s.seq ∧ t.pins = s.pins ∧ Outside s t

/-! ### The folder, the exit sensor and the hold pocket's inputs -/

/-- R146, R149: FOLD_DONE. That the row carries a level, and what an unchanged one leaves, is the model's choice
(notes/assumptions/7.md). -/
def Obligations.FoldDoneSendsPieceToExit : Prop :=
  ∀ (s : State) (level : Bool), ∃ t, exec (.foldDone level) s = .next t ∧
    t.pins = { s.pins with foldDone := level } ∧
    (∀ p, level = true → s.pins.foldDone = false → s.seq.line.running = true → s.rel.folding = true →
      s.rel.folder = some p →
      t.rel.exitList = s.rel.exitList ++ [{ piece := p, timer := { running := true, left := s.setupN 32 } }] ∧
      t.rel.folding = false ∧ t.rel.folder = none ∧ t.rel.foldTimer = { running := false, left := 0 } ∧
      (s.rel.hold ≠ .holding → t.rel.foldReq = false ∧ t.rel.style = s.rel.style ∧ t.rel.hold = s.rel.hold)) ∧
    (level = false ∨ s.pins.foldDone = true ∨ s.seq.line.running = false ∨ s.rel.folding = false →
      t = { s with pins := { s.pins with foldDone := level } }) ∧
    t.acc = s.acc ∧ t.trk = s.trk ∧ t.enc = s.enc ∧ t.tr = s.tr ∧ t.seq = s.seq ∧ Outside s t

/-- R147, R148, R151, R173: FOLD_FAULT, FOLD_TIMEOUT and EXIT_MISSING. The levels and the expiries are as the model
has them (notes/assumptions/7.md and 8.md). -/
def Obligations.FolderFaultsStopLine : Prop :=
  (∀ (s : State) (level : Bool), ∃ t, exec (.foldFault level) s = .next t ∧
      t.pins = { s.pins with foldFault := level } ∧
      (level = true → s.pins.foldFault = false → s.seq.line.running = true → s.seq.startupComplete = true →
        t.seq.line = .fault ∧ t.seq.firstFault = .foldFault ∧ t.rel.folding = s.rel.folding ∧
        t.rel.folder = s.rel.folder ∧ t.rel.hold = s.rel.hold ∧ t.rel.set = s.rel.set ∧
        t.rel.exitList.map ExitEntry.piece = s.rel.exitList.map ExitEntry.piece) ∧
      (level = false ∨ s.pins.foldFault = true ∨ s.seq.line.running = false →
        t = { s with pins := { s.pins with foldFault := level } }) ∧
      t.enc = s.enc ∧ t.tr.command = s.tr.command ∧ Outside s t) ∧
  (∀ s : State,
      (s.seq.line.running = true → s.rel.folding = true → s.rel.foldTimer = { running := true, left := 0 } →
        s.seq.startupComplete = true → ∃ t, exec .foldTimeout s = .next t ∧ t.seq.line = .fault ∧
          t.seq.firstFault = .foldTimeout ∧ t.rel = { s.rel.fault with } ∧ t.rel.folding = true ∧
          t.rel.folder = s.rel.folder ∧ t.rel.foldReq = false ∧ Outside s t) ∧
      (s.rel.foldTimer ≠ { running := true, left := 0 } ∨ s.rel.folding = false ∨ s.seq.line.running = false →
        exec .foldTimeout s = .next s) ∧
      (s.seq.line.running = true → (∃ e ∈ s.rel.exitList, e.timer = { running := true, left := 0 }) →
        s.seq.startupComplete = true → ∃ t, exec .exitMissing s = .next t ∧ t.seq.line = .fault ∧
          t.seq.firstFault = .exitMissing ∧ t.rel.exitList.map ExitEntry.piece = s.rel.exitList.map ExitEntry.piece ∧
          Outside s t) ∧
      ((∀ e ∈ s.rel.exitList, e.timer ≠ { running := true, left := 0 }) ∨ s.seq.line.running = false →
        exec .exitMissing s = .next s))

/-- R150, R89, R90: EXIT_EDGE. That the row carries a level, and what an unchanged one leaves, is the model's choice
(notes/assumptions/7.md). -/
def Obligations.ExitEdgeConfirmsOldestPiece : Prop :=
  ∀ (s : State) (level : Bool), ∃ t, exec (.exitEdge level) s = .next t ∧
    t.pins = { s.pins with exitEdge := level } ∧
    (∀ e es, level = true → s.pins.exitEdge = false → s.seq.line.running = true → s.rel.exitList = e :: es →
      t.rel.exitList = es ∧ t.seq = s.seq ∧ t.trk = s.trk ∧ t.tr = s.tr ∧
      (changesNoTicket s e.piece.owner → t.tix.table = s.tix.table ∧ t.tix.waiting = s.tix.waiting) ∧
      (∀ ring k, e.piece.owner = .ticket ring → findTicket ring s.tix.table = some k →
        k.state = .collating ∨ k.state = .closed → reachesOutcome s t k e.piece.reasons false)) ∧
    (level = true → s.pins.exitEdge = false → s.seq.line.running = true → s.rel.exitList = [] →
      s.seq.startupComplete = true → t.seq.line = .fault ∧ t.seq.firstFault = .strayExit) ∧
    (level = false ∨ s.pins.exitEdge = true ∨ s.seq.line.running = false →
      t = { s with pins := { s.pins with exitEdge := level } }) ∧
    t.enc = s.enc ∧ t.tr.command = s.tr.command ∧ Outside s t

/-- R141 to R143, R145: REJECT_FULL_CHANGE and FOLD_READY_CHANGE, with `p` the inputs as the command leaves them. Either
has the release conditions of the set in HOLDING tested: it is released when those of its verdict hold, and otherwise
the release unit stays. That the row carries a level, and what an unchanged one leaves, is the model's choice
(notes/assumptions/7.md). -/
def Obligations.TrayAndFolderInputsRelease : Prop :=
  ∀ (s : State) (level : Bool) (i : Instr) (p : Pins),
    (i = .rejectFullChange level ∧ p = { s.pins with rejectFull := level } ∨
      i = .foldReadyChange level ∧ p = { s.pins with foldReady := level }) →
    ∃ t, exec i s = .next t ∧ t.pins = p ∧
      (∀ r, s.rel.hold = .holding → s.seq.line.running = true → s.rel.set = some r →
        r.owner = .purge ∨ r.reasons ≠ 0 → p.rejectFull = false →
        t.rel = { s.rel with
          hold := .releasing, verdict := .divert, divert := true, release := true
          releaseTimer := { running := true, left := s.setupN 30 } }) ∧
      (∀ r, s.rel.hold = .holding → s.seq.line.running = true → s.rel.set = some r →
        r.owner ≠ .purge → r.reasons = 0 → p.foldReady = true → s.rel.folding = false → s.rel.exitList.length < 2 →
        t.rel = { s.rel with
          hold := .releasing, verdict := .good, divert := false, release := true, foldReq := true
          style := r.style.code, releaseTimer := { running := true, left := s.setupN 30 } }) ∧
      (s.rel.hold ≠ .holding ∨ s.seq.line.running = false ∨ s.rel.set = none → t.rel = s.rel) ∧
      (∀ r, s.rel.set = some r → (r.owner = .purge ∨ r.reasons ≠ 0) ∧ p.rejectFull = true ∨
          r.owner ≠ .purge ∧ r.reasons = 0 ∧
            (p.foldReady = false ∨ s.rel.folding = true ∨ 2 ≤ s.rel.exitList.length) → t.rel = s.rel) ∧
      t.acc = s.acc ∧ t.trk = s.trk ∧ t.enc = s.enc ∧ t.tr = s.tr ∧ t.seq = s.seq ∧ Outside s t

/-! ### The line's inputs and its faults -/

/-- R60, R32, R103, R167: WEB_PRESENT_FALL. A registered web in RUN takes runout: no perforation is expected any more,
the READ_OPEN record becomes the tail with its result settled, and the line leaves RUN with the halt kind RUNOUT and the
tail's burst point plus 200 as its halt target, or in FAULT if the tail names a foreign job. A fall outside RUN, with no
registered web or after runout takes none, and leaves the line as it is. That a runout with no READ_OPEN record halts
with no halt target is the model's choice (notes/assumptions/13.md); so is that the row carries a level, and what an
unchanged one leaves (notes/assumptions/7.md). -/
def Obligations.WebPresentFallTakesRunout : Prop :=
  ∀ (s : State) (level : Bool) (g : Gauge), ∃ t, exec (.webPresentFall level g) s = .next t ∧
    t.pins = { s.pins with webPresent := level, gauge := g } ∧
    (s.pins.webPresent = true → level = false → s.seq.line = .run → s.trk.registered = true →
      s.trk.runout = false →
      t.trk.runout = true ∧ t.trk.nextPerf = none ∧
      t.trk.queue.map Sheet.anchor = s.trk.queue.map Sheet.anchor ∧
      (∀ r res f, frontOf .readOpen s.trk.queue = some r → onlyOne s r → settles s.rd.verdict res f →
        ∀ x ∈ t.trk.queue, x.anchor = r.anchor → x.origin = .tail ∧ x.result = res ∧ x.frame = f ∧
          (x.stage = .readDone ∨ x.stage = .separated) ∧
          (reached s.enc.highWater (r.anchor + s.setup 13) = false → x.stage = .readDone)) ∧
      ((t.seq.line = .halting ∨ t.seq.line = .halted) ∧ t.seq.haltKind = .runout ∧ t.pln.haltKind = .runout ∧
          t.pln.haltSheet = .none ∧
          t.pln.haltTarget = (frontOf .readOpen s.trk.queue).map (fun r => r.anchor + s.setup 13 + 200)
        ∨ t.seq.line = .fault ∧ t.seq.firstFault = .foreignSheet)) ∧
    (s.pins.webPresent = true → level = false →
      s.seq.line ≠ .run ∨ s.trk.registered = false ∨ s.trk.runout = true →
      s.seq.line.running = false ∨ planNow s = s.pln →
      (∀ r, frontOf .readDone s.trk.queue = some r → onlyOne s r) →
      t.trk = s.trk ∧ t.seq = s.seq ∧ t.tr = s.tr ∧ t.rd = s.rd ∧ t.col = s.col ∧ t.acc = s.acc ∧ t.rel = s.rel ∧
      t.tix.table = s.tix.table ∧ t.pln = { s.pln with holdReason := t.pln.holdReason }) ∧
    (level = true ∨ s.pins.webPresent = false →
      t = { s with pins := { s.pins with webPresent := level, gauge := g } }) ∧
    t.enc = s.enc ∧ t.tr.command = s.tr.command ∧ Outside s t

/-- R166, R100: PAPER_LOW. That the row carries a level, and what an unchanged one leaves, is the model's choice
(notes/assumptions/7.md). -/
def Obligations.PaperLowRiseHaltsRun : Prop :=
  ∀ (s : State) (level : Bool), ∃ t, exec (.paperLow level) s = .next t ∧
    t.pins = { s.pins with paperLow := level } ∧
    (level = true → s.pins.paperLow = false → s.seq.line = .run → (s.setup 39).getLsbD 0 = true →
      (t.seq.line = .halting ∨ t.seq.line = .halted) ∧ t.seq.haltKind = .paperLow ∧
      (s.pln.haltKind ≠ .runout → t.pln.haltKind = .paperLow)) ∧
    (level = false ∨ s.pins.paperLow = true ∨ s.seq.line ≠ .run ∨ (s.setup 39).getLsbD 0 = false →
      t = { s with pins := { s.pins with paperLow := level } }) ∧
    t.enc = s.enc ∧ t.tr.command = s.tr.command ∧ Outside s t

/-- R172 to R174, R114, R115: ESTOP and WEB_BREAK. That the row carries a level, and what an unchanged one leaves, is
the model's choice (notes/assumptions/7.md). -/
def Obligations.StopInputsTakeFault : Prop :=
  ∀ (s : State) (level : Bool),
    (∃ t, exec (.estop level) s = .next t ∧ t.pins = { s.pins with estopN := level } ∧
      (s.pins.estopN = true → level = false → s.seq.startupComplete = true →
        t.seq.line = .fault ∧ (s.tr.state ≠ .still → t.tr.speed = 0 ∧ t.tr.remainder = 0 ∧ t.tr.due = 0) ∧
        t.tr.state = .still ∧ t.tr.driveEnable = false ∧
        (s.seq.line ≠ .fault → t.seq.firstFault = .estop ∧ t.seq.added = s.seq.added ∧ t.latches .fault) ∧
        (s.seq.line = .fault → t.seq.firstFault = s.seq.firstFault ∧ t.seq.added = min 255 (s.seq.added + 1))) ∧
      (s.pins.estopN = false ∨ level = true ∨ s.seq.startupComplete = false →
        t = { s with pins := { s.pins with estopN := level } }) ∧
      t.enc = s.enc ∧ t.tr.command = s.tr.command ∧ Outside s t) ∧
    (∃ t, exec (.webBreak level) s = .next t ∧ t.pins = { s.pins with webBreakN := level } ∧
      (s.pins.webBreakN = true → level = false → s.seq.startupComplete = true → s.seq.line ≠ .idle →
        t.seq.line = .fault ∧ t.tr.state = .still ∧ t.tr.driveEnable = false ∧
        (s.seq.line ≠ .fault → t.seq.firstFault = .webBreak ∧ t.seq.added = s.seq.added ∧ t.latches .fault) ∧
        (s.seq.line = .fault → t.seq.firstFault = s.seq.firstFault ∧ t.seq.added = min 255 (s.seq.added + 1))) ∧
      (s.pins.webBreakN = false ∨ level = true ∨ s.seq.line = .idle ∨ s.seq.startupComplete = false →
        t = { s with pins := { s.pins with webBreakN := level } }) ∧
      t.enc = s.enc ∧ t.tr.command = s.tr.command ∧ Outside s t)

/-- R173, R62, R104, R114, R119, R136, R153, R35: what taking the first fault leaves, for each fault and detail. -/
def Obligations.FirstFaultHoldsLine : Prop :=
  ∀ (s t : State) (f : LineFault) (flag : Bool) (detail : Word), s.seq.startupComplete = true →
    s.seq.line ≠ .fault → t = takeFault f flag detail s →
    t.seq = { s.seq with
      line := .fault, haltKind := .none, stopPending := false, regLimit := none, firstFault := f } ∧
    t.latches .fault ∧ t.tr.beltRun = false ∧ t.tr.targetC = none ∧ t.tr.targetW = none ∧
    t.tr.command = s.tr.command ∧
    (f.immediate = true → t.tr.state = .still ∧ t.tr.driveEnable = false) ∧
    (f.immediate = false → s.tr.state = .moving →
      t.tr.state = .rampStop ∧ t.tr.speed = s.tr.speed ∧ t.tr.driveEnable = s.tr.driveEnable ∧
      t.tr.due = s.tr.due ∧ t.tr.emitted = s.tr.emitted) ∧
    (f.immediate = false → s.tr.state = .still → t.tr.state = .still ∧ t.tr.driveEnable = false) ∧
    t.trk = { s.trk with snap := false, snapTimer := { s.trk.snapTimer with running := false } } ∧ t.col = s.col ∧
    t.pln = Planner.reset ∧
    t.acc = { s.acc with
      jog := false, drop := false, jogTimer := { s.acc.jogTimer with running := false }
      dropTimer := { s.acc.dropTimer with running := false } } ∧
    t.rel = { s.rel with
      release := false, foldReq := false, style := 0, releaseTimer := { s.rel.releaseTimer with running := false }
      foldTimer := { s.rel.foldTimer with running := false }
      exitList := s.rel.exitList.map fun e => { e with timer := { e.timer with running := false } } } ∧
    t.rd.searching = false ∧ t.rd.sweep.state = .off ∧ t.rd.regs = FrameRegs.cleared ∧
    t.rd.state = (if s.rd.state = .blocked then .blocked else .hunt) ∧ t.rd.darkRun = s.rd.darkRun ∧
    t.rd.origin = s.rd.origin ∧ t.rd.verdict = s.rd.verdict ∧
    t.enc = s.enc ∧ t.pins = s.pins ∧ t.tix = s.tix ∧ Outside s t

/-! ### Controller accesses

The grants that R191 puts before the controller's own may drain entries of the queue and make a fetch read. They leave
the latest value of every word as it was. -/

/-- R176, R179, R188: CONTROLLER_READ. That the grants before it are made in its step, and that the lanes not enabled
read 0, is the model's reading (notes/assumptions/11.md and 20.md). -/
def Obligations.ControllerReadSeesLatestWrite : Prop :=
  ∀ (s : State) (addr : Word) (lanes : Lanes), QueueOk s → EntriesIn s → Memory.wf s.mem = true →
    ∃ t, exec (.controllerRead addr lanes) s = .next t ∧
      (addr.toNat < s.top →
        t.port = .data lanes (latestValue (addr &&& 0xFFFFFFFC) s &&& laneMask lanes)) ∧
      (s.top ≤ addr.toNat → t.port = .data allLanes 0xFFFFFFFF ∧ t.latches .range) ∧
      (∀ a, wordIn a s → latestValue a t = latestValue a s) ∧
      t.path.shadow = s.path.shadow ∧ t.path.written = s.path.written ∧ sameLine s t ∧ t.pending = s.pending

/-- R176, R178, R179, R184, R187: CONTROLLER_WRITE to a status, event ring or plain word, and out of range. That the
grants before it are made in its step is the model's reading (notes/assumptions/11.md). -/
def Obligations.ControllerWriteIsLatest : Prop :=
  ∀ (s : State) (addr : Word) (lanes : Lanes) (data : Word), QueueOk s → EntriesIn s → Memory.wf s.mem = true →
    ∃ t, exec (.controllerWrite addr lanes data) s = .next t ∧
      (classify addr s = .status ∨ classify addr s = .event ∨ classify addr s = .plain →
        t.port = .done ∧
        latestValue (addr &&& 0xFFFFFFFC) t
          = (latestValue (addr &&& 0xFFFFFFFC) s &&& ~~~ laneMask lanes) ||| (data &&& laneMask lanes) ∧
        (∀ a, wordIn a s → a ≠ addr &&& 0xFFFFFFFC → latestValue a t = latestValue a s) ∧
        queued (addr &&& 0xFFFFFFFC) t.path.queue = none ∧
        t.path.shadow = s.path.shadow ∧ t.path.written = s.path.written ∧ t.tix.table = s.tix.table ∧ sameLine s t) ∧
      (classify addr s = .outOfRange →
        t.port = .done ∧ t.latches .range ∧ (∀ a, wordIn a s → latestValue a t = latestValue a s) ∧
        t.path.shadow = s.path.shadow ∧ t.tix.table = s.tix.table ∧ sameLine s t) ∧
      t.pending = s.pending

/-- R72, R73, R185: TICKET_WRITE to word `w` of a slot of the ticket ring. That the grants before it are made in its
step is the model's reading (notes/assumptions/11.md). -/
def Obligations.TicketWriteAmendsTicket : Prop :=
  ∀ (s : State) (addr : Word) (lanes : Lanes) (data : Word) (slot w : Nat), QueueOk s → EntriesIn s →
    Memory.wf s.mem = true → RingOk s → TableOk s → classify addr s = .ticket slot w → lanes ≠ 0 →
    ∃ t, exec (.ticketWrite addr lanes data) s = .next t ∧ t.port = .done ∧
      latestValue (addr &&& 0xFFFFFFFC) t
        = (latestValue (addr &&& 0xFFFFFFFC) s &&& ~~~ laneMask lanes) ||| (data &&& laneMask lanes) ∧
      (∀ a, wordIn a s → a ≠ addr &&& 0xFFFFFFFC → latestValue a t = latestValue a s) ∧
      (∀ k, k ∈ s.tix.table → w < 2 → k.ring.toNat % s.setupN 36 = slot →
        (∀ k', k' ∈ s.tix.table → k'.ring.toNat % s.setupN 36 = slot → k' = k) →
        k.state = .waiting ∨ k.state = .collating ∨ k.state = .closed →
        t.tix.table = s.tix.table.map fun x =>
          if x.ring = k.ring ∧ k.amended = false then
            { x with amended := true, reasons := x.reasons ||| Reason.amended.bit } else x) ∧
      (2 ≤ w ∨ (∀ k ∈ s.tix.table, k.ring.toNat % s.setupN 36 = slot → k.state = .disposing ∨ k.state = .disposed) →
        t.tix.table = s.tix.table ∧ t.acc = s.acc ∧ t.rel = s.rel) ∧
      t.tix.fetchIndex = s.tix.fetchIndex ∧ t.tix.retireIndex = s.tix.retireIndex ∧
      t.path.shadow = s.path.shadow ∧ t.trk = s.trk ∧ t.col = s.col ∧ t.enc = s.enc ∧ t.tr = s.tr ∧ t.seq = s.seq ∧
      t.pending = s.pending

/-- R180, R181, R187, R195: SETUP_WRITE to words 5, 6 and 8 to 39. `m` is the merged value, and `v` the value R195 takes
it as, none where it refuses it. Words 8 to 39 are locked outside IDLE, and 35 and 36 also while tickets are
outstanding. That the grants before it are made in its step is the model's reading (notes/assumptions/11.md). -/
def Obligations.SetupWriteJudged : Prop :=
  ∀ (s : State) (n : BitVec 6) (lanes : Lanes) (data m : Word) (v : Option Word),
    n = 5 ∨ n = 6 ∨ 8 ≤ n.toNat ∧ n.toNat < 40 → QueueOk s → EntriesIn s → Memory.wf s.mem = true → ShadowOk s →
    m = ((s.setup n.toNat &&& ~~~ laneMask lanes) ||| (data &&& laneMask lanes)) &&&
      (if n = 5 then 0x37 else if n = 39 then 7 else 0xFFFFFFFF) →
    (∀ lo hi, (n.toNat, lo, hi) ∈ clampRanges → v = some (BitVec.ofNat 32 (max lo (min hi m.toNat)))) →
    (∀ lo hi, (n.toNat, lo, hi) ∈ refuseRanges → v = if lo ≤ m.toNat ∧ m.toNat ≤ hi then some m else none) →
    (n = 5 ∨ n = 39 → v = some m) →
    (n = 6 → v = some (BitVec.ofNat 32 (max 1 (min (s.setupN 38) m.toNat)))) →
    (n = 35 → v = if m.toNat % 32 = 0 ∧ m.toNat < s.top then some m else none) →
    (n = 36 → v = if m.toNat ∈ [16, 32, 64, 128, 256, 512, 1024] then some m else none) →
    (n = 37 → v = if m.toNat % 8 = 0 ∧ m.toNat < s.top then some m else none) →
    ∃ t, exec (.setupWrite n lanes data) s = .next t ∧
      (8 ≤ n.toNat ∧ s.seq.line ≠ .idle ∨ (n = 35 ∨ n = 36) ∧ (s.publish ≠ s.tix.retireIndex ∨ s.tix.fetch ≠ .idle)
          ∨ v = none →
        t.port = .busError ∧ t.path.shadow = s.path.shadow ∧ t.path.written = s.path.written ∧
        (∀ a, wordIn a s → latestValue a t = latestValue a s)) ∧
      (∀ w, v = some w → (8 ≤ n.toNat → s.seq.line = .idle) →
        ((n = 35 ∨ n = 36) → s.publish = s.tix.retireIndex ∧ s.tix.fetch = .idle) →
        t.port = .done ∧ t.path.shadow = s.path.shadow.set n.toNat w ∧
        t.path.written = s.path.written.set n.toNat true ∧ latestValue (setupAddr n.toNat s) t = w ∧
        (∀ a, wordIn a s → a ≠ setupAddr n.toNat s → latestValue a t = latestValue a s)) ∧
      sameLine s t ∧ t.pending = s.pending

/-- R91, R180, R195: TICKETS_LOW_MARK: the working value is the merged value, clamped to 16. That the grants before it
are made in its step is the model's reading (notes/assumptions/11.md). -/
def Obligations.TicketsLowMarkIsClamped : Prop :=
  ∀ (s : State) (lanes : Lanes) (data m : Word), ShadowOk s →
    m = (s.setup 7 &&& ~~~ laneMask lanes) ||| (data &&& laneMask lanes) →
    ∃ t, exec (.ticketsLowMark lanes data) s = .next t ∧ t.port = .done ∧
      t.setupN 7 = min 16 m.toNat ∧ (∀ n, n ≠ 7 → t.setup n = s.setup n) ∧
      (s.tix.low = false → (s.tix.table.filter fun x => x.state = .waiting).length < min 16 m.toNat →
        s.tix.fetchIndex = s.publish → t.latches .ticketsLow) ∧
      sameLine s t ∧ t.tix.table = s.tix.table ∧ t.pending = s.pending

/-- R65, R182, R201: PUBLISH_INDEX and EVENT_READ_INDEX. -/
def Obligations.RingIndexWritesAreJudged : Prop :=
  (∀ (s : State) (lanes : Lanes) (data : Word) (v : Index), ShadowOk s →
      v = (((s.setup 3 &&& ~~~ laneMask lanes) ||| (data &&& laneMask lanes)).setWidth 16) →
      ∃ t, exec (.publishIndex lanes data) s = .next t ∧
        ((v - s.tix.retireIndex).toNat ≤ s.setupN 36 →
          (s.tix.fetchIndex - s.tix.retireIndex).toNat ≤ (v - s.tix.retireIndex).toNat →
          t.port = .done ∧ t.publish = v) ∧
        (s.setupN 36 < (v - s.tix.retireIndex).toNat
            ∨ (v - s.tix.retireIndex).toNat < (s.tix.fetchIndex - s.tix.retireIndex).toNat →
          t.port = .busError ∧ t.publish = s.publish ∧
          judgeSetup 3 (mergedSetup 3 lanes data s) s = .error .index) ∧
        (∀ n, n ≠ 3 → t.setup n = s.setup n) ∧ t.tix.fetchIndex = s.tix.fetchIndex ∧
        t.tix.retireIndex = s.tix.retireIndex ∧ t.tix.table = s.tix.table ∧ sameLine s t ∧ t.pending = s.pending) ∧
  (∀ (s : State) (lanes : Lanes) (data : Word) (v : Index), ShadowOk s →
      v = (((s.setup 4 &&& ~~~ laneMask lanes) ||| (data &&& laneMask lanes)).setWidth 16) →
      ∃ t, exec (.eventReadIndex lanes data) s = .next t ∧
        ((s.rep.writeIndex - v).toNat ≤ (s.rep.writeIndex - s.readIndex).toNat → t.port = .done ∧ t.readIndex = v) ∧
        ((s.rep.writeIndex - s.readIndex).toNat < (s.rep.writeIndex - v).toNat →
          t.port = .busError ∧ t.readIndex = s.readIndex ∧
          judgeSetup 4 (mergedSetup 4 lanes data s) s = .error .index) ∧
        (∀ n, n ≠ 4 → t.setup n = s.setup n) ∧ t.rep.writeIndex = s.rep.writeIndex ∧
        t.rep.writeSlot = s.rep.writeSlot ∧ t.tix.table = s.tix.table ∧ sameLine s t ∧ t.pending = s.pending)

/-- R202, R180: EVENT_RING_LAYOUT in IDLE with a value its range accepts, and outside IDLE. That the grants before it
are made in its step is the model's reading (notes/assumptions/11.md). -/
def Obligations.EventRingLayoutRestartsSlot : Prop :=
  ∀ (s : State) (slots : Bool) (lanes : Lanes) (data m : Word) (n : Nat), ShadowOk s →
    n = (if slots = true then 38 else 37) →
    m = (s.setup n &&& ~~~ laneMask lanes) ||| (data &&& laneMask lanes) →
    ∃ t, exec (.eventRingLayout slots lanes data) s = .next t ∧
      (s.seq.line = .idle → (slots = true → 16 ≤ m.toNat ∧ m.toNat ≤ 4096) →
        (slots = false → m.toNat % 8 = 0 ∧ m.toNat < s.top) →
        t.port = .done ∧ t.setup n = m ∧ t.rep.writeSlot = 0) ∧
      (s.seq.line ≠ .idle → t.port = .busError ∧ t.setup n = s.setup n ∧ t.rep.writeSlot = s.rep.writeSlot) ∧
      (∀ k, k ≠ n → t.setup k = s.setup k) ∧ t.rep.writeIndex = s.rep.writeIndex ∧
      t.tix.table = s.tix.table ∧ sameLine s t ∧ t.pending = s.pending

/-- R207, R209: INTERRUPT_ACKNOWLEDGE and INTERRUPT_ENABLE. IRQ_N is low exactly when the latched set and the mask
share a cause, and high from pin reset. That a fetch read granted in the same step may latch RANGE is the model's
reading (notes/assumptions/11.md). -/
def Obligations.InterruptWordsDriveIrq : Prop :=
  (∀ s : State, s.irqN = false ↔ s.rep.latched &&& (s.setup 2).setWidth 8 ≠ 0) ∧
  (∀ (st : Straps) (p : Pins) (s : State), ∃ t, exec (.pinReset st p) s = .next t ∧ t.rep.latched = 0 ∧ t.setup 2 = 0 ∧
    t.irqN = true) ∧
  ∀ (s : State) (lanes : Lanes) (data : Word) (c e : BitVec 8), ShadowOk s →
    c = (((s.setup 1 &&& ~~~ laneMask lanes) ||| (data &&& laneMask lanes)).setWidth 8) →
    e = (((s.setup 2 &&& ~~~ laneMask lanes) ||| (data &&& laneMask lanes)).setWidth 8) →
    (∃ t, exec (.interruptAcknowledge lanes data) s = .next t ∧ t.port = .done ∧
      t.rep.latched &&& c = 0 ∧
      (t.rep.latched = s.rep.latched &&& ~~~ c
        ∨ t.rep.latched = (s.rep.latched ||| Cause.range.bit) &&& ~~~ c ∧ s.tix.fetch ≠ t.tix.fetch) ∧
      (t.irqN = false ↔ t.rep.latched &&& (s.setup 2).setWidth 8 ≠ 0) ∧
      (∀ n, n ≠ 1 → t.setup n = s.setup n) ∧ sameLine s t ∧ t.pending = s.pending) ∧
    (∃ t, exec (.interruptEnable lanes data) s = .next t ∧ t.port = .done ∧
      t.setup 2 = e.setWidth 32 ∧ (t.irqN = false ↔ t.rep.latched &&& e ≠ 0) ∧
      (t.rep.latched = s.rep.latched
        ∨ t.rep.latched = s.rep.latched ||| Cause.range.bit ∧ s.tix.fetch ≠ t.tix.fetch) ∧
      (∀ n, n ≠ 2 → t.setup n = s.setup n) ∧ sameLine s t ∧ t.pending = s.pending)

/-! ### The commands of software -/

/-- R157, R158, R197, R198, with R159, R160, R164, R169 and R170 for the checks: every command but NONE is decided: setup
word 0 takes it, the outcome is recorded with its tag and COMMAND is latched, and a refused one changes nothing else
of the line. `no` is the refusal once start-up is complete. NONE is not decided. That each is a full-word write is the
model's choice (notes/assumptions/22.md). -/
def Obligations.CommandsAreDecided : Prop :=
  (∀ (s : State) (tag : Index) (i : Instr) (code : BitVec 8) (no : Option CommandRefusal), ShadowOk s →
      (i = .start tag ∧ code = 1 ∧ no = (
          if s.seq.line ≠ .idle then some .state
          else if ¬ (3 * s.setupN 9 + 2000 ≤ s.setupN 13 ∧ s.setupN 10 + 960 + s.setupN 11 ≤ s.setupN 9 ∧
            s.setupN 11 + 12 ≤ s.setupN 10 ∧ s.setupN 9 + s.setupN 25 + 400 ≤ s.setupN 23 ∧
            s.setupN 14 + 1000 ≤ s.setupN 9) then some .geometry
          else if ¬ (s.base + 224 ≤ s.top ∧ s.setupN 35 + s.setupN 36 * 32 ≤ s.top ∧
            s.setupN 37 + s.setupN 38 * 24 ≤ s.top ∧
            (s.base + 224 ≤ s.setupN 35 ∨ s.setupN 35 + s.setupN 36 * 32 ≤ s.base) ∧
            (s.base + 224 ≤ s.setupN 37 ∨ s.setupN 37 + s.setupN 38 * 24 ≤ s.base) ∧
            (s.setupN 35 + s.setupN 36 * 32 ≤ s.setupN 37 ∨ s.setupN 37 + s.setupN 38 * 24 ≤ s.setupN 35)) then
            some .regions
          else none) ∨
        i = .calibrate tag ∧ code = 2 ∧ no = (if s.seq.line = .idle then none else some .state) ∨
        i = .pause tag ∧ code = 3 ∧ no = (if s.seq.line = .run then none else some .state) ∨
        i = .stop tag ∧ code = 4 ∧
          no = (if s.seq.line = .run ∨ s.seq.line = .register ∧ s.seq.stopPending = false then none else some .state) ∨
        i = .resume tag ∧ code = 5 ∧ no = (if s.seq.line = .halted then none else some .state) ∨
        i = .endRun tag ∧ code = 6 ∧ no = (
          if s.seq.line ≠ .halted then some .state
          else if s.rel.hold ≠ .empty ∨ s.rel.folding = true ∨ s.rel.exitList ≠ [] then some .draining else none) ∨
        i = .clear tag ∧ code = 7 ∧
          no = (if s.seq.line = .fault ∧ s.tr.state = .still then none else some .state) ∨
        i = .unknownCommand code tag ∧ 8 ≤ code.toNat ∧ no = some .unknown) →
      ∃ t, exec i s = .next t ∧ t.port = .done ∧ t.setup 0 = code.setWidth 32 ||| (tag.setWidth 32 <<< 16) ∧
        t.seq.outcome = some { code := code, tag := tag
                               refusal := if s.seq.startupComplete = true then no else some .state } ∧
        t.latches .command ∧
        (s.seq.startupComplete = false ∨ no ≠ none →
          t.pins = s.pins ∧ t.enc = s.enc ∧ t.rd = s.rd ∧ samePath s t ∧ t.tr = s.tr ∧
          t.seq = { s.seq with outcome := t.seq.outcome } ∧ t.tix.table = s.tix.table) ∧
        (∀ n, n ≠ 0 → t.setup n = s.setup n) ∧ t.pending = s.pending) ∧
  (∀ (s : State) (tag : Index), ShadowOk s → ∃ t, exec (.noneCommand tag) s = .next t ∧ t.port = .done ∧
      t.setup 0 = tag.setWidth 32 <<< 16 ∧ (∀ n, n ≠ 0 → t.setup n = s.setup n) ∧ sameLine s t ∧
      t.tix.table = s.tix.table ∧ t.rep.staging = s.rep.staging ∧ t.rep.seq = s.rep.seq ∧ t.pending = s.pending)

/-- R159 to R161, R7, R35, R43, R74, R113, R119: START accepted; R172: with WEB_BREAK_N low it takes WEB_BREAK at once.
-/
def Obligations.StartEntersRegister : Prop :=
  ∀ (s : State) (tag : Index), s.seq.startupComplete = true → s.seq.line = .idle →
    3 * s.setupN 9 + 2000 ≤ s.setupN 13 → s.setupN 10 + 960 + s.setupN 11 ≤ s.setupN 9 →
    s.setupN 11 + 12 ≤ s.setupN 10 → s.setupN 9 + s.setupN 25 + 400 ≤ s.setupN 23 →
    s.setupN 14 + 1000 ≤ s.setupN 9 → regionsOk s = true →
    ∃ t, exec (.start tag) s = .next t ∧
      (s.pins.webBreakN = true →
        t.seq = { s.seq with
          line := .register, haltKind := .none, stopPending := false
          regLimit := some (s.enc.web + BitVec.ofNat 32 (3 * s.setupN 9))
          outcome := some { code := 1, tag := tag, refusal := none } } ∧
        t.rd = { s.rd with
          state := .hunt, origin := s.enc.web, regs := FrameRegs.cleared, darkRun := 0, verdict := Verdict.empty
          searching := true } ∧
        t.tr.driveEnable = true ∧ t.tr.beltRun = true ∧ t.acc = s.acc ∧ t.rel = s.rel) ∧
      (s.pins.webBreakN = false →
        t.seq = { s.seq with
          line := .fault, haltKind := .none, stopPending := false, regLimit := none, firstFault := .webBreak
          outcome := some { code := 1, tag := tag, refusal := none } } ∧
        t.rd = { s.rd with
          state := .hunt, origin := s.enc.web, regs := FrameRegs.cleared, darkRun := 0, verdict := Verdict.empty
          searching := false, sweep := { s.rd.sweep with state := .off } } ∧
        t.tr.state = .still ∧ t.tr.driveEnable = false ∧ t.tr.beltRun = false ∧ t.latches .fault ∧
        t.acc.set = s.acc.set ∧ t.acc.state = s.acc.state ∧ t.rel.set = s.rel.set ∧ t.rel.hold = s.rel.hold) ∧
      t.enc = { s.enc with highWater := s.enc.web } ∧
      t.trk = { queue := [], nextPerf := none, registered := false, runout := false, snap := false
                snapTimer := { running := false, left := 0 } } ∧
      t.col = { cursor := none, pendingRead := none, stall := none, openSet := none, runoutNoted := false
                setCounter := s.col.setCounter } ∧
      t.tr.command = s.enc.web ∧ t.tr.beltTicks = 0 ∧ t.tr.slipReported = false ∧ t.pins = s.pins ∧
      t.tix.table = s.tix.table ∧ t.tix.fetchIndex = s.tix.fetchIndex

/-- R163, R36, R7, R113, R119: CALIBRATE accepted; R172: with WEB_BREAK_N low it takes WEB_BREAK at once. -/
def Obligations.CalibrateStartsSweep : Prop :=
  ∀ (s : State) (tag : Index), s.seq.startupComplete = true → s.seq.line = .idle →
    ∃ t, exec (.calibrate tag) s = .next t ∧
      (s.pins.webBreakN = true →
        t.seq = { s.seq with
          line := .calibrate, haltKind := .none, outcome := some { code := 2, tag := tag, refusal := none } } ∧
        t.rd.sweep.state = .seeking ∧
        t.tr = { s.tr with command := s.enc.web, driveEnable := true, slipReported := false } ∧ samePath s t) ∧
      (s.pins.webBreakN = false →
        t.seq = { s.seq with
          line := .fault, haltKind := .none, stopPending := false, regLimit := none, firstFault := .webBreak
          outcome := some { code := 2, tag := tag, refusal := none } } ∧
        t.rd.sweep.state = .off ∧ t.tr.state = .still ∧ t.tr.driveEnable = false ∧ t.tr.beltRun = false ∧
        t.latches .fault ∧ t.trk.queue = s.trk.queue ∧ t.col = s.col ∧ t.acc.set = s.acc.set ∧ t.rel.set = s.rel.set) ∧
      t.enc = { s.enc with highWater := s.enc.web } ∧
      t.rd.sweep = { s.rd.sweep with
        state := t.rd.sweep.state, passMap := List.replicate 12 false
        seekLimit := s.enc.web + BitVec.ofNat 32 (3 * s.setupN 9) } ∧
      t.rd.state = .hunt ∧ t.rd.darkRun = 0 ∧ t.rd.origin = s.rd.origin ∧ t.tr.command = s.enc.web ∧
      t.tr.slipReported = false ∧ t.pins = s.pins ∧ t.tix.table = s.tix.table

/-- R164, R165, R100, R102, R13, R14: PAUSE and STOP accepted. The halt sheet is the first candidate, oldest first,
whose park is reachable, and is awaited when there is none; a standing RUNOUT request stays. -/
def Obligations.PauseAndStopHaltRun : Prop :=
  ∀ (s : State) (tag : Index), s.seq.startupComplete = true →
    (∀ (i : Instr) (code : BitVec 8) (kind : HaltKind) (candidate : Sheet → Bool) (x : Option Sheet),
      s.seq.line = .run →
      (i = .pause tag ∧ code = 3 ∧ kind = .pause ∧ (∀ r, candidate r = true ↔
          (r.stage = .readOpen ∨ r.stage = .readDone) ∧ ∀ k, r.assignment = some k → k.position = 1) ∨
        i = .stop tag ∧ code = 4 ∧ kind = .stop ∧ (∀ r, candidate r = true ↔ r.stage = .readDone)) →
      x = s.trk.queue.find? (fun r => candidate r && decide ((stopDistance s.tr.speed (s.setupN 19) : Int) ≤
        signedDiff (r.anchor + s.setup 13 - s.setup 14 + (s.tr.command - s.enc.web)) s.tr.command)) →
      ∃ t, exec i s = .next t ∧ (t.seq.line = .halting ∨ t.seq.line = .halted) ∧
        t.seq.haltKind = kind ∧
        (s.pln.haltKind ≠ .runout → t.pln.haltKind = kind ∧
          t.pln.haltSheet = x.elim .awaiting (fun r => .sheet r.anchor) ∧
          t.pln.haltTarget = x.map (fun r => r.anchor + s.setup 13 - s.setup 14)) ∧
        (s.pln.haltKind = .runout → t.pln.haltKind = .runout ∧ t.pln.haltSheet = s.pln.haltSheet ∧
          t.pln.haltTarget = s.pln.haltTarget) ∧
        t.seq.outcome = some { code := code, tag := tag, refusal := none } ∧ t.enc = s.enc ∧ t.rd = s.rd ∧
        t.tr.command = s.tr.command ∧ t.pins = s.pins ∧
        t.tix.table.map Ticket.fetched = s.tix.table.map Ticket.fetched) ∧
    (s.seq.line = .register → s.seq.stopPending = false → ∃ t, exec (.stop tag) s = .next t ∧
      t.seq = { s.seq with stopPending := true, outcome := some { code := 4, tag := tag, refusal := none } } ∧
      t.rd = { s.rd with searching := false } ∧ t.enc = s.enc ∧ t.tr = s.tr ∧ samePath s t ∧ t.pins = s.pins ∧
      t.tix.table = s.tix.table)

/-- R168, R104, R60, R103, R167: RESUME accepted: with no RUNOUT request standing and no runout to take; with one
standing, which brings the line to HALTING again, and to HALTED where its target is met already; and where it takes
runout. That a standing target counts as met when its remaining distance is 0 or less is the model's reading
(notes/assumptions/23.md). That a request without a target leaves the line in HALTING, and that runout taken with no
READ_OPEN record has no halt target, is the model's choice (notes/assumptions/13.md). -/
def Obligations.ResumeReturnsToRun : Prop :=
  (∀ (s : State) (tag : Index), s.seq.startupComplete = true → s.seq.line = .halted → s.pln.haltKind ≠ .runout →
      s.pins.webPresent = true ∨ s.trk.runout = true ∨ s.trk.registered = false →
      ∃ t, exec (.resume tag) s = .next t ∧
        t.seq = { s.seq with
          line := .run, haltKind := .none, outcome := some { code := 5, tag := tag, refusal := none } } ∧
        t.pln.haltKind = .none ∧ t.pln.haltSheet = .none ∧ t.pln.haltTarget = none ∧ t.enc = s.enc ∧ t.rd = s.rd ∧
        t.tr.command = s.tr.command ∧ t.col = s.col ∧ t.acc = s.acc ∧ t.pins = s.pins ∧
        t.tix.table = s.tix.table) ∧
  (∀ (s : State) (tag : Index), s.seq.startupComplete = true → s.seq.line = .halted → s.pln.haltKind = .runout →
      s.trk.runout = true →
      ∃ t, exec (.resume tag) s = .next t ∧
        (t.seq.line = .halting ∨ t.seq.line = .halted) ∧ t.seq.haltKind = .runout ∧
        t.seq.outcome = some { code := 5, tag := tag, refusal := none } ∧ t.pln.haltKind = .runout ∧
        t.pln.haltTarget = s.pln.haltTarget ∧ t.trk.runout = true ∧ t.enc = s.enc ∧ t.rd = s.rd ∧ t.col = s.col ∧
        t.acc = s.acc ∧ t.pins = s.pins ∧ t.tr.command = s.tr.command ∧ t.tix.table = s.tix.table ∧
        ((∀ x ∈ s.trk.queue, x.stage ≠ .readOpen ∧ x.stage ≠ .readDone) →
          (∀ w, s.pln.haltTarget = some w → signedDiff (w + (s.tr.command - s.enc.web)) s.tr.command ≤ 0 →
            t.seq.line = .halted ∧ t.latches .halted ∧ t.tr.state = .still ∧ t.tr.speed = 0) ∧
          (s.pln.haltTarget = none ∨ (∃ w, s.pln.haltTarget = some w ∧ s.tr.due ≤ s.tr.emitted ∧
              0 < signedDiff (w + (s.tr.command - s.enc.web)) s.tr.command) →
            t.seq.line = .halting))) ∧
  (∀ (s : State) (tag : Index), s.seq.startupComplete = true → s.seq.line = .halted → s.trk.registered = true →
      s.trk.runout = false → s.pins.webPresent = false →
      ∃ t, exec (.resume tag) s = .next t ∧ t.trk.runout = true ∧ t.trk.nextPerf = none ∧
        t.seq.outcome = some { code := 5, tag := tag, refusal := none } ∧ t.enc = s.enc ∧ t.pins = s.pins ∧
        t.tr.command = s.tr.command ∧
        ((t.seq.line = .halting ∨ t.seq.line = .halted) ∧ t.seq.haltKind = .runout ∧ t.pln.haltKind = .runout ∧
            t.pln.haltTarget = (frontOf .readOpen s.trk.queue).map (fun r => r.anchor + s.setup 13 + 200)
          ∨ t.seq.line = .fault ∧ t.seq.firstFault = .foreignSheet))

/-- R169, R175, R63, R93, R137, R154, R104, R113, R119: END accepted. -/
def Obligations.EndEmptiesSheetPath : Prop :=
  ∀ (s : State) (tag : Index), s.seq.startupComplete = true → s.seq.line = .halted → s.rel.hold = .empty →
    s.rel.folding = false → s.rel.exitList = [] →
    ∃ t, exec (.endRun tag) s = .next t ∧
      t.seq = { s.seq with
        line := .idle, haltKind := .none, stopPending := false, regLimit := none
        outcome := some { code := 6, tag := tag, refusal := none } } ∧
      t.trk.queue = [] ∧ t.trk.nextPerf = none ∧ t.trk.registered = false ∧ t.trk.runout = false ∧
      t.trk.snap = false ∧
      t.col = { cursor := none, pendingRead := none, stall := none, openSet := none, runoutNoted := false
                setCounter := s.col.setCounter } ∧
      t.acc.state = .empty ∧ t.acc.set = none ∧ t.acc.jog = false ∧ t.acc.drop = false ∧
      t.acc.jogTimer.running = false ∧ t.acc.dropTimer.running = false ∧
      t.rel.hold = .empty ∧ t.rel.set = none ∧ t.rel.folder = none ∧ t.rel.exitList = [] ∧ t.rel.release = false ∧
      t.rel.foldReq = false ∧ t.rel.releaseTimer.running = false ∧ t.rel.foldTimer.running = false ∧
      t.rel.divert = s.rel.divert ∧
      t.pln = Planner.reset ∧ t.tr.targetW = none ∧ t.tr.targetC = none ∧ t.tr.state = .still ∧
      t.tr.driveEnable = false ∧ t.tr.beltRun = false ∧ t.tr.command = s.tr.command ∧
      t.enc = { s.enc with runContext := false } ∧
      t.tix.table = s.tix.table.map (fun k =>
        if s.tix.table.any (fun x => x.ring = k.ring ∧ (x.state = .collating ∨ x.state = .closed)) = true then
          { k with state := .disposing } else k) ∧
      t.tix.waiting = s.tix.waiting ++ (s.tix.table.filter fun k =>
        decide (k.state = .collating ∨ k.state = .closed)).map (fun k =>
          { ring := k.ring, serial := k.serial, outcome := .abandoned, count := k.assigned, reasons := k.reasons }) ∧
      t.tix.retired = s.tix.retired ∧ t.pins = s.pins

/-- R170, R175: CLEAR accepted; R172: with ESTOP_N low the line returns to FAULT with ESTOP, the path reset done. -/
def Obligations.ClearLeavesFault : Prop :=
  ∀ (s : State) (tag : Index), s.seq.startupComplete = true → s.seq.line = .fault → s.tr.state = .still →
    ∃ t, exec (.clear tag) s = .next t ∧
      (s.pins.estopN = true → t.seq = { s.seq with
        line := .idle, haltKind := .none, stopPending := false, regLimit := none, firstFault := .none, added := 0
        outcome := some { code := 7, tag := tag, refusal := none } }) ∧
      (s.pins.estopN = false → t.latches .fault ∧ t.seq = { s.seq with
        line := .fault, haltKind := .none, stopPending := false, regLimit := none, firstFault := .estop, added := 0
        outcome := some { code := 7, tag := tag, refusal := none } }) ∧
      t.tr.state = .still ∧ t.tr.beltRun = false ∧
      t.trk.queue = [] ∧ t.trk.registered = false ∧ t.trk.runout = false ∧ t.acc.state = .empty ∧
      t.rel.hold = .empty ∧ t.rel.folding = false ∧ t.rel.exitList = [] ∧ t.rel.divert = s.rel.divert ∧
      t.tr.driveEnable = false ∧ t.tr.command = s.tr.command ∧ t.enc = { s.enc with runContext := false } ∧
      (∀ k ∈ t.tix.table, k.state ≠ .collating ∧ k.state ≠ .closed) ∧ t.pins = s.pins

/-! ### The part's own traffic -/

/-- R66, R190: FETCH_START and FETCH_READ. That the grants before it are made in its step is the model's reading
(notes/assumptions/11.md). -/
def Obligations.FetchBeginsAndReads : Prop :=
  ∀ s : State,
    (s.seq.startupComplete = true → s.tix.fetch = .idle → s.tix.fetchIndex ≠ s.publish → s.tix.table.length < 16 →
      exec .fetchStart s = .next { s with tix := { s.tix with fetch := .due0, fetchAmended := none } }) ∧
    (s.seq.startupComplete = false ∨ s.tix.fetch ≠ .idle ∨ s.tix.fetchIndex = s.publish ∨ 16 ≤ s.tix.table.length →
      exec .fetchStart s = .next s) ∧
    (QueueOk s → EntriesIn s → Memory.wf s.mem = true → ShadowOk s → ∀ (w0 : Word) (second : Bool),
      s.tix.fetch = (if second = true then .due1 w0 else .due0) →
      ∃ t d, exec .fetchRead s = .next t ∧
        t.tix.fetch = (if second = true then .flight1 w0 d else .flight0 d) ∧
        ((slotAddr s.tix.fetchIndex (if second = true then 1 else 0) s).toNat < s.top →
          d = latestValue (slotAddr s.tix.fetchIndex (if second = true then 1 else 0) s) s) ∧
        (s.top ≤ (slotAddr s.tix.fetchIndex (if second = true then 1 else 0) s).toNat →
          d = 0xFFFFFFFF ∧ t.latches .range) ∧
        (∀ a, wordIn a s → latestValue a t = latestValue a s) ∧ t.path.shadow = s.path.shadow ∧
        t.tix.table = s.tix.table ∧ sameLine s t) ∧
    (s.tix.fetch = .idle → exec .fetchRead s = .next s)

/-- R66, R69, R70: FETCH_DATA_RETURN: the read of word 0 leads to that of word 1, and with word 1 the ticket enters
the table, or is discarded when software has withdrawn it. That the row carries the gauge, and that the data are those
of the grant, is the model's reading (notes/assumptions/7.md and 11.md). Then the collator, at its operations: R78 to
R82 and R84 to R87, what one offered record is decided to be; R83, the stall; R86, the pending sheet; R75 and R92, the
cursor; R88, the runout. -/
def Obligations.FetchReturnEntersTicket : Prop :=
  (∀ (s : State) (g : Gauge) (w0 w1 : Word), ∃ t, exec (.fetchDataReturn g) s = .next t ∧
    t.pins = { s.pins with gauge := g } ∧
    (s.tix.fetch = .flight0 w0 →
      t = { s with pins := { s.pins with gauge := g }, tix := { s.tix with fetch := .due1 w0 } }) ∧
    (s.tix.fetch = .flight1 w0 w1 → s.publish = s.tix.fetchIndex →
      t = { s with
        pins := { s.pins with gauge := g }, tix := { s.tix with fetch := .idle, fetchAmended := none } }) ∧
    (s.tix.fetch = .flight1 w0 w1 → s.publish ≠ s.tix.fetchIndex →
      t.tix.fetch = .idle ∧ t.tix.fetchIndex = s.tix.fetchIndex + 1 ∧ t.tix.retireIndex = s.tix.retireIndex ∧
      ∃ k : Ticket, t.tix.table.map Ticket.fetched = s.tix.table.map Ticket.fetched ++ [k.fetched] ∧
        k.ring = s.tix.fetchIndex ∧ k.serial = w0.setWidth 24 ∧ k.tag = w1.setWidth 8 ∧
        k.count = (w1.extractLsb' 8 8).toNat ∧
        ((w1.extractLsb' 16 3).toNat < 4 → k.style.code = w1.extractLsb' 16 2) ∧
        (w1.extractLsb' 20 2 = 0 → k.cls = .normal) ∧ (w1.extractLsb' 20 2 = 1 → k.cls = .sample) ∧
        (w1.extractLsb' 20 2 = 2 → k.cls = .pull) ∧
        k.invalid = (
          if w0.extractLsb' 24 8 ≠ 0x5C then some .marker
          else if w0.setWidth 24 = (0 : Serial) then some .serial
          else if k.count = 0 ∨ 14 < k.count then some .count
          else if 4 ≤ (w1.extractLsb' 16 3).toNat ∨ w1.extractLsb' 20 2 = 3 then some .code
          else if [14, 12, 10, 8].getD (w1.extractLsb' 16 3).toNat 0 < k.count then some .styleLimit
          else if (w1.setWidth 8 : BitVec 8).setWidth 32 ≠ s.setup 8 then some .tag
          else if s.tix.table.any (fun x => decide (x.invalid = none ∧ x.serial = w0.setWidth 24)) = true then
            some .duplicate
          else none)) ∧
    t.enc = s.enc ∧ t.tr.command = s.tr.command ∧ sameBytes s t ∧ sameBus s t) ∧
  (∀ (s t : State) (r : Sheet) (go : Bool), ringsApart s → decideSheet r s = (t, go) →
    (r.result = .leadIn → go = true ∧ joinsPurge s t r.anchor) ∧
    (r.result = .noFrame ∨ r.result = .badCheck ∨ r.result = .smudge ∨ r.result = .format ∨ r.result = .conflict →
      go = true ∧
      (∀ k, collates s k → joinsTicket s t k r.anchor Reason.unread.bit (min 255 (k.expected + 1)) false) ∧
      (atBoundary s → t.col.pendingRead = some r.anchor ∧
        (s.col.pendingRead = none → t = { s with col := { s.col with pendingRead := some r.anchor } }) ∧
        (∀ p, s.col.pendingRead = some p → joinsPurge s t p))) ∧
    (∀ f, r.result = .ok → r.frame = some f →
      (f.tag ≠ 0 → f.tag.setWidth 32 ≠ s.setup 8 → s.seq.startupComplete = true → s.seq.line ≠ .fault →
        go = false ∧ t.seq.line = .fault ∧ t.seq.firstFault = .foreignSheet ∧ t.trk.queue = s.trk.queue ∧
        t.tix = s.tix ∧ t.col = s.col) ∧
      (f.tag = 0 → s.col.pendingRead = none → go = true ∧
        (atBoundary s → joinsPurge s t r.anchor) ∧
        (∀ k, collates s k → ∃ u, closesPiece s u k ∧ joinsPurge u t r.anchor)) ∧
      (f.tag ≠ 0 → f.tag.setWidth 32 = s.setup 8 →
        (∀ k, s.col.pendingRead = none → collates s k → k.serial = f.serial →
          go = true ∧ joinsTicket s t k r.anchor (checkReasons k f) (f.index.toNat + 1) f.isLast) ∧
        (∀ k, s.col.pendingRead = none → awaits s f.serial k →
          (atBoundary s → go = true ∧ ∃ u, passes s u k ∧
            joinsTicket u t k r.anchor (checkReasons k f) (f.index.toNat + 1) f.isLast) ∧
          (∀ j, collates s j → j.serial ≠ f.serial → go = true ∧ ∃ u v, closesPiece s u j ∧ passes u v k ∧
            joinsTicket v t k r.anchor (checkReasons k f) (f.index.toNat + 1) f.isLast)) ∧
        ((∀ x ∈ s.tix.table, (x.state = .collating ∨ x.state = .waiting) → x.serial ≠ f.serial) →
          ((∃ x ∈ s.tix.table, x.serial = f.serial ∧
                (x.state = .closed ∨ x.state = .disposing ∨ x.state = .disposed)) ∨
              f.serial ∈ s.tix.retired ∨ 16 ≤ s.tix.table.length →
            s.col.pendingRead = none → go = true ∧
              (atBoundary s → joinsPurge s t r.anchor) ∧
              (∀ k, collates s k → ∃ u, closesPiece s u k ∧ joinsPurge u t r.anchor)) ∧
          ((∀ x ∈ s.tix.table, x.serial = f.serial →
                x.state ≠ .closed ∧ x.state ≠ .disposing ∧ x.state ≠ .disposed) →
              f.serial ∉ s.tix.retired → s.tix.table.length < 16 →
            go = false ∧ t.trk = s.trk ∧ t.tix = s.tix ∧ t.seq = s.seq ∧
              t.col = { s.col with stall := some f.serial }))) ∧
      (∀ p, s.col.pendingRead = some p → atBoundary s →
        (f.tag = 0 → go = true ∧ t.col.pendingRead = none ∧ ∃ u, joinsPurge s u p ∧ joinsPurge u t r.anchor) ∧
        (f.tag ≠ 0 → f.tag.setWidth 32 = s.setup 8 → (∀ x ∈ s.tix.table, x.state = .waiting → x.serial ≠ f.serial) →
          ((∃ x ∈ s.tix.table, x.serial = f.serial ∧
              (x.state = .closed ∨ x.state = .disposing ∨ x.state = .disposed)) ∨
            f.serial ∈ s.tix.retired ∨ 16 ≤ s.tix.table.length) →
          go = true ∧ t.col.pendingRead = none ∧ ∃ u, joinsPurge s u p ∧ joinsPurge u t r.anchor) ∧
        (∀ k, f.tag ≠ 0 → f.tag.setWidth 32 = s.setup 8 → awaits s f.serial k → f.index ≠ 1 →
          go = true ∧ t.col.pendingRead = none ∧ ∃ u v, joinsPurge s u p ∧ passes u v k ∧
            joinsTicket v t k r.anchor (checkReasons k f) (f.index.toNat + 1) f.isLast) ∧
        (∀ k, f.tag ≠ 0 → f.tag.setWidth 32 = s.setup 8 → awaits s f.serial k → f.index = 1 →
          k.assigned + 1 ≠ k.count → k.assigned + 1 ≠ 255 →
          go = true ∧ t.col.pendingRead = none ∧ ∃ u v k', passes s u k ∧
            joinsTicket u v k p Reason.unread.bit 1 false ∧ findTicket k.ring v.tix.table = some k' ∧
            joinsTicket v t k' r.anchor (checkReasons k' f) 2 f.isLast) ∧
        (∀ k, f.tag ≠ 0 → f.tag.setWidth 32 = s.setup 8 → awaits s f.serial k → f.index = 1 →
          k.assigned + 1 = k.count ∨ k.assigned + 1 = 255 →
          (∀ x ∈ s.tix.table, x.serial = f.serial → x = k) →
          go = true ∧ t.col.pendingRead = none ∧ ∃ u v, passes s u k ∧
            joinsTicket u v k p Reason.unread.bit 1 false ∧ joinsPurge v t r.anchor)))) ∧
  (∀ (s t : State) (r : Sheet) (go : Bool), s.col.cursor = some r.anchor →
    findSheet r.anchor s.trk.queue = some r → decideSheet r s = (t, go) →
    (s.seq.line.running = true ∨ s.seq.line = .register → go = false → collate s = t) ∧
    (s.seq.line.running = true ∨ s.seq.line = .register → go = true →
      (∀ x, (sheetsAfter r.anchor t.trk.queue).head? = some x → x.stage ≠ .readDone) →
      (s.col.runoutNoted = false → (collate s).trk = t.trk ∧ (collate s).tix = t.tix ∧
        (collate s).col = { t.col with cursor := none, stall := none }) ∧
      (s.col.runoutNoted = true → ∃ u, collate s = noteRunout u ∧ u.trk = t.trk ∧ u.tix = t.tix ∧ u.seq = t.seq ∧
        u.col = { t.col with cursor := none, stall := none })) ∧
    (∀ x, s.seq.line.running = true ∨ s.seq.line = .register → go = true →
      (sheetsAfter r.anchor t.trk.queue).head? = some x → x.stage = .readDone →
      (s.trk.queue.map Sheet.anchor).Nodup →
      ∃ u, collate s = collate u ∧ u.trk = t.trk ∧ u.tix = t.tix ∧ u.seq = t.seq ∧
        u.col = { t.col with cursor := some x.anchor, stall := none }) ∧
    (s.seq.line = .fault → collate s = s)) ∧
  (∀ s t : State, ringsApart s → s.seq.line.running = true → t = noteRunout s →
    t.col.runoutNoted = true ∧
    (s.col.cursor ≠ none → t = { s with col := { s.col with runoutNoted := true } }) ∧
    (s.col.cursor = none → s.col.pendingRead = none → atBoundary s →
      t.trk.queue = setEnded s ∧ t.col.openSet = none ∧ t.tix = s.tix) ∧
    (∀ p, s.col.cursor = none → s.col.pendingRead = some p → atBoundary s → ∃ u, joinsPurge s u p ∧
      t.trk.queue = setEnded u ∧ t.col.openSet = none ∧ t.col.pendingRead = none ∧ t.tix = s.tix) ∧
    (∀ k, s.col.cursor = none → s.col.pendingRead = none → collates s k → ∃ u, closesPiece s u k ∧
      t.trk.queue = u.trk.queue ∧ t.col.openSet = none ∧ t.tix.table = u.tix.table ∧ t.tix.waiting = u.tix.waiting))

/-- R189, R191: QUEUE_GRANT: the oldest entry goes to memory. That the grants before it are made in its step is the
model's reading (notes/assumptions/11.md). -/
def Obligations.QueueGrantDrainsOldest : Prop :=
  ∀ (s : State) (e : QueueEntry) (q : List QueueEntry), s.path.queue = e :: q →
    ∃ t, exec .queueGrant s = .next t ∧ t.path.queue = q ∧
      (Memory.wf s.mem = true → Memory.readWord e.addr.toNat t.mem = e.data) ∧
      (∀ a, a < e.addr.toNat ∨ e.addr.toNat + 4 ≤ a → Memory.readByte a t.mem = Memory.readByte a s.mem) ∧
      (QueueOk s → EntriesIn s → Memory.wf s.mem = true → ∀ a, wordIn a s → latestValue a t = latestValue a s) ∧
      t.path.shadow = s.path.shadow ∧ t.tix.table = s.tix.table ∧ sameLine s t

/-- R193, R155, R200: STARTUP_WRITE at a setup word, at a status word, and at the last; R172: with ESTOP_N low the last
takes ESTOP at once. That each producer places in a step of its own, and that LINE_STATE is numbered first, then the
held records, then ESTOP's, is the model's reading (notes/assumptions/11.md and 16.md). -/
def Obligations.StartupWritePlacesInOrder : Prop :=
  ∀ (s : State) (p : Nat), s.path.startPos = p → p < 56 → s.path.queue.length < 16 → StartupOk s →
    ∃ t, exec .startupWrite s = .next t ∧ t.path.startPos = p + 1 ∧
      (p < 40 → s.path.written.getD p false = true → t.path.queue = s.path.queue) ∧
      (p < 40 → s.path.written.getD p false = false → queued (setupAddr p s) t.path.queue = some (s.setup p)) ∧
      (40 ≤ p → queued (statusAddr (p - 40) s) t.path.queue = some (statusWord (p - 40) s)) ∧
      (p < 55 → t.seq = s.seq ∧ t.rep.staging = s.rep.staging) ∧
      (p = 55 → ∃ r rest, t.rep.staging = r :: rest ∧ r.event = .lineState .idle none .none ∧
        r.seq = some (s.rep.seq + 1) ∧
        (s.pins.estopN = true → t.seq = { s.seq with startupComplete := true } ∧
          rest.map Staged.event = s.rep.staging.map Staged.event) ∧
        (s.pins.estopN = false → s.seq.line = .idle →
          t.seq = { s.seq with
            line := .fault, haltKind := .none, stopPending := false, regLimit := none, firstFault := .estop
            startupComplete := true } ∧
          t.latches .fault ∧ t.tr.state = .still ∧ t.tr.driveEnable = false ∧ t.tr.beltRun = false ∧
          (rest.take s.rep.staging.length).map Staged.event = s.rep.staging.map Staged.event)) ∧
      (p < 55 ∨ s.pins.estopN = true → t.tr = s.tr ∧ samePath s t) ∧
      sameBytes s t ∧ t.path.shadow = s.path.shadow ∧ t.path.written = s.path.written ∧ t.tix = s.tix ∧
      t.enc = s.enc ∧ t.pins = s.pins

/-- R90, R68, R186, R214: DISPOSITION_PLACE, with a free entry in the queue. `table` is the table with the disposed
ticket marked, and `n` the number of tickets DISPOSED at its oldest end. That each producer places in a step of its own
is the model's reading (notes/assumptions/11.md). -/
def Obligations.DispositionIsPlacedAndRetired : Prop :=
  ∀ (s : State) (d : Disposition) (rest : List Disposition) (table : List Ticket) (n : Nat), s.tix.waiting = d :: rest →
    s.seq.startupComplete = true → s.path.queue.length < 16 →
    table = s.tix.table.map (fun k => if k.ring = d.ring then { k with state := .disposed } else k) →
    n ≤ table.length → (∀ k ∈ table.take n, k.state = .disposed) →
    (∀ k, (table.drop n).head? = some k → k.state ≠ .disposed) →
    ∃ t, exec .dispositionPlace s = .next t ∧ t.tix.waiting = rest ∧
      ((slotAddr d.ring 7 s).toNat < s.top → queued (slotAddr d.ring 7 s) t.path.queue = some d.word) ∧
      (s.top ≤ (slotAddr d.ring 7 s).toNat → t.path.queue = s.path.queue ∧ t.latches .range) ∧
      t.tix.retired = (if s.tix.retired.length < 16 then s.tix.retired else s.tix.retired.drop 1) ++ [d.serial] ∧
      t.tix.table = table.drop n ∧ t.tix.retireIndex = s.tix.retireIndex + BitVec.ofNat 16 n ∧
      t.tix.fetchIndex = s.tix.fetchIndex ∧ sameBytes s t ∧ t.path.shadow = s.path.shadow ∧ sameLine s t

/-- R201, R203, R208: EVENT_RECORD_MOVE with its conditions met. That each producer places in a step of its own is the
model's reading (notes/assumptions/11.md). -/
def Obligations.EventRecordMovesWhole : Prop :=
  ∀ (s : State) (r : Staged) (rest : List Staged), s.rep.staging = r :: rest → s.seq.startupComplete = true →
    s.path.queue.length + 6 ≤ 16 → (s.rep.writeIndex - s.readIndex).toNat < s.setupN 38 → ShadowOk s →
    ∃ t, exec .eventRecordMove s = .next t ∧ t.rep.staging = rest ∧ t.rep.writeIndex = s.rep.writeIndex + 1 ∧
      t.rep.writeSlot = (if s.rep.writeSlot + 1 < s.setupN 38 then s.rep.writeSlot + 1 else 0) ∧
      (s.setupN 37 + s.rep.writeSlot * 24 + 24 ≤ s.top → ∀ i, i < 6 →
        queued (BitVec.ofNat 32 (s.setupN 37 + s.rep.writeSlot * 24 + 4 * i)) t.path.queue = r.words[i]?) ∧
      ((s.rep.writeIndex - s.readIndex).toNat < s.setupN 6 →
        s.setupN 6 ≤ (s.rep.writeIndex + 1 - s.readIndex).toNat → t.latches .events) ∧
      (s.setupN 37 + s.rep.writeSlot * 24 + 24 ≤ s.top → s.setupN 6 ≤ (s.rep.writeIndex - s.readIndex).toNat →
        t.rep.latched = s.rep.latched) ∧
      sameBytes s t ∧ t.path.shadow = s.path.shadow ∧ t.tix = s.tix ∧ sameLine s t

/-- R205, R206, R213, R183, R186: STATUS_PLACE, the first due word, the queue having a free entry; and
SETUP_WORD_12_REPORT. That each producer places in a step of its own is the model's reading (notes/assumptions/11.md).
-/
def Obligations.StatusAndPhaseArePlaced : Prop :=
  (∀ (s : State) (n : Nat), s.seq.startupComplete = true → s.path.queue.length < 16 → n < 16 →
      s.rep.due.length = 16 → s.rep.due.getD n false = true → (∀ k, k < n → s.rep.due.getD k false = false) →
      ∃ t, exec .statusPlace s = .next t ∧ queued (statusAddr n s) t.path.queue = some (statusWord n s) ∧
        t.rep.due = s.rep.due.set n false ∧
        (∀ a, a ≠ statusAddr n s → queued a t.path.queue = queued a s.path.queue) ∧
        sameBytes s t ∧ t.path.shadow = s.path.shadow ∧ t.tix = s.tix ∧ sameLine s t) ∧
  (∀ s : State,
      (s.path.phaseReport = true → s.seq.startupComplete = true → s.path.queue.length < 16 →
        ∃ t, exec .setupWord12Report s = .next t ∧ queued (setupAddr 12 s) t.path.queue = some (s.setup 12) ∧
          t.path.phaseReport = false ∧ t.path.written = s.path.written ∧ t.path.shadow = s.path.shadow ∧
          (∀ a, a ≠ setupAddr 12 s → queued a t.path.queue = queued a s.path.queue) ∧
          sameBytes s t ∧ t.tix = s.tix ∧ t.rep = s.rep ∧ sameLine s t) ∧
      (s.path.phaseReport = false → exec .setupWord12Report s = .next s))

/-- R206, R204: SNAPSHOT, due and not due. That it is taken in a step of its own, and that a word which the controller
has overwritten while its value stands is not due (R205), is the model's reading (notes/assumptions/10.md and 30.md). -/
def Obligations.SnapshotHandsOverFiveWords : Prop :=
  ∀ s : State, s.rep.due.length = 16 →
    (s.rep.snapDue = true → ∃ t, exec .snapshot s = .next t ∧ t.rep.snapDue = false ∧
      t.rep.snapValues = [s.enc.web, s.tr.command, BitVec.ofNat 32 s.enc.vm, BitVec.ofNat 32 s.tr.speed, s.enc.msClock] ∧
      (∀ i, i < 5 → (t.rep.due.getD (9 + i) false = true ↔
        s.rep.due.getD (9 + i) false = true ∨ s.rep.snapPlaced.getD i none ≠ t.rep.snapValues[i]?)) ∧
      (∀ n, n < 9 ∨ 14 ≤ n → t.rep.due.getD n false = s.rep.due.getD n false) ∧
      t.rep.snapPlaced = s.rep.snapPlaced ∧ t.path = s.path ∧ t.tix = s.tix ∧ t.mem = s.mem ∧ sameLine s t) ∧
    (s.rep.snapDue = false → exec .snapshot s = .next s)
end

