-- ==== Sys2Proof/Laws/Memory.lean ====
section
/-! SUPPORT. Memory: what a byte reads as after each write, and that every write keeps the canonical form. -/

namespace Sys2Proof.Machine.Memory

/-! ### One byte -/

@[simp] theorem readByte_nil (a : Nat) : readByte a [] = Config.unlistedByte := rfl

@[simp] theorem readByte_cons (a k : Nat) (v : Byte) (m : Memory) :
    readByte a ((k, v) :: m) = if k = a then v else readByte a m := rfl

@[simp] theorem writeByte_nil (a : Nat) (b : Byte) :
    writeByte a b [] = if b = Config.unlistedByte then [] else [(a, b)] := rfl

@[simp] theorem above_nil (a : Nat) : above a [] = true := rfl

@[simp] theorem above_cons (a k : Nat) (v : Byte) (m : Memory) :
    above a ((k, v) :: m) = (decide (a < k) && above a m) := rfl

@[simp] theorem wf_nil : wf [] = true := rfl

@[simp] theorem wf_cons (k : Nat) (v : Byte) (m : Memory) :
    wf ((k, v) :: m) = (decide (v ≠ Config.unlistedByte) && above k m && wf m) := rfl

theorem above_mono {a b : Nat} (h : a ≤ b) {m : Memory} (hm : above b m = true) : above a m = true := by
  simp only [above, List.all_eq_true, decide_eq_true_eq] at hm ⊢
  exact fun c hc => lt_of_le_of_lt h (hm c hc)

/-- An address below every entry is unlisted. -/
theorem readByte_above {a : Nat} {m : Memory} (h : above a m = true) : readByte a m = Config.unlistedByte := by
  induction m with
  | nil => rfl
  | cons c m ih =>
    obtain ⟨k, v⟩ := c
    simp only [above_cons, Bool.and_eq_true, decide_eq_true_eq] at h
    rw [readByte_cons, if_neg (by omega), ih h.2]

theorem readByte_writeByte_ne {a b : Nat} (h : a ≠ b) (x : Byte) (m : Memory) :
    readByte a (writeByte b x m) = readByte a m := by
  induction m with
  | nil => rw [writeByte_nil]; split <;> simp [h.symm]
  | cons c m ih =>
    obtain ⟨k, v⟩ := c
    rw [writeByte]
    split
    · split <;> simp [h.symm]
    · split
      · rename_i hk
        subst hk
        split <;> simp [h.symm]
      · simp only [readByte_cons, ih]

theorem readByte_writeByte_same (a : Nat) (x : Byte) {m : Memory} (hm : wf m = true) :
    readByte a (writeByte a x m) = x := by
  induction m with
  | nil => rw [writeByte_nil]; split <;> simp_all
  | cons c m ih =>
    obtain ⟨k, v⟩ := c
    simp only [wf_cons, Bool.and_eq_true] at hm
    rw [writeByte]
    split
    · rename_i hk
      split
      · rename_i hx
        rw [readByte_cons, if_neg (by omega), readByte_above (above_mono (Nat.le_of_lt hk) hm.1.2), hx]
      · simp
    · split
      · rename_i hk
        subst hk
        split
        · rename_i hx
          rw [readByte_above hm.1.2, hx]
        · simp
      · rename_i hk
        rw [readByte_cons, if_neg (fun e => hk e.symm), ih hm.2]

theorem above_writeByte {k a : Nat} (x : Byte) {m : Memory} (ha : k < a) (h : above k m = true) :
    above k (writeByte a x m) = true := by
  induction m with
  | nil => rw [writeByte_nil]; split <;> simp [ha]
  | cons c m ih =>
    obtain ⟨j, v⟩ := c
    simp only [above_cons, Bool.and_eq_true, decide_eq_true_eq] at h
    rw [writeByte]
    split
    · split <;> simp [ha, h.1, h.2]
    · split
      · split <;> simp [ha, h.2]
      · simp [h.1, ih h.2]

/-- A write of one byte keeps the canonical form. -/
theorem writeByte_wf (a : Nat) (x : Byte) {m : Memory} (h : wf m = true) : wf (writeByte a x m) = true := by
  induction m with
  | nil => rw [writeByte_nil]; split <;> simp_all
  | cons c m ih =>
    obtain ⟨k, v⟩ := c
    simp only [wf_cons, Bool.and_eq_true, decide_eq_true_eq] at h
    rw [writeByte]
    split
    · rename_i hk
      split
      · simp [h.1.1, h.1.2, h.2]
      · rename_i hx
        simp [hx, hk, h.1.1, h.1.2, h.2, above_mono (Nat.le_of_lt hk) h.1.2]
    · split
      · rename_i hk
        split
        · exact h.2
        · rename_i hx
          simp [hx, hk, h.1.2, h.2]
      · rename_i h1 h2
        simp [h.1.1, above_writeByte x (by omega : k < a) h.1.2, ih h.2]

/-! ### Words and lanes -/

theorem writeWord_wf (a : Nat) (w : Word) {m : Memory} (h : wf m = true) : wf (writeWord a w m) = true :=
  writeByte_wf _ _ (writeByte_wf _ _ (writeByte_wf _ _ (writeByte_wf _ _ h)))

theorem writeLane_wf (lanes : Lanes) (i a : Nat) (w : Word) {m : Memory} (h : wf m = true) :
    wf (writeLane lanes i a w m) = true := by
  unfold writeLane
  split
  · exact writeByte_wf _ _ h
  · exact h

theorem writeLanes_wf (lanes : Lanes) (a : Nat) (w : Word) {m : Memory} (h : wf m = true) :
    wf (writeLanes lanes a w m) = true :=
  writeLane_wf _ _ _ _ (writeLane_wf _ _ _ _ (writeLane_wf _ _ _ _ (writeLane_wf _ _ _ _ h)))

/-- A full-word write leaves every byte outside the word alone. -/
theorem readByte_writeWord_outside {a b : Nat} (h : b < a ∨ a + 4 ≤ b) (w : Word) (m : Memory) :
    readByte b (writeWord a w m) = readByte b m := by
  unfold writeWord
  rw [readByte_writeByte_ne (by omega), readByte_writeByte_ne (by omega), readByte_writeByte_ne (by omega),
    readByte_writeByte_ne (by omega)]

theorem readByte_writeLane_outside {lanes : Lanes} {i a b : Nat} (h : b ≠ a + i ∨ lanes.getLsbD i = false)
    (w : Word) (m : Memory) : readByte b (writeLane lanes i a w m) = readByte b m := by
  unfold writeLane
  split
  · rename_i hi
    rcases h with h | h
    · exact readByte_writeByte_ne h _ _
    · simp [h] at hi
  · rfl

/-- A write of the enabled lanes leaves every byte but those of the lanes alone. -/
theorem readByte_writeLanes_outside {lanes : Lanes} {a b : Nat}
    (h : ∀ i, i < 4 → b = a + i → lanes.getLsbD i = false) (w : Word) (m : Memory) :
    readByte b (writeLanes lanes a w m) = readByte b m := by
  have hi : ∀ i, i < 4 → (b ≠ a + i ∨ lanes.getLsbD i = false) := fun i h4 => by
    by_cases e : b = a + i
    · exact .inr (h i h4 e)
    · exact .inl e
  unfold writeLanes
  rw [readByte_writeLane_outside (hi 3 (by omega)), readByte_writeLane_outside (hi 2 (by omega)),
    readByte_writeLane_outside (hi 1 (by omega)), readByte_writeLane_outside (hi 0 (by omega))]

theorem readByte_writeLane_inside {lanes : Lanes} {i a : Nat} (h : lanes.getLsbD i = true) (w : Word)
    {m : Memory} (hm : wf m = true) : readByte (a + i) (writeLane lanes i a w m) = w.extractLsb' (8 * i) 8 := by
  unfold writeLane
  rw [if_pos h, readByte_writeByte_same _ _ hm]

/-- The byte of an enabled lane reads as the lane's data after the write. -/
theorem readByte_writeLanes_inside {lanes : Lanes} {i a : Nat} (hi : i < 4) (h : lanes.getLsbD i = true) (w : Word)
    {m : Memory} (hm : wf m = true) : readByte (a + i) (writeLanes lanes a w m) = w.extractLsb' (8 * i) 8 := by
  have w0 := writeLane_wf lanes 0 a w hm
  have w1 := writeLane_wf lanes 1 a w w0
  have w2 := writeLane_wf lanes 2 a w w1
  unfold writeLanes
  match i, hi with
  | 3, _ => exact readByte_writeLane_inside h w w2
  | 2, _ => rw [readByte_writeLane_outside (.inl (by omega)), readByte_writeLane_inside h w w1]
  | 1, _ =>
    rw [readByte_writeLane_outside (.inl (by omega)), readByte_writeLane_outside (.inl (by omega)),
      readByte_writeLane_inside h w w0]
  | 0, _ =>
    rw [readByte_writeLane_outside (.inl (by omega)), readByte_writeLane_outside (.inl (by omega)),
      readByte_writeLane_outside (.inl (by omega)), readByte_writeLane_inside h w hm]

/-- The four bytes of a word put together again. -/
theorem append_bytes (w : Word) :
    (w.extractLsb' 24 8 ++ w.extractLsb' 16 8 ++ w.extractLsb' 8 8 ++ w.extractLsb' 0 8 : Word) = w := by
  apply BitVec.eq_of_getLsbD_eq
  intro i hi
  simp only [BitVec.getLsbD_append, BitVec.getLsbD_extractLsb', Nat.zero_add]
  by_cases h1 : i < 8
  · simp [h1]
  · by_cases h2 : i - 8 < 8
    · simp [h1, h2, show 8 + (i - 8) = i by omega]
    · by_cases h3 : i - 8 - 8 < 8
      · simp [h1, h2, h3, show 16 + (i - 8 - 8) = i by omega]
      · simp [h1, h2, h3, show i - 8 - 8 - 8 < 8 by omega, show 24 + (i - 8 - 8 - 8) = i by omega]

/-- R188, R210: a word reads as it was last written. -/
theorem readWord_writeWord (a : Nat) (w : Word) {m : Memory} (hm : wf m = true) :
    readWord a (writeWord a w m) = w := by
  have w0 := writeByte_wf a (w.extractLsb' 0 8) hm
  have w1 := writeByte_wf (a + 1) (w.extractLsb' 8 8) w0
  have w2 := writeByte_wf (a + 2) (w.extractLsb' 16 8) w1
  have e3 : readByte (a + 3) (writeWord a w m) = w.extractLsb' 24 8 := readByte_writeByte_same _ _ w2
  have e2 : readByte (a + 2) (writeWord a w m) = w.extractLsb' 16 8 := by
    unfold writeWord
    rw [readByte_writeByte_ne (by omega), readByte_writeByte_same _ _ w1]
  have e1 : readByte (a + 1) (writeWord a w m) = w.extractLsb' 8 8 := by
    unfold writeWord
    rw [readByte_writeByte_ne (by omega), readByte_writeByte_ne (by omega), readByte_writeByte_same _ _ w0]
  have e0 : readByte a (writeWord a w m) = w.extractLsb' 0 8 := by
    unfold writeWord
    rw [readByte_writeByte_ne (by omega), readByte_writeByte_ne (by omega), readByte_writeByte_ne (by omega),
      readByte_writeByte_same _ _ hm]
  unfold readWord
  rw [e3, e2, e1, e0]
  exact append_bytes w

/-- A word apart from the one written reads as before. -/
theorem readWord_writeWord_apart {a b : Nat} (h : b + 4 ≤ a ∨ a + 4 ≤ b) (w : Word) (m : Memory) :
    readWord b (writeWord a w m) = readWord b m := by
  unfold readWord
  rw [readByte_writeWord_outside (by omega), readByte_writeWord_outside (by omega),
    readByte_writeWord_outside (by omega), readByte_writeWord_outside (by omega)]

/-- The memory after reset is in the canonical form. -/
theorem reset_wf : wf State.reset.mem = true := rfl

end Sys2Proof.Machine.Memory
end

