-- ==== Sys2Proof/Laws/State.lean ====
section
/-! SUPPORT. One lemma per field for each named update of the state: what the update puts there, or that it leaves
the field alone. Each is true by unfolding the update. -/

namespace Sys2Proof.Machine

/-! ### State.withPending -/

@[simp] theorem State.withPending_pins (s : State) (p : List Instr) : (s.withPending p).pins = s.pins := rfl
@[simp] theorem State.withPending_enc (s : State) (p : List Instr) : (s.withPending p).enc = s.enc := rfl
@[simp] theorem State.withPending_rd (s : State) (p : List Instr) : (s.withPending p).rd = s.rd := rfl
@[simp] theorem State.withPending_trk (s : State) (p : List Instr) : (s.withPending p).trk = s.trk := rfl
@[simp] theorem State.withPending_tix (s : State) (p : List Instr) : (s.withPending p).tix = s.tix := rfl
@[simp] theorem State.withPending_col (s : State) (p : List Instr) : (s.withPending p).col = s.col := rfl
@[simp] theorem State.withPending_pln (s : State) (p : List Instr) : (s.withPending p).pln = s.pln := rfl
@[simp] theorem State.withPending_tr (s : State) (p : List Instr) : (s.withPending p).tr = s.tr := rfl
@[simp] theorem State.withPending_acc (s : State) (p : List Instr) : (s.withPending p).acc = s.acc := rfl
@[simp] theorem State.withPending_rel (s : State) (p : List Instr) : (s.withPending p).rel = s.rel := rfl
@[simp] theorem State.withPending_seq (s : State) (p : List Instr) : (s.withPending p).seq = s.seq := rfl
@[simp] theorem State.withPending_path (s : State) (p : List Instr) : (s.withPending p).path = s.path := rfl
@[simp] theorem State.withPending_rep (s : State) (p : List Instr) : (s.withPending p).rep = s.rep := rfl
@[simp] theorem State.withPending_port (s : State) (p : List Instr) : (s.withPending p).port = s.port := rfl
@[simp] theorem State.withPending_mem (s : State) (p : List Instr) : (s.withPending p).mem = s.mem := rfl
@[simp] theorem State.withPending_pending (s : State) (p : List Instr) : (s.withPending p).pending = p := rfl

/-! ### setArbiter -/

@[simp] theorem setArbiter_pins (a : Arbiter) (s : State) : (setArbiter a s).pins = s.pins := rfl
@[simp] theorem setArbiter_enc (a : Arbiter) (s : State) : (setArbiter a s).enc = s.enc := rfl
@[simp] theorem setArbiter_rd (a : Arbiter) (s : State) : (setArbiter a s).rd = s.rd := rfl
@[simp] theorem setArbiter_trk (a : Arbiter) (s : State) : (setArbiter a s).trk = s.trk := rfl
@[simp] theorem setArbiter_tix (a : Arbiter) (s : State) : (setArbiter a s).tix = s.tix := rfl
@[simp] theorem setArbiter_col (a : Arbiter) (s : State) : (setArbiter a s).col = s.col := rfl
@[simp] theorem setArbiter_pln (a : Arbiter) (s : State) : (setArbiter a s).pln = s.pln := rfl
@[simp] theorem setArbiter_tr (a : Arbiter) (s : State) : (setArbiter a s).tr = s.tr := rfl
@[simp] theorem setArbiter_acc (a : Arbiter) (s : State) : (setArbiter a s).acc = s.acc := rfl
@[simp] theorem setArbiter_rel (a : Arbiter) (s : State) : (setArbiter a s).rel = s.rel := rfl
@[simp] theorem setArbiter_seq (a : Arbiter) (s : State) : (setArbiter a s).seq = s.seq := rfl
@[simp] theorem setArbiter_path_straps (a : Arbiter) (s : State) : (setArbiter a s).path.straps = s.path.straps := rfl
@[simp] theorem setArbiter_path_shadow (a : Arbiter) (s : State) : (setArbiter a s).path.shadow = s.path.shadow := rfl
@[simp] theorem setArbiter_path_written (a : Arbiter) (s : State) : (setArbiter a s).path.written = s.path.written := rfl
@[simp] theorem setArbiter_path_queue (a : Arbiter) (s : State) : (setArbiter a s).path.queue = s.path.queue := rfl
@[simp] theorem setArbiter_path_startPos (a : Arbiter) (s : State) : (setArbiter a s).path.startPos = s.path.startPos := rfl
@[simp] theorem setArbiter_path_phaseReport (a : Arbiter) (s : State) : (setArbiter a s).path.phaseReport = s.path.phaseReport := rfl
@[simp] theorem setArbiter_rep (a : Arbiter) (s : State) : (setArbiter a s).rep = s.rep := rfl
@[simp] theorem setArbiter_port (a : Arbiter) (s : State) : (setArbiter a s).port = s.port := rfl
@[simp] theorem setArbiter_mem (a : Arbiter) (s : State) : (setArbiter a s).mem = s.mem := rfl
@[simp] theorem setArbiter_pending (a : Arbiter) (s : State) : (setArbiter a s).pending = s.pending := rfl
@[simp] theorem setArbiter_path_arbiter (a : Arbiter) (s : State) : (setArbiter a s).path.arbiter = a := rfl

/-! ### setQueue -/

@[simp] theorem setQueue_pins (q : List QueueEntry) (s : State) : (setQueue q s).pins = s.pins := rfl
@[simp] theorem setQueue_enc (q : List QueueEntry) (s : State) : (setQueue q s).enc = s.enc := rfl
@[simp] theorem setQueue_rd (q : List QueueEntry) (s : State) : (setQueue q s).rd = s.rd := rfl
@[simp] theorem setQueue_trk (q : List QueueEntry) (s : State) : (setQueue q s).trk = s.trk := rfl
@[simp] theorem setQueue_tix (q : List QueueEntry) (s : State) : (setQueue q s).tix = s.tix := rfl
@[simp] theorem setQueue_col (q : List QueueEntry) (s : State) : (setQueue q s).col = s.col := rfl
@[simp] theorem setQueue_pln (q : List QueueEntry) (s : State) : (setQueue q s).pln = s.pln := rfl
@[simp] theorem setQueue_tr (q : List QueueEntry) (s : State) : (setQueue q s).tr = s.tr := rfl
@[simp] theorem setQueue_acc (q : List QueueEntry) (s : State) : (setQueue q s).acc = s.acc := rfl
@[simp] theorem setQueue_rel (q : List QueueEntry) (s : State) : (setQueue q s).rel = s.rel := rfl
@[simp] theorem setQueue_seq (q : List QueueEntry) (s : State) : (setQueue q s).seq = s.seq := rfl
@[simp] theorem setQueue_path_straps (q : List QueueEntry) (s : State) : (setQueue q s).path.straps = s.path.straps := rfl
@[simp] theorem setQueue_path_shadow (q : List QueueEntry) (s : State) : (setQueue q s).path.shadow = s.path.shadow := rfl
@[simp] theorem setQueue_path_written (q : List QueueEntry) (s : State) : (setQueue q s).path.written = s.path.written := rfl
@[simp] theorem setQueue_path_startPos (q : List QueueEntry) (s : State) : (setQueue q s).path.startPos = s.path.startPos := rfl
@[simp] theorem setQueue_path_phaseReport (q : List QueueEntry) (s : State) : (setQueue q s).path.phaseReport = s.path.phaseReport := rfl
@[simp] theorem setQueue_rep (q : List QueueEntry) (s : State) : (setQueue q s).rep = s.rep := rfl
@[simp] theorem setQueue_port (q : List QueueEntry) (s : State) : (setQueue q s).port = s.port := rfl
@[simp] theorem setQueue_mem (q : List QueueEntry) (s : State) : (setQueue q s).mem = s.mem := rfl
@[simp] theorem setQueue_pending (q : List QueueEntry) (s : State) : (setQueue q s).pending = s.pending := rfl
@[simp] theorem setQueue_path_queue (q : List QueueEntry) (s : State) : (setQueue q s).path.queue = q := rfl

/-! ### setFetch -/

@[simp] theorem setFetch_pins (f : Fetch) (s : State) : (setFetch f s).pins = s.pins := rfl
@[simp] theorem setFetch_enc (f : Fetch) (s : State) : (setFetch f s).enc = s.enc := rfl
@[simp] theorem setFetch_rd (f : Fetch) (s : State) : (setFetch f s).rd = s.rd := rfl
@[simp] theorem setFetch_trk (f : Fetch) (s : State) : (setFetch f s).trk = s.trk := rfl
@[simp] theorem setFetch_tix_fetchIndex (f : Fetch) (s : State) : (setFetch f s).tix.fetchIndex = s.tix.fetchIndex := rfl
@[simp] theorem setFetch_tix_retireIndex (f : Fetch) (s : State) : (setFetch f s).tix.retireIndex = s.tix.retireIndex := rfl
@[simp] theorem setFetch_tix_table (f : Fetch) (s : State) : (setFetch f s).tix.table = s.tix.table := rfl
@[simp] theorem setFetch_tix_fetchAmended (f : Fetch) (s : State) : (setFetch f s).tix.fetchAmended = s.tix.fetchAmended := rfl
@[simp] theorem setFetch_tix_waiting (f : Fetch) (s : State) : (setFetch f s).tix.waiting = s.tix.waiting := rfl
@[simp] theorem setFetch_tix_retired (f : Fetch) (s : State) : (setFetch f s).tix.retired = s.tix.retired := rfl
@[simp] theorem setFetch_tix_low (f : Fetch) (s : State) : (setFetch f s).tix.low = s.tix.low := rfl
@[simp] theorem setFetch_col (f : Fetch) (s : State) : (setFetch f s).col = s.col := rfl
@[simp] theorem setFetch_pln (f : Fetch) (s : State) : (setFetch f s).pln = s.pln := rfl
@[simp] theorem setFetch_tr (f : Fetch) (s : State) : (setFetch f s).tr = s.tr := rfl
@[simp] theorem setFetch_acc (f : Fetch) (s : State) : (setFetch f s).acc = s.acc := rfl
@[simp] theorem setFetch_rel (f : Fetch) (s : State) : (setFetch f s).rel = s.rel := rfl
@[simp] theorem setFetch_seq (f : Fetch) (s : State) : (setFetch f s).seq = s.seq := rfl
@[simp] theorem setFetch_path (f : Fetch) (s : State) : (setFetch f s).path = s.path := rfl
@[simp] theorem setFetch_rep (f : Fetch) (s : State) : (setFetch f s).rep = s.rep := rfl
@[simp] theorem setFetch_port (f : Fetch) (s : State) : (setFetch f s).port = s.port := rfl
@[simp] theorem setFetch_mem (f : Fetch) (s : State) : (setFetch f s).mem = s.mem := rfl
@[simp] theorem setFetch_pending (f : Fetch) (s : State) : (setFetch f s).pending = s.pending := rfl
@[simp] theorem setFetch_tix_fetch (f : Fetch) (s : State) : (setFetch f s).tix.fetch = f := rfl

/-! ### setGauge -/

@[simp] theorem setGauge_pins_webA (g : Gauge) (s : State) : (setGauge g s).pins.webA = s.pins.webA := rfl
@[simp] theorem setGauge_pins_webB (g : Gauge) (s : State) : (setGauge g s).pins.webB = s.pins.webB := rfl
@[simp] theorem setGauge_pins_beltA (g : Gauge) (s : State) : (setGauge g s).pins.beltA = s.pins.beltA := rfl
@[simp] theorem setGauge_pins_beltB (g : Gauge) (s : State) : (setGauge g s).pins.beltB = s.pins.beltB := rfl
@[simp] theorem setGauge_pins_mark (g : Gauge) (s : State) : (setGauge g s).pins.mark = s.pins.mark := rfl
@[simp] theorem setGauge_pins_beltEdge (g : Gauge) (s : State) : (setGauge g s).pins.beltEdge = s.pins.beltEdge := rfl
@[simp] theorem setGauge_pins_rejectFull (g : Gauge) (s : State) : (setGauge g s).pins.rejectFull = s.pins.rejectFull := rfl
@[simp] theorem setGauge_pins_foldReady (g : Gauge) (s : State) : (setGauge g s).pins.foldReady = s.pins.foldReady := rfl
@[simp] theorem setGauge_pins_foldDone (g : Gauge) (s : State) : (setGauge g s).pins.foldDone = s.pins.foldDone := rfl
@[simp] theorem setGauge_pins_foldFault (g : Gauge) (s : State) : (setGauge g s).pins.foldFault = s.pins.foldFault := rfl
@[simp] theorem setGauge_pins_exitEdge (g : Gauge) (s : State) : (setGauge g s).pins.exitEdge = s.pins.exitEdge := rfl
@[simp] theorem setGauge_pins_webPresent (g : Gauge) (s : State) : (setGauge g s).pins.webPresent = s.pins.webPresent := rfl
@[simp] theorem setGauge_pins_paperLow (g : Gauge) (s : State) : (setGauge g s).pins.paperLow = s.pins.paperLow := rfl
@[simp] theorem setGauge_pins_estopN (g : Gauge) (s : State) : (setGauge g s).pins.estopN = s.pins.estopN := rfl
@[simp] theorem setGauge_pins_webBreakN (g : Gauge) (s : State) : (setGauge g s).pins.webBreakN = s.pins.webBreakN := rfl
@[simp] theorem setGauge_enc (g : Gauge) (s : State) : (setGauge g s).enc = s.enc := rfl
@[simp] theorem setGauge_rd (g : Gauge) (s : State) : (setGauge g s).rd = s.rd := rfl
@[simp] theorem setGauge_trk (g : Gauge) (s : State) : (setGauge g s).trk = s.trk := rfl
@[simp] theorem setGauge_tix (g : Gauge) (s : State) : (setGauge g s).tix = s.tix := rfl
@[simp] theorem setGauge_col (g : Gauge) (s : State) : (setGauge g s).col = s.col := rfl
@[simp] theorem setGauge_pln (g : Gauge) (s : State) : (setGauge g s).pln = s.pln := rfl
@[simp] theorem setGauge_tr (g : Gauge) (s : State) : (setGauge g s).tr = s.tr := rfl
@[simp] theorem setGauge_acc (g : Gauge) (s : State) : (setGauge g s).acc = s.acc := rfl
@[simp] theorem setGauge_rel (g : Gauge) (s : State) : (setGauge g s).rel = s.rel := rfl
@[simp] theorem setGauge_seq (g : Gauge) (s : State) : (setGauge g s).seq = s.seq := rfl
@[simp] theorem setGauge_path (g : Gauge) (s : State) : (setGauge g s).path = s.path := rfl
@[simp] theorem setGauge_rep (g : Gauge) (s : State) : (setGauge g s).rep = s.rep := rfl
@[simp] theorem setGauge_port (g : Gauge) (s : State) : (setGauge g s).port = s.port := rfl
@[simp] theorem setGauge_mem (g : Gauge) (s : State) : (setGauge g s).mem = s.mem := rfl
@[simp] theorem setGauge_pending (g : Gauge) (s : State) : (setGauge g s).pending = s.pending := rfl
@[simp] theorem setGauge_pins_gauge (g : Gauge) (s : State) : (setGauge g s).pins.gauge = g := rfl

/-! ### hand -/

@[simp] theorem hand_pins (ws : List Nat) (s s' : State) : (hand ws s s').pins = s'.pins := rfl
@[simp] theorem hand_enc (ws : List Nat) (s s' : State) : (hand ws s s').enc = s'.enc := rfl
@[simp] theorem hand_rd (ws : List Nat) (s s' : State) : (hand ws s s').rd = s'.rd := rfl
@[simp] theorem hand_trk (ws : List Nat) (s s' : State) : (hand ws s s').trk = s'.trk := rfl
@[simp] theorem hand_tix (ws : List Nat) (s s' : State) : (hand ws s s').tix = s'.tix := rfl
@[simp] theorem hand_col (ws : List Nat) (s s' : State) : (hand ws s s').col = s'.col := rfl
@[simp] theorem hand_pln (ws : List Nat) (s s' : State) : (hand ws s s').pln = s'.pln := rfl
@[simp] theorem hand_tr (ws : List Nat) (s s' : State) : (hand ws s s').tr = s'.tr := rfl
@[simp] theorem hand_acc (ws : List Nat) (s s' : State) : (hand ws s s').acc = s'.acc := rfl
@[simp] theorem hand_rel (ws : List Nat) (s s' : State) : (hand ws s s').rel = s'.rel := rfl
@[simp] theorem hand_seq (ws : List Nat) (s s' : State) : (hand ws s s').seq = s'.seq := rfl
@[simp] theorem hand_path (ws : List Nat) (s s' : State) : (hand ws s s').path = s'.path := rfl
@[simp] theorem hand_rep_staging (ws : List Nat) (s s' : State) : (hand ws s s').rep.staging = s'.rep.staging := rfl
@[simp] theorem hand_rep_writeIndex (ws : List Nat) (s s' : State) : (hand ws s s').rep.writeIndex = s'.rep.writeIndex := rfl
@[simp] theorem hand_rep_writeSlot (ws : List Nat) (s s' : State) : (hand ws s s').rep.writeSlot = s'.rep.writeSlot := rfl
@[simp] theorem hand_rep_lost (ws : List Nat) (s s' : State) : (hand ws s s').rep.lost = s'.rep.lost := rfl
@[simp] theorem hand_rep_seq (ws : List Nat) (s s' : State) : (hand ws s s').rep.seq = s'.rep.seq := rfl
@[simp] theorem hand_rep_latched (ws : List Nat) (s s' : State) : (hand ws s s').rep.latched = s'.rep.latched := rfl
@[simp] theorem hand_rep_snapCount (ws : List Nat) (s s' : State) : (hand ws s s').rep.snapCount = s'.rep.snapCount := rfl
@[simp] theorem hand_rep_snapDue (ws : List Nat) (s s' : State) : (hand ws s s').rep.snapDue = s'.rep.snapDue := rfl
@[simp] theorem hand_rep_snapValues (ws : List Nat) (s s' : State) : (hand ws s s').rep.snapValues = s'.rep.snapValues := rfl
@[simp] theorem hand_rep_snapPlaced (ws : List Nat) (s s' : State) : (hand ws s s').rep.snapPlaced = s'.rep.snapPlaced := rfl
@[simp] theorem hand_port (ws : List Nat) (s s' : State) : (hand ws s s').port = s'.port := rfl
@[simp] theorem hand_mem (ws : List Nat) (s s' : State) : (hand ws s s').mem = s'.mem := rfl
@[simp] theorem hand_pending (ws : List Nat) (s s' : State) : (hand ws s s').pending = s'.pending := rfl

/-! ### latch -/

@[simp] theorem latch_pins (c : Cause) (s : State) : (latch c s).pins = s.pins := rfl
@[simp] theorem latch_enc (c : Cause) (s : State) : (latch c s).enc = s.enc := rfl
@[simp] theorem latch_rd (c : Cause) (s : State) : (latch c s).rd = s.rd := rfl
@[simp] theorem latch_trk (c : Cause) (s : State) : (latch c s).trk = s.trk := rfl
@[simp] theorem latch_tix (c : Cause) (s : State) : (latch c s).tix = s.tix := rfl
@[simp] theorem latch_col (c : Cause) (s : State) : (latch c s).col = s.col := rfl
@[simp] theorem latch_pln (c : Cause) (s : State) : (latch c s).pln = s.pln := rfl
@[simp] theorem latch_tr (c : Cause) (s : State) : (latch c s).tr = s.tr := rfl
@[simp] theorem latch_acc (c : Cause) (s : State) : (latch c s).acc = s.acc := rfl
@[simp] theorem latch_rel (c : Cause) (s : State) : (latch c s).rel = s.rel := rfl
@[simp] theorem latch_seq (c : Cause) (s : State) : (latch c s).seq = s.seq := rfl
@[simp] theorem latch_path (c : Cause) (s : State) : (latch c s).path = s.path := rfl
@[simp] theorem latch_rep_staging (c : Cause) (s : State) : (latch c s).rep.staging = s.rep.staging := rfl
@[simp] theorem latch_rep_writeIndex (c : Cause) (s : State) : (latch c s).rep.writeIndex = s.rep.writeIndex := rfl
@[simp] theorem latch_rep_writeSlot (c : Cause) (s : State) : (latch c s).rep.writeSlot = s.rep.writeSlot := rfl
@[simp] theorem latch_rep_lost (c : Cause) (s : State) : (latch c s).rep.lost = s.rep.lost := rfl
@[simp] theorem latch_rep_seq (c : Cause) (s : State) : (latch c s).rep.seq = s.rep.seq := rfl
@[simp] theorem latch_rep_snapCount (c : Cause) (s : State) : (latch c s).rep.snapCount = s.rep.snapCount := rfl
@[simp] theorem latch_rep_snapDue (c : Cause) (s : State) : (latch c s).rep.snapDue = s.rep.snapDue := rfl
@[simp] theorem latch_rep_snapValues (c : Cause) (s : State) : (latch c s).rep.snapValues = s.rep.snapValues := rfl
@[simp] theorem latch_rep_snapPlaced (c : Cause) (s : State) : (latch c s).rep.snapPlaced = s.rep.snapPlaced := rfl
@[simp] theorem latch_port (c : Cause) (s : State) : (latch c s).port = s.port := rfl
@[simp] theorem latch_mem (c : Cause) (s : State) : (latch c s).mem = s.mem := rfl
@[simp] theorem latch_pending (c : Cause) (s : State) : (latch c s).pending = s.pending := rfl
@[simp] theorem latch_rep_latched (c : Cause) (s : State) : (latch c s).rep.latched = s.rep.latched ||| c.bit := rfl

/-! ### State.editSheet -/

@[simp] theorem State.editSheet_pins (s : State) (a : Word) (f : Sheet → Sheet) : (s.editSheet a f).pins = s.pins := rfl
@[simp] theorem State.editSheet_enc (s : State) (a : Word) (f : Sheet → Sheet) : (s.editSheet a f).enc = s.enc := rfl
@[simp] theorem State.editSheet_rd (s : State) (a : Word) (f : Sheet → Sheet) : (s.editSheet a f).rd = s.rd := rfl
@[simp] theorem State.editSheet_trk_nextPerf (s : State) (a : Word) (f : Sheet → Sheet) : (s.editSheet a f).trk.nextPerf = s.trk.nextPerf := rfl
@[simp] theorem State.editSheet_trk_registered (s : State) (a : Word) (f : Sheet → Sheet) : (s.editSheet a f).trk.registered = s.trk.registered := rfl
@[simp] theorem State.editSheet_trk_runout (s : State) (a : Word) (f : Sheet → Sheet) : (s.editSheet a f).trk.runout = s.trk.runout := rfl
@[simp] theorem State.editSheet_trk_snap (s : State) (a : Word) (f : Sheet → Sheet) : (s.editSheet a f).trk.snap = s.trk.snap := rfl
@[simp] theorem State.editSheet_trk_snapTimer (s : State) (a : Word) (f : Sheet → Sheet) : (s.editSheet a f).trk.snapTimer = s.trk.snapTimer := rfl
@[simp] theorem State.editSheet_tix (s : State) (a : Word) (f : Sheet → Sheet) : (s.editSheet a f).tix = s.tix := rfl
@[simp] theorem State.editSheet_col (s : State) (a : Word) (f : Sheet → Sheet) : (s.editSheet a f).col = s.col := rfl
@[simp] theorem State.editSheet_pln (s : State) (a : Word) (f : Sheet → Sheet) : (s.editSheet a f).pln = s.pln := rfl
@[simp] theorem State.editSheet_tr (s : State) (a : Word) (f : Sheet → Sheet) : (s.editSheet a f).tr = s.tr := rfl
@[simp] theorem State.editSheet_acc (s : State) (a : Word) (f : Sheet → Sheet) : (s.editSheet a f).acc = s.acc := rfl
@[simp] theorem State.editSheet_rel (s : State) (a : Word) (f : Sheet → Sheet) : (s.editSheet a f).rel = s.rel := rfl
@[simp] theorem State.editSheet_seq (s : State) (a : Word) (f : Sheet → Sheet) : (s.editSheet a f).seq = s.seq := rfl
@[simp] theorem State.editSheet_path (s : State) (a : Word) (f : Sheet → Sheet) : (s.editSheet a f).path = s.path := rfl
@[simp] theorem State.editSheet_rep (s : State) (a : Word) (f : Sheet → Sheet) : (s.editSheet a f).rep = s.rep := rfl
@[simp] theorem State.editSheet_port (s : State) (a : Word) (f : Sheet → Sheet) : (s.editSheet a f).port = s.port := rfl
@[simp] theorem State.editSheet_mem (s : State) (a : Word) (f : Sheet → Sheet) : (s.editSheet a f).mem = s.mem := rfl
@[simp] theorem State.editSheet_pending (s : State) (a : Word) (f : Sheet → Sheet) : (s.editSheet a f).pending = s.pending := rfl
@[simp] theorem State.editSheet_trk_queue (s : State) (a : Word) (f : Sheet → Sheet) : (s.editSheet a f).trk.queue = Machine.editSheet a f s.trk.queue := rfl

/-! ### State.editTicket -/

@[simp] theorem State.editTicket_pins (s : State) (r : Index) (f : Ticket → Ticket) : (s.editTicket r f).pins = s.pins := rfl
@[simp] theorem State.editTicket_enc (s : State) (r : Index) (f : Ticket → Ticket) : (s.editTicket r f).enc = s.enc := rfl
@[simp] theorem State.editTicket_rd (s : State) (r : Index) (f : Ticket → Ticket) : (s.editTicket r f).rd = s.rd := rfl
@[simp] theorem State.editTicket_trk (s : State) (r : Index) (f : Ticket → Ticket) : (s.editTicket r f).trk = s.trk := rfl
@[simp] theorem State.editTicket_tix_fetchIndex (s : State) (r : Index) (f : Ticket → Ticket) : (s.editTicket r f).tix.fetchIndex = s.tix.fetchIndex := rfl
@[simp] theorem State.editTicket_tix_retireIndex (s : State) (r : Index) (f : Ticket → Ticket) : (s.editTicket r f).tix.retireIndex = s.tix.retireIndex := rfl
@[simp] theorem State.editTicket_tix_fetch (s : State) (r : Index) (f : Ticket → Ticket) : (s.editTicket r f).tix.fetch = s.tix.fetch := rfl
@[simp] theorem State.editTicket_tix_fetchAmended (s : State) (r : Index) (f : Ticket → Ticket) : (s.editTicket r f).tix.fetchAmended = s.tix.fetchAmended := rfl
@[simp] theorem State.editTicket_tix_waiting (s : State) (r : Index) (f : Ticket → Ticket) : (s.editTicket r f).tix.waiting = s.tix.waiting := rfl
@[simp] theorem State.editTicket_tix_retired (s : State) (r : Index) (f : Ticket → Ticket) : (s.editTicket r f).tix.retired = s.tix.retired := rfl
@[simp] theorem State.editTicket_tix_low (s : State) (r : Index) (f : Ticket → Ticket) : (s.editTicket r f).tix.low = s.tix.low := rfl
@[simp] theorem State.editTicket_col (s : State) (r : Index) (f : Ticket → Ticket) : (s.editTicket r f).col = s.col := rfl
@[simp] theorem State.editTicket_pln (s : State) (r : Index) (f : Ticket → Ticket) : (s.editTicket r f).pln = s.pln := rfl
@[simp] theorem State.editTicket_tr (s : State) (r : Index) (f : Ticket → Ticket) : (s.editTicket r f).tr = s.tr := rfl
@[simp] theorem State.editTicket_acc (s : State) (r : Index) (f : Ticket → Ticket) : (s.editTicket r f).acc = s.acc := rfl
@[simp] theorem State.editTicket_rel (s : State) (r : Index) (f : Ticket → Ticket) : (s.editTicket r f).rel = s.rel := rfl
@[simp] theorem State.editTicket_seq (s : State) (r : Index) (f : Ticket → Ticket) : (s.editTicket r f).seq = s.seq := rfl
@[simp] theorem State.editTicket_path (s : State) (r : Index) (f : Ticket → Ticket) : (s.editTicket r f).path = s.path := rfl
@[simp] theorem State.editTicket_rep (s : State) (r : Index) (f : Ticket → Ticket) : (s.editTicket r f).rep = s.rep := rfl
@[simp] theorem State.editTicket_port (s : State) (r : Index) (f : Ticket → Ticket) : (s.editTicket r f).port = s.port := rfl
@[simp] theorem State.editTicket_mem (s : State) (r : Index) (f : Ticket → Ticket) : (s.editTicket r f).mem = s.mem := rfl
@[simp] theorem State.editTicket_pending (s : State) (r : Index) (f : Ticket → Ticket) : (s.editTicket r f).pending = s.pending := rfl
@[simp] theorem State.editTicket_tix_table (s : State) (r : Index) (f : Ticket → Ticket) : (s.editTicket r f).tix.table = s.tix.table.map fun x => if x.ring = r then f x else x := rfl

/-! ### setPending -/

@[simp] theorem setPending_pins (p : Option Word) (s : State) : (setPending p s).pins = s.pins := rfl
@[simp] theorem setPending_enc (p : Option Word) (s : State) : (setPending p s).enc = s.enc := rfl
@[simp] theorem setPending_rd (p : Option Word) (s : State) : (setPending p s).rd = s.rd := rfl
@[simp] theorem setPending_trk (p : Option Word) (s : State) : (setPending p s).trk = s.trk := rfl
@[simp] theorem setPending_tix (p : Option Word) (s : State) : (setPending p s).tix = s.tix := rfl
@[simp] theorem setPending_col_cursor (p : Option Word) (s : State) : (setPending p s).col.cursor = s.col.cursor := rfl
@[simp] theorem setPending_col_stall (p : Option Word) (s : State) : (setPending p s).col.stall = s.col.stall := rfl
@[simp] theorem setPending_col_openSet (p : Option Word) (s : State) : (setPending p s).col.openSet = s.col.openSet := rfl
@[simp] theorem setPending_col_runoutNoted (p : Option Word) (s : State) : (setPending p s).col.runoutNoted = s.col.runoutNoted := rfl
@[simp] theorem setPending_col_setCounter (p : Option Word) (s : State) : (setPending p s).col.setCounter = s.col.setCounter := rfl
@[simp] theorem setPending_pln (p : Option Word) (s : State) : (setPending p s).pln = s.pln := rfl
@[simp] theorem setPending_tr (p : Option Word) (s : State) : (setPending p s).tr = s.tr := rfl
@[simp] theorem setPending_acc (p : Option Word) (s : State) : (setPending p s).acc = s.acc := rfl
@[simp] theorem setPending_rel (p : Option Word) (s : State) : (setPending p s).rel = s.rel := rfl
@[simp] theorem setPending_seq (p : Option Word) (s : State) : (setPending p s).seq = s.seq := rfl
@[simp] theorem setPending_path (p : Option Word) (s : State) : (setPending p s).path = s.path := rfl
@[simp] theorem setPending_rep (p : Option Word) (s : State) : (setPending p s).rep = s.rep := rfl
@[simp] theorem setPending_port (p : Option Word) (s : State) : (setPending p s).port = s.port := rfl
@[simp] theorem setPending_mem (p : Option Word) (s : State) : (setPending p s).mem = s.mem := rfl
@[simp] theorem setPending_pending (p : Option Word) (s : State) : (setPending p s).pending = s.pending := rfl
@[simp] theorem setPending_col_pendingRead (p : Option Word) (s : State) : (setPending p s).col.pendingRead = p := rfl

/-! ### forgetOpen -/

@[simp] theorem forgetOpen_pins (s : State) : (forgetOpen s).pins = s.pins := rfl
@[simp] theorem forgetOpen_enc (s : State) : (forgetOpen s).enc = s.enc := rfl
@[simp] theorem forgetOpen_rd (s : State) : (forgetOpen s).rd = s.rd := rfl
@[simp] theorem forgetOpen_trk (s : State) : (forgetOpen s).trk = s.trk := rfl
@[simp] theorem forgetOpen_tix (s : State) : (forgetOpen s).tix = s.tix := rfl
@[simp] theorem forgetOpen_col_cursor (s : State) : (forgetOpen s).col.cursor = s.col.cursor := rfl
@[simp] theorem forgetOpen_col_pendingRead (s : State) : (forgetOpen s).col.pendingRead = s.col.pendingRead := rfl
@[simp] theorem forgetOpen_col_stall (s : State) : (forgetOpen s).col.stall = s.col.stall := rfl
@[simp] theorem forgetOpen_col_runoutNoted (s : State) : (forgetOpen s).col.runoutNoted = s.col.runoutNoted := rfl
@[simp] theorem forgetOpen_col_setCounter (s : State) : (forgetOpen s).col.setCounter = s.col.setCounter := rfl
@[simp] theorem forgetOpen_pln (s : State) : (forgetOpen s).pln = s.pln := rfl
@[simp] theorem forgetOpen_tr (s : State) : (forgetOpen s).tr = s.tr := rfl
@[simp] theorem forgetOpen_acc (s : State) : (forgetOpen s).acc = s.acc := rfl
@[simp] theorem forgetOpen_rel (s : State) : (forgetOpen s).rel = s.rel := rfl
@[simp] theorem forgetOpen_seq (s : State) : (forgetOpen s).seq = s.seq := rfl
@[simp] theorem forgetOpen_path (s : State) : (forgetOpen s).path = s.path := rfl
@[simp] theorem forgetOpen_rep (s : State) : (forgetOpen s).rep = s.rep := rfl
@[simp] theorem forgetOpen_port (s : State) : (forgetOpen s).port = s.port := rfl
@[simp] theorem forgetOpen_mem (s : State) : (forgetOpen s).mem = s.mem := rfl
@[simp] theorem forgetOpen_pending (s : State) : (forgetOpen s).pending = s.pending := rfl
@[simp] theorem forgetOpen_col_openSet (s : State) : (forgetOpen s).col.openSet = none := rfl

/-! ### State.taking -/

@[simp] theorem State.taking_pins (s : State) (o : Option Word) : (s.taking o).pins = s.pins := rfl
@[simp] theorem State.taking_enc (s : State) (o : Option Word) : (s.taking o).enc = s.enc := rfl
@[simp] theorem State.taking_rd (s : State) (o : Option Word) : (s.taking o).rd = s.rd := rfl
@[simp] theorem State.taking_trk (s : State) (o : Option Word) : (s.taking o).trk = s.trk := rfl
@[simp] theorem State.taking_tix (s : State) (o : Option Word) : (s.taking o).tix = s.tix := rfl
@[simp] theorem State.taking_col (s : State) (o : Option Word) : (s.taking o).col = s.col := rfl
@[simp] theorem State.taking_pln (s : State) (o : Option Word) : (s.taking o).pln = s.pln := rfl
@[simp] theorem State.taking_tr_state (s : State) (o : Option Word) : (s.taking o).tr.state = s.tr.state := rfl
@[simp] theorem State.taking_tr_speed (s : State) (o : Option Word) : (s.taking o).tr.speed = s.tr.speed := rfl
@[simp] theorem State.taking_tr_remainder (s : State) (o : Option Word) : (s.taking o).tr.remainder = s.tr.remainder := rfl
@[simp] theorem State.taking_tr_command (s : State) (o : Option Word) : (s.taking o).tr.command = s.tr.command := rfl
@[simp] theorem State.taking_tr_metTold (s : State) (o : Option Word) : (s.taking o).tr.metTold = s.tr.metTold := rfl
@[simp] theorem State.taking_tr_due (s : State) (o : Option Word) : (s.taking o).tr.due = s.tr.due := rfl
@[simp] theorem State.taking_tr_emitted (s : State) (o : Option Word) : (s.taking o).tr.emitted = s.tr.emitted := rfl
@[simp] theorem State.taking_tr_slipReported (s : State) (o : Option Word) : (s.taking o).tr.slipReported = s.tr.slipReported := rfl
@[simp] theorem State.taking_tr_stepOut (s : State) (o : Option Word) : (s.taking o).tr.stepOut = s.tr.stepOut := rfl
@[simp] theorem State.taking_tr_driveEnable (s : State) (o : Option Word) : (s.taking o).tr.driveEnable = s.tr.driveEnable := rfl
@[simp] theorem State.taking_tr_beltRun (s : State) (o : Option Word) : (s.taking o).tr.beltRun = s.tr.beltRun := rfl
@[simp] theorem State.taking_tr_beltTicks (s : State) (o : Option Word) : (s.taking o).tr.beltTicks = s.tr.beltTicks := rfl
@[simp] theorem State.taking_tr_beltHistory (s : State) (o : Option Word) : (s.taking o).tr.beltHistory = s.tr.beltHistory := rfl
@[simp] theorem State.taking_tr_stallReported (s : State) (o : Option Word) : (s.taking o).tr.stallReported = s.tr.stallReported := rfl
@[simp] theorem State.taking_acc (s : State) (o : Option Word) : (s.taking o).acc = s.acc := rfl
@[simp] theorem State.taking_rel (s : State) (o : Option Word) : (s.taking o).rel = s.rel := rfl
@[simp] theorem State.taking_seq (s : State) (o : Option Word) : (s.taking o).seq = s.seq := rfl
@[simp] theorem State.taking_path (s : State) (o : Option Word) : (s.taking o).path = s.path := rfl
@[simp] theorem State.taking_rep (s : State) (o : Option Word) : (s.taking o).rep = s.rep := rfl
@[simp] theorem State.taking_port (s : State) (o : Option Word) : (s.taking o).port = s.port := rfl
@[simp] theorem State.taking_mem (s : State) (o : Option Word) : (s.taking o).mem = s.mem := rfl
@[simp] theorem State.taking_pending (s : State) (o : Option Word) : (s.taking o).pending = s.pending := rfl
@[simp] theorem State.taking_tr_targetW (s : State) (o : Option Word) : (s.taking o).tr.targetW = o := rfl
@[simp] theorem State.taking_tr_targetC (s : State) (o : Option Word) : (s.taking o).tr.targetC = o.map fun w => w + s.deviation := rfl

/-! ### State.setPlanner -/

@[simp] theorem State.setPlanner_pins (s : State) (p : Planner) : (s.setPlanner p).pins = s.pins := rfl
@[simp] theorem State.setPlanner_enc (s : State) (p : Planner) : (s.setPlanner p).enc = s.enc := rfl
@[simp] theorem State.setPlanner_rd (s : State) (p : Planner) : (s.setPlanner p).rd = s.rd := rfl
@[simp] theorem State.setPlanner_trk (s : State) (p : Planner) : (s.setPlanner p).trk = s.trk := rfl
@[simp] theorem State.setPlanner_tix (s : State) (p : Planner) : (s.setPlanner p).tix = s.tix := rfl
@[simp] theorem State.setPlanner_col (s : State) (p : Planner) : (s.setPlanner p).col = s.col := rfl
@[simp] theorem State.setPlanner_tr (s : State) (p : Planner) : (s.setPlanner p).tr = s.tr := rfl
@[simp] theorem State.setPlanner_acc (s : State) (p : Planner) : (s.setPlanner p).acc = s.acc := rfl
@[simp] theorem State.setPlanner_rel (s : State) (p : Planner) : (s.setPlanner p).rel = s.rel := rfl
@[simp] theorem State.setPlanner_seq (s : State) (p : Planner) : (s.setPlanner p).seq = s.seq := rfl
@[simp] theorem State.setPlanner_path (s : State) (p : Planner) : (s.setPlanner p).path = s.path := rfl
@[simp] theorem State.setPlanner_rep (s : State) (p : Planner) : (s.setPlanner p).rep = s.rep := rfl
@[simp] theorem State.setPlanner_port (s : State) (p : Planner) : (s.setPlanner p).port = s.port := rfl
@[simp] theorem State.setPlanner_mem (s : State) (p : Planner) : (s.setPlanner p).mem = s.mem := rfl
@[simp] theorem State.setPlanner_pending (s : State) (p : Planner) : (s.setPlanner p).pending = s.pending := rfl
@[simp] theorem State.setPlanner_pln (s : State) (p : Planner) : (s.setPlanner p).pln = p := rfl

/-! ### setRegs -/

@[simp] theorem setRegs_pins (st : ReaderState) (g : FrameRegs) (s : State) : (setRegs st g s).pins = s.pins := rfl
@[simp] theorem setRegs_enc (st : ReaderState) (g : FrameRegs) (s : State) : (setRegs st g s).enc = s.enc := rfl
@[simp] theorem setRegs_rd_origin (st : ReaderState) (g : FrameRegs) (s : State) : (setRegs st g s).rd.origin = s.rd.origin := rfl
@[simp] theorem setRegs_rd_darkRun (st : ReaderState) (g : FrameRegs) (s : State) : (setRegs st g s).rd.darkRun = s.rd.darkRun := rfl
@[simp] theorem setRegs_rd_verdict (st : ReaderState) (g : FrameRegs) (s : State) : (setRegs st g s).rd.verdict = s.rd.verdict := rfl
@[simp] theorem setRegs_rd_searching (st : ReaderState) (g : FrameRegs) (s : State) : (setRegs st g s).rd.searching = s.rd.searching := rfl
@[simp] theorem setRegs_rd_sweep (st : ReaderState) (g : FrameRegs) (s : State) : (setRegs st g s).rd.sweep = s.rd.sweep := rfl
@[simp] theorem setRegs_trk (st : ReaderState) (g : FrameRegs) (s : State) : (setRegs st g s).trk = s.trk := rfl
@[simp] theorem setRegs_tix (st : ReaderState) (g : FrameRegs) (s : State) : (setRegs st g s).tix = s.tix := rfl
@[simp] theorem setRegs_col (st : ReaderState) (g : FrameRegs) (s : State) : (setRegs st g s).col = s.col := rfl
@[simp] theorem setRegs_pln (st : ReaderState) (g : FrameRegs) (s : State) : (setRegs st g s).pln = s.pln := rfl
@[simp] theorem setRegs_tr (st : ReaderState) (g : FrameRegs) (s : State) : (setRegs st g s).tr = s.tr := rfl
@[simp] theorem setRegs_acc (st : ReaderState) (g : FrameRegs) (s : State) : (setRegs st g s).acc = s.acc := rfl
@[simp] theorem setRegs_rel (st : ReaderState) (g : FrameRegs) (s : State) : (setRegs st g s).rel = s.rel := rfl
@[simp] theorem setRegs_seq (st : ReaderState) (g : FrameRegs) (s : State) : (setRegs st g s).seq = s.seq := rfl
@[simp] theorem setRegs_path (st : ReaderState) (g : FrameRegs) (s : State) : (setRegs st g s).path = s.path := rfl
@[simp] theorem setRegs_rep (st : ReaderState) (g : FrameRegs) (s : State) : (setRegs st g s).rep = s.rep := rfl
@[simp] theorem setRegs_port (st : ReaderState) (g : FrameRegs) (s : State) : (setRegs st g s).port = s.port := rfl
@[simp] theorem setRegs_mem (st : ReaderState) (g : FrameRegs) (s : State) : (setRegs st g s).mem = s.mem := rfl
@[simp] theorem setRegs_pending (st : ReaderState) (g : FrameRegs) (s : State) : (setRegs st g s).pending = s.pending := rfl
@[simp] theorem setRegs_rd_state (st : ReaderState) (g : FrameRegs) (s : State) : (setRegs st g s).rd.state = st := rfl
@[simp] theorem setRegs_rd_regs (st : ReaderState) (g : FrameRegs) (s : State) : (setRegs st g s).rd.regs = g := rfl

/-! ### offer -/

/-- R200: an offered event reaches the reporter alone. -/
theorem offer_only (e : Event) (s : State) : offer e s = { s with rep := (offer e s).rep } := by
  unfold offer stage
  repeat' split
  all_goals rfl

@[simp] theorem offer_pins (e : Event) (s : State) : (offer e s).pins = s.pins := by rw [offer_only]
@[simp] theorem offer_enc (e : Event) (s : State) : (offer e s).enc = s.enc := by rw [offer_only]
@[simp] theorem offer_rd (e : Event) (s : State) : (offer e s).rd = s.rd := by rw [offer_only]
@[simp] theorem offer_trk (e : Event) (s : State) : (offer e s).trk = s.trk := by rw [offer_only]
@[simp] theorem offer_tix (e : Event) (s : State) : (offer e s).tix = s.tix := by rw [offer_only]
@[simp] theorem offer_col (e : Event) (s : State) : (offer e s).col = s.col := by rw [offer_only]
@[simp] theorem offer_pln (e : Event) (s : State) : (offer e s).pln = s.pln := by rw [offer_only]
@[simp] theorem offer_tr (e : Event) (s : State) : (offer e s).tr = s.tr := by rw [offer_only]
@[simp] theorem offer_acc (e : Event) (s : State) : (offer e s).acc = s.acc := by rw [offer_only]
@[simp] theorem offer_rel (e : Event) (s : State) : (offer e s).rel = s.rel := by rw [offer_only]
@[simp] theorem offer_seq (e : Event) (s : State) : (offer e s).seq = s.seq := by rw [offer_only]
@[simp] theorem offer_path (e : Event) (s : State) : (offer e s).path = s.path := by rw [offer_only]
@[simp] theorem offer_port (e : Event) (s : State) : (offer e s).port = s.port := by rw [offer_only]
@[simp] theorem offer_mem (e : Event) (s : State) : (offer e s).mem = s.mem := by rw [offer_only]
@[simp] theorem offer_pending (e : Event) (s : State) : (offer e s).pending = s.pending := by rw [offer_only]

/-! ### Working values and straps under the updates -/

theorem setup_congr {s t : State} (h : t.path.shadow = s.path.shadow) (n : Nat) : t.setup n = s.setup n := by
  rw [State.setup, State.setup, h]

theorem setupN_congr {s t : State} (h : t.path.shadow = s.path.shadow) (n : Nat) : t.setupN n = s.setupN n := by
  rw [State.setupN, State.setupN, setup_congr h]

theorem top_congr {s t : State} (h : t.path.straps = s.path.straps) : t.top = s.top := by
  rw [State.top, State.top, h]

theorem base_congr {s t : State} (h : t.path.straps = s.path.straps) : t.base = s.base := by
  rw [State.base, State.base, h]

end Sys2Proof.Machine
end

