-- ==== Sys2Proof/Laws/Queue.lean ====
section
/-! SUPPORT. The report write queue (R186 to R189): what is queued for an address after each operation, and that
every operation keeps QueueOk and EntriesIn. -/

namespace Sys2Proof.Machine

/-- The addresses of a queue. -/
def addrs (q : List QueueEntry) : List Word := q.map QueueEntry.addr

@[simp] theorem queued_nil (a : Word) : queued a [] = none := rfl

@[simp] theorem queued_cons (a : Word) (e : QueueEntry) (q : List QueueEntry) :
    queued a (e :: q) = if e.addr = a then some e.data else queued a q := rfl

theorem queued_none_iff {a : Word} {q : List QueueEntry} : queued a q = none ↔ a ∉ addrs q := by
  induction q with
  | nil => simp [addrs]
  | cons e q ih =>
    rw [queued_cons]
    split
    · rename_i h; simp [addrs, h]
    · rename_i h; rw [ih]; simp [addrs, Ne.symm h]

theorem addrs_replaceQueued (a d : Word) (q : List QueueEntry) : addrs (replaceQueued a d q) = addrs q := by
  induction q with
  | nil => rfl
  | cons e q ih =>
    rw [replaceQueued]
    split
    · rfl
    · simp only [addrs, List.map_cons, List.cons.injEq, true_and] at ih ⊢
      exact ih

theorem mem_addrs_removeQueued {a b : Word} {q : List QueueEntry} (h : b ∈ addrs (removeQueued a q)) : b ∈ addrs q := by
  induction q with
  | nil => exact h
  | cons e q ih =>
    rw [removeQueued] at h
    split at h
    · exact List.mem_cons_of_mem _ h
    · rcases List.mem_cons.1 h with h | h
      · exact h ▸ List.mem_cons_self
      · exact List.mem_cons_of_mem _ (ih h)

theorem removeQueued_nodup {a : Word} {q : List QueueEntry} (h : (addrs q).Nodup) :
    (addrs (removeQueued a q)).Nodup := by
  induction q with
  | nil => exact h
  | cons e q ih =>
    have hc := List.nodup_cons.1 h
    rw [removeQueued]
    split
    · exact hc.2
    · exact List.nodup_cons.2 ⟨fun hm => hc.1 (mem_addrs_removeQueued hm), ih hc.2⟩

theorem removeQueued_length_le (a : Word) (q : List QueueEntry) : (removeQueued a q).length ≤ q.length := by
  induction q with
  | nil => exact Nat.le_refl _
  | cons e q ih =>
    rw [removeQueued]
    split
    · exact Nat.le_succ _
    · exact Nat.succ_le_succ ih

theorem mem_removeQueued {a : Word} {e : QueueEntry} {q : List QueueEntry} (h : e ∈ removeQueued a q) : e ∈ q := by
  induction q with
  | nil => exact h
  | cons f q ih =>
    rw [removeQueued] at h
    split at h
    · exact List.mem_cons_of_mem _ h
    · rcases List.mem_cons.1 h with h | h
      · exact h ▸ List.mem_cons_self
      · exact List.mem_cons_of_mem _ (ih h)

/-- R187: the entry is gone. -/
theorem queued_removeQueued_same {a : Word} {q : List QueueEntry} (h : (addrs q).Nodup) :
    queued a (removeQueued a q) = none := by
  induction q with
  | nil => rfl
  | cons e q ih =>
    have hc := List.nodup_cons.1 h
    rw [removeQueued]
    split
    · rename_i he
      rw [queued_none_iff, ← he]
      exact hc.1
    · rename_i he
      rw [queued_cons, if_neg he, ih hc.2]

theorem queued_removeQueued_other {a b : Word} (hb : b ≠ a) (q : List QueueEntry) :
    queued b (removeQueued a q) = queued b q := by
  induction q with
  | nil => rfl
  | cons e q ih =>
    rw [removeQueued]
    split
    · rename_i he
      rw [queued_cons, if_neg (by rw [he]; exact hb.symm)]
    · rw [queued_cons, queued_cons, ih]

theorem queued_replaceQueued_same {a d : Word} {q : List QueueEntry} (h : (queued a q).isSome) :
    queued a (replaceQueued a d q) = some d := by
  induction q with
  | nil => simp at h
  | cons e q ih =>
    rw [replaceQueued]
    split
    · rename_i he
      simp [he]
    · rename_i he
      rw [queued_cons, if_neg he] at h ⊢
      exact ih h

theorem queued_replaceQueued_other {a b : Word} (d : Word) (hb : b ≠ a) (q : List QueueEntry) :
    queued b (replaceQueued a d q) = queued b q := by
  induction q with
  | nil => rfl
  | cons e q ih =>
    rw [replaceQueued]
    split
    · rename_i he
      rw [queued_cons, queued_cons, if_neg, if_neg]
      · rw [he]; exact hb.symm
      · rw [he]; exact hb.symm
    · rw [queued_cons, queued_cons, ih]

theorem queued_append_one (a : Word) (q : List QueueEntry) (e : QueueEntry) :
    queued a (q ++ [e]) = (queued a q).or (if e.addr = a then some e.data else none) := by
  induction q with
  | nil => simp
  | cons f q ih =>
    rw [List.cons_append, queued_cons, queued_cons]
    split
    · simp
    · exact ih

/-! ### The placed queue -/

/-- R186: a placement that is taken leaves the new data queued for its word. -/
theorem queued_placedQueue_same {a d : Word} {q : List QueueEntry}
    (h : (queued a q).isSome ∨ q.length < Config.queueCapacity) : queued a (placedQueue a d q) = some d := by
  unfold placedQueue
  split
  · rename_i hs
    exact queued_replaceQueued_same hs
  · rename_i hs
    rcases h with h | h
    · exact absurd h hs
    · rw [if_pos h, queued_append_one]
      simp only [Option.not_isSome_iff_eq_none] at hs
      simp [hs]

theorem queued_placedQueue_other {a b : Word} (d : Word) (hb : b ≠ a) (q : List QueueEntry) :
    queued b (placedQueue a d q) = queued b q := by
  unfold placedQueue
  split
  · exact queued_replaceQueued_other d hb q
  · split
    · rw [queued_append_one, if_neg hb.symm, Option.or_none]
    · rfl

theorem placedQueue_nodup {a d : Word} {q : List QueueEntry} (h : (addrs q).Nodup) :
    (addrs (placedQueue a d q)).Nodup := by
  unfold placedQueue
  split
  · rwa [addrs_replaceQueued]
  · rename_i hs
    split
    · simp only [Option.not_isSome_iff_eq_none] at hs
      have hn := queued_none_iff.1 hs
      rw [addrs, List.map_append]
      refine List.nodup_append.2 ⟨h, by simp, ?_⟩
      intro x hx y hy
      simp only [List.map_cons, List.map_nil, List.mem_singleton] at hy
      subst hy
      rintro rfl
      exact hn hx
    · exact h

theorem placedQueue_length {a d : Word} {q : List QueueEntry} (h : q.length ≤ Config.queueCapacity) :
    (placedQueue a d q).length ≤ Config.queueCapacity := by
  unfold placedQueue
  split
  · have : (replaceQueued a d q).length = q.length := by
      have := congrArg List.length (addrs_replaceQueued a d q)
      simpa [addrs] using this
    omega
  · split
    · rename_i hl
      rw [List.length_append]
      simp only [List.length_singleton]
      omega
    · exact h

theorem mem_placedQueue_addr {a d : Word} {e : QueueEntry} {q : List QueueEntry} (h : e ∈ placedQueue a d q) :
    e.addr = a ∨ e.addr ∈ addrs q := by
  unfold placedQueue at h
  split at h
  · right
    rw [← addrs_replaceQueued a d q]
    exact List.mem_map_of_mem h
  · split at h
    · rcases List.mem_append.1 h with h | h
      · exact .inr (List.mem_map_of_mem h)
      · left
        simp only [List.mem_singleton] at h
        rw [h]
    · exact .inr (List.mem_map_of_mem h)

/-! ### The queue and memory of a state -/

/-- The queue and memory are sound: R186's two bounds and the canonical form of memory. -/
structure StoreOk (s : State) : Prop where
  length : s.path.queue.length ≤ Config.queueCapacity
  nodup : (addrs s.path.queue).Nodup
  wf : Memory.wf s.mem = true

theorem storeOk_iff {s : State} : StoreOk s ↔ QueueOk s ∧ Memory.wf s.mem = true :=
  ⟨fun h => ⟨⟨h.length, h.nodup⟩, h.wf⟩, fun h => ⟨h.1.1, h.1.2, h.2⟩⟩

theorem StoreOk.congr {s t : State} (h : StoreOk s) (hq : t.path.queue = s.path.queue) (hm : t.mem = s.mem) :
    StoreOk t := ⟨by rw [hq]; exact h.length, by rw [hq]; exact h.nodup, by rw [hm]; exact h.wf⟩


/-- Everything a placement can do: R186 below the top, R190 at or above it. -/
theorem place_cases (a d : Word) (s : State) :
    (s.inRange a = true ∧ place a d s = setQueue (placedQueue a d s.path.queue) s)
      ∨ (s.inRange a = false ∧ place a d s = latch .range s) := by
  unfold place
  cases h : s.inRange a <;> simp

theorem place_storeOk (a d : Word) {s : State} (h : StoreOk s) : StoreOk (place a d s) := by
  rcases place_cases a d s with ⟨-, e⟩ | ⟨-, e⟩ <;> rw [e]
  · exact ⟨placedQueue_length h.length, placedQueue_nodup h.nodup, h.wf⟩
  · exact h.congr rfl rfl

theorem placeStatus_storeOk (n : Nat) {s : State} (h : StoreOk s) : StoreOk (placeStatus n s) :=
  (place_storeOk (statusAddr n s) (statusWord n s) h).congr rfl rfl

theorem placeIfReady_storeOk (n : Nat) {s : State} (h : StoreOk s) : StoreOk (placeIfReady n s) := by
  unfold placeIfReady
  split
  · exact placeStatus_storeOk n h
  · exact h

theorem placeResult_storeOk {s : State} (h : StoreOk s) : StoreOk (placeResult s) :=
  placeIfReady_storeOk _ (placeIfReady_storeOk _ (placeIfReady_storeOk _ h))

theorem placeWords_storeOk (i : Nat) (ws : List Word) {s : State} (h : StoreOk s) : StoreOk (placeWords i ws s) := by
  induction ws generalizing i s with
  | nil => exact h
  | cons w ws ih => exact ih _ (place_storeOk _ _ h)

theorem drainQueue_storeOk (b : Bool) {s : State} (h : StoreOk s) : StoreOk (drainQueue b s) := by
  unfold drainQueue
  split
  · exact h
  · rename_i q qs e
    have hl := h.length
    have hn := h.nodup
    rw [e] at hl hn
    simp only [List.length_cons] at hl
    exact ⟨Nat.le_of_succ_le hl, (List.nodup_cons.1 hn).2, Memory.writeWord_wf _ _ h.wf⟩

theorem ownRange_cases (a : Word) (s : State) : ownRange a s = s ∨ ownRange a s = latch .range s := by
  unfold ownRange
  split <;> simp

theorem grantFetchRead_storeOk {s : State} (h : StoreOk s) : StoreOk (grantFetchRead s) := by
  unfold grantFetchRead
  dsimp only
  split
  all_goals first
    | exact h
    | (rcases ownRange_cases (slotAddr s.tix.fetchIndex 0 s) (setArbiter s.path.arbiter.grantFetch s) with e | e <;>
        rw [e] <;> exact h.congr rfl rfl)
    | (rcases ownRange_cases (slotAddr s.tix.fetchIndex 1 s) (setArbiter s.path.arbiter.grantFetch s) with e | e <;>
        rw [e] <;> exact h.congr rfl rfl)

theorem makeGrant_storeOk (g : Grant) {s : State} (h : StoreOk s) : StoreOk (makeGrant g s) := by
  cases g
  · exact drainQueue_storeOk true h
  · exact drainQueue_storeOk false h
  · exact grantFetchRead_storeOk h
  · exact h.congr rfl rfl

theorem grantUntil_storeOk (want : Party) (n : Nat) {s : State} (h : StoreOk s) : StoreOk (grantUntil want n s) := by
  induction n generalizing s with
  | zero => exact h
  | succ n ih =>
    unfold grantUntil
    split
    · exact h
    · split
      · exact makeGrant_storeOk _ h
      · exact ih (makeGrant_storeOk _ h)

theorem granted_storeOk (want : Party) {s : State} (h : StoreOk s) : StoreOk (granted want s) :=
  grantUntil_storeOk _ _ h

end Sys2Proof.Machine
end

