-- ==== Sys2Proof/Laws/Bus.lean ====
section
/-! SUPPORT. What the grants of R191 can do: they leave the working values, the marks, the line and every ticket as
they are, and the latest value of every word. -/

namespace Sys2Proof.Machine

/-! ### The frame of a grant -/

/-- What a grant leaves alone. -/
structure Granted (s t : State) : Prop where
  shadow : t.path.shadow = s.path.shadow
  written : t.path.written = s.path.written
  straps : t.path.straps = s.path.straps
  startPos : t.path.startPos = s.path.startPos
  phaseReport : t.path.phaseReport = s.path.phaseReport
  table : t.tix.table = s.tix.table
  fetchIndex : t.tix.fetchIndex = s.tix.fetchIndex
  retireIndex : t.tix.retireIndex = s.tix.retireIndex
  waiting : t.tix.waiting = s.tix.waiting
  low : t.tix.low = s.tix.low
  line : sameLine s t
  port : t.port = s.port
  pending : t.pending = s.pending
  staging : t.rep.staging = s.rep.staging
  writeIndex : t.rep.writeIndex = s.rep.writeIndex
  writeSlot : t.rep.writeSlot = s.rep.writeSlot

namespace Granted

theorem refl (s : State) : Granted s s :=
  ⟨rfl, rfl, rfl, rfl, rfl, rfl, rfl, rfl, rfl, rfl, ⟨rfl, rfl, rfl, ⟨rfl, rfl, rfl, rfl, rfl⟩, rfl, rfl⟩, rfl, rfl,
    rfl, rfl, rfl⟩

theorem trans {s t u : State} (h : Granted s t) (k : Granted t u) : Granted s u := by
  obtain ⟨p1, p2, p3, ⟨p4, p5, p6, p7, p8⟩, p9, p10⟩ := h.line
  obtain ⟨q1, q2, q3, ⟨q4, q5, q6, q7, q8⟩, q9, q10⟩ := k.line
  exact ⟨k.shadow.trans h.shadow, k.written.trans h.written, k.straps.trans h.straps, k.startPos.trans h.startPos,
    k.phaseReport.trans h.phaseReport, k.table.trans h.table, k.fetchIndex.trans h.fetchIndex,
    k.retireIndex.trans h.retireIndex, k.waiting.trans h.waiting, k.low.trans h.low,
    ⟨q1.trans p1, q2.trans p2, q3.trans p3, ⟨q4.trans p4, q5.trans p5, q6.trans p6, q7.trans p7, q8.trans p8⟩,
      q9.trans p9, q10.trans p10⟩,
    k.port.trans h.port, k.pending.trans h.pending, k.staging.trans h.staging, k.writeIndex.trans h.writeIndex,
    k.writeSlot.trans h.writeSlot⟩

end Granted

/-- A state changed only in the queue, the arbiter, memory, the fetch in progress and the reporter's marks. -/
theorem granted_of_eqs {s t : State} (h1 : t.pins = s.pins) (h2 : t.enc = s.enc) (h3 : t.rd = s.rd)
    (h4 : t.trk = s.trk) (h5 : t.col = s.col) (h6 : t.pln = s.pln) (h7 : t.tr = s.tr) (h8 : t.acc = s.acc)
    (h9 : t.rel = s.rel) (h10 : t.seq = s.seq) (h11 : t.port = s.port) (h12 : t.pending = s.pending)
    (h13 : t.path.shadow = s.path.shadow) (h14 : t.path.written = s.path.written)
    (h15 : t.path.straps = s.path.straps) (h16 : t.path.startPos = s.path.startPos)
    (h17 : t.path.phaseReport = s.path.phaseReport) (h18 : t.tix.table = s.tix.table)
    (h19 : t.tix.fetchIndex = s.tix.fetchIndex) (h20 : t.tix.retireIndex = s.tix.retireIndex)
    (h21 : t.tix.waiting = s.tix.waiting) (h22 : t.tix.low = s.tix.low) (h23 : t.rep.staging = s.rep.staging)
    (h24 : t.rep.writeIndex = s.rep.writeIndex) (h25 : t.rep.writeSlot = s.rep.writeSlot) : Granted s t :=
  ⟨h13, h14, h15, h16, h17, h18, h19, h20, h21, h22, ⟨h1, h2, h3, ⟨h4, h5, h6, h8, h9⟩, h7, h10⟩, h11, h12, h23, h24,
    h25⟩

theorem drainQueue_granted (b : Bool) (s : State) : Granted s (drainQueue b s) := by
  unfold drainQueue
  split
  · exact .refl s
  · exact granted_of_eqs rfl rfl rfl rfl rfl rfl rfl rfl rfl rfl rfl rfl rfl rfl rfl rfl rfl rfl rfl rfl rfl rfl rfl
      rfl rfl

/-- Everything a fetch read's grant can do to the state: the fetch goes on, and RANGE may be latched. -/
theorem grantFetchRead_cases (s : State) :
    (fetchDue s = false ∧ grantFetchRead s = s) ∨
    ∃ f : Fetch, ∃ t : State, (t = setArbiter s.path.arbiter.grantFetch s
        ∨ t = latch .range (setArbiter s.path.arbiter.grantFetch s)) ∧ f ≠ s.tix.fetch ∧
      grantFetchRead s = setFetch f t := by
  unfold grantFetchRead fetchDue
  cases h : s.tix.fetch with
  | due0 =>
    right
    exact ⟨_, _, ownRange_cases _ _, by simp, rfl⟩
  | due1 w0 =>
    right
    exact ⟨_, _, ownRange_cases _ _, by simp, rfl⟩
  | idle => exact .inl ⟨rfl, rfl⟩
  | flight0 d => exact .inl ⟨rfl, rfl⟩
  | flight1 w0 d => exact .inl ⟨rfl, rfl⟩

theorem grantFetchRead_granted (s : State) : Granted s (grantFetchRead s) := by
  rcases grantFetchRead_cases s with ⟨-, e⟩ | ⟨f, t, rfl | rfl, -, e⟩
  · rw [e]; exact .refl s
  all_goals
    rw [e]
    exact granted_of_eqs rfl rfl rfl rfl rfl rfl rfl rfl rfl rfl rfl rfl rfl rfl rfl rfl rfl rfl rfl rfl rfl rfl rfl
      rfl rfl

theorem makeGrant_granted (g : Grant) (s : State) : Granted s (makeGrant g s) := by
  cases g
  · exact drainQueue_granted true s
  · exact drainQueue_granted false s
  · exact grantFetchRead_granted s
  · exact granted_of_eqs rfl rfl rfl rfl rfl rfl rfl rfl rfl rfl rfl rfl rfl rfl rfl rfl rfl rfl rfl rfl rfl rfl rfl
      rfl rfl

theorem grantUntil_granted (want : Party) (n : Nat) (s : State) : Granted s (grantUntil want n s) := by
  induction n generalizing s with
  | zero => exact .refl s
  | succ n ih =>
    unfold grantUntil
    split
    · exact .refl s
    · split
      · exact makeGrant_granted _ s
      · exact (makeGrant_granted _ s).trans (ih _)

/-- Whatever grants R191 puts before a party's own, and that one with them, are such grants. -/
theorem granted_granted (want : Party) (s : State) : Granted s (granted want s) := grantUntil_granted want _ s

theorem Granted.setup {s t : State} (h : Granted s t) (n : Nat) : t.setup n = s.setup n := setup_congr h.shadow n
theorem Granted.setupN {s t : State} (h : Granted s t) (n : Nat) : t.setupN n = s.setupN n := setupN_congr h.shadow n
theorem Granted.top {s t : State} (h : Granted s t) : t.top = s.top := top_congr h.straps
theorem Granted.base {s t : State} (h : Granted s t) : t.base = s.base := base_congr h.straps

/-! ### The latest values -/

theorem latestValue_eq (a : Word) (s : State) :
    latestValue a s = (queued a s.path.queue).getD (Memory.readWord a.toNat s.mem) := rfl

theorem latestValue_congr {s t : State} (hq : t.path.queue = s.path.queue) (hm : t.mem = s.mem) (a : Word) :
    latestValue a t = latestValue a s := by rw [latestValue_eq, latestValue_eq, hq, hm]

theorem drainQueue_latestValue (b : Bool) {s : State} (h : StoreOk s) (hin : EntriesIn s) {a : Word}
    (ha : wordIn a s) : latestValue a (drainQueue b s) = latestValue a s := by
  unfold drainQueue
  split
  · rfl
  · rename_i q qs e
    have hn := h.nodup
    rw [e] at hn
    have hnot : q.addr ∉ addrs qs := (List.nodup_cons.1 hn).1
    have hq := hin q (by rw [e]; exact List.mem_cons_self)
    rw [latestValue_eq, latestValue_eq, e]
    simp only [setQueue_path_queue, setQueue_mem, setArbiter_mem, queued_cons]
    split
    · rename_i heq
      rw [← heq, queued_none_iff.2 hnot]
      exact Memory.readWord_writeWord _ _ h.wf
    · rename_i hne
      have hd : a.toNat ≠ q.addr.toNat := fun x => hne (BitVec.eq_of_toNat_eq x.symm)
      rw [Memory.readWord_writeWord_apart]
      have h1 := hq.1
      have h2 := ha.1
      omega

theorem grantFetchRead_latestValue (s : State) (a : Word) : latestValue a (grantFetchRead s) = latestValue a s := by
  rcases grantFetchRead_cases s with ⟨-, e⟩ | ⟨f, t, rfl | rfl, -, e⟩ <;> rw [e] <;> rfl

theorem drainQueue_entriesIn (b : Bool) {s : State} (hin : EntriesIn s) : EntriesIn (drainQueue b s) := by
  unfold drainQueue
  split
  · exact hin
  · rename_i q qs e
    intro x hx
    exact hin x (by rw [e]; exact List.mem_cons_of_mem _ hx)

theorem makeGrant_entriesIn (g : Grant) {s : State} (hin : EntriesIn s) : EntriesIn (makeGrant g s) := by
  cases g
  · exact drainQueue_entriesIn true hin
  · exact drainQueue_entriesIn false hin
  · change EntriesIn (grantFetchRead s)
    rcases grantFetchRead_cases s with ⟨-, e⟩ | ⟨f, t, rfl | rfl, -, e⟩ <;> rw [e] <;> exact hin
  · exact hin

theorem makeGrant_latestValue (g : Grant) {s : State} (h : StoreOk s) (hin : EntriesIn s) {a : Word}
    (ha : wordIn a s) : latestValue a (makeGrant g s) = latestValue a s := by
  cases g
  · exact drainQueue_latestValue true h hin ha
  · exact drainQueue_latestValue false h hin ha
  · exact grantFetchRead_latestValue s a
  · rfl

theorem grantUntil_latestValue (want : Party) (n : Nat) {s : State} (h : StoreOk s) (hin : EntriesIn s) {a : Word}
    (ha : wordIn a s) :
    latestValue a (grantUntil want n s) = latestValue a s ∧ EntriesIn (grantUntil want n s) := by
  induction n generalizing s with
  | zero => exact ⟨rfl, hin⟩
  | succ n ih =>
    unfold grantUntil
    split
    · exact ⟨rfl, hin⟩
    · split
      · exact ⟨makeGrant_latestValue _ h hin ha, makeGrant_entriesIn _ hin⟩
      · rename_i g _ _
        have htop : (makeGrant g s).top = s.top := (makeGrant_granted g s).top
        have hi := ih (makeGrant_storeOk g h) (makeGrant_entriesIn g hin) ⟨ha.1, by rw [htop]; exact ha.2⟩
        exact ⟨hi.1.trans (makeGrant_latestValue g h hin ha), hi.2⟩

/-- R188: no grant changes what software reads of a word. -/
theorem granted_latestValue (want : Party) {s : State} (h : StoreOk s) (hin : EntriesIn s) {a : Word}
    (ha : wordIn a s) : latestValue a (granted want s) = latestValue a s :=
  (grantUntil_latestValue want _ h hin ha).1

theorem granted_entriesIn (want : Party) {s : State} (h : StoreOk s) (hin : EntriesIn s) :
    EntriesIn (granted want s) := by
  by_cases hq : s.path.queue = []
  · by_cases ht : 0 < s.top
    · exact (grantUntil_latestValue want _ h hin (a := 0) ⟨rfl, ht⟩).2
    · exact absurd (by unfold State.top memTopOf; positivity) ht
  · obtain ⟨e, es, he⟩ := List.exists_cons_of_ne_nil hq
    exact (grantUntil_latestValue want _ h hin (hin e (by rw [he]; exact List.mem_cons_self))).2

/-! ### Recorded events -/

/-- Everything an offered event can do: the reporter's staging, sequence number, count of lost records and due marks
change, and nothing else. -/
theorem offer_cases (e : Event) (s : State) :
    ∃ r : Reporter, offer e s = { s with rep := r } ∧ r.writeIndex = s.rep.writeIndex ∧
      r.writeSlot = s.rep.writeSlot ∧ r.latched = s.rep.latched ∧ r.snapCount = s.rep.snapCount ∧
      r.snapDue = s.rep.snapDue ∧ r.snapValues = s.rep.snapValues ∧ r.snapPlaced = s.rep.snapPlaced := by
  unfold offer stage
  split
  · split
    · split <;> exact ⟨_, rfl, rfl, rfl, rfl, rfl, rfl, rfl, rfl⟩
    · split <;> exact ⟨_, rfl, rfl, rfl, rfl, rfl, rfl, rfl, rfl⟩
  · exact ⟨_, rfl, rfl, rfl, rfl, rfl, rfl, rfl, rfl⟩

end Sys2Proof.Machine
end

