-- ==== Sys2Proof/Laws/Keeps.lean ====
section
/-! SUPPORT. What the line's own blocks leave alone. `Keeps s t` says that `t` was reached from `s` without
touching the inputs, the counters, the memory path, the ring indexes or the port, that the line's conditions
(LineOk, StageOk) still hold if they held, and that FAULT has not been left. One lemma for each operation. -/

namespace Sys2Proof.Machine

/-- What the line's own blocks never change. -/
structure Fixed where
  pins : Pins
  web : Word
  belt : Word
  msClock : Word
  history : List Word
  vm : Nat
  command : Word
  straps : Straps
  written : List Bool
  queue : List QueueEntry
  arbiter : Arbiter
  startPos : Nat
  fetch : Fetch
  fetchAmended : Option Bool
  fetchIndex : Index
  retireIndex : Index
  retired : List Serial
  tickets : List (Index × Serial × BitVec 8 × Nat × FoldStyle × DivertClass × Option InvalidReason)
  startup : Bool
  outcome : Option CommandOutcome
  writeIndex : Index
  writeSlot : Nat
  snapCount : Nat
  snapDue : Bool
  snapValues : List Word
  snapPlaced : List (Option Word)
  port : PortAnswer
  mem : Memory
  pending : List Instr

/-- The fixed part of a state. -/
def State.fixed (s : State) : Fixed :=
  { pins := s.pins, web := s.enc.web, belt := s.enc.belt, msClock := s.enc.msClock, history := s.enc.history
    vm := s.enc.vm, command := s.tr.command, straps := s.path.straps, written := s.path.written
    queue := s.path.queue, arbiter := s.path.arbiter, startPos := s.path.startPos, fetch := s.tix.fetch
    fetchAmended := s.tix.fetchAmended, fetchIndex := s.tix.fetchIndex, retireIndex := s.tix.retireIndex
    retired := s.tix.retired, tickets := s.tix.table.map Ticket.fetched, startup := s.seq.startupComplete
    outcome := s.seq.outcome, writeIndex := s.rep.writeIndex, writeSlot := s.rep.writeSlot
    snapCount := s.rep.snapCount, snapDue := s.rep.snapDue, snapValues := s.rep.snapValues
    snapPlaced := s.rep.snapPlaced, port := s.port, mem := s.mem, pending := s.pending }

/-- The part of a state that LineOk speaks of. -/
def State.moving (s : State) :
    LineState × HaltKind × MoveState × Nat × Nat × Nat × Nat × Bool × Bool × Option Word :=
  (s.seq.line, s.seq.haltKind, s.tr.state, s.tr.speed, s.tr.remainder, s.tr.due, s.tr.emitted,
    s.tr.driveEnable, s.tr.beltRun, s.tr.targetC)

theorem LineOk_congr {s t : State} (h : t.moving = s.moving) (hs : LineOk s) : LineOk t := by
  simp only [State.moving, Prod.mk.injEq] at h
  obtain ⟨h1, h2, h3, h4, h5, h6, h7, h8, h9, h10⟩ := h
  simp only [LineOk, haltKindOk, figuresOk, faultTargetOk] at hs ⊢
  rw [h1, h2, h3, h4, h5, h6, h7, h8, h9, h10]
  exact hs

/-- See the head of the file. The working values stay too. -/
structure Keeps (s t : State) : Prop where
  fixed : t.fixed = s.fixed
  shadow : t.path.shadow = s.path.shadow
  line : LineOk s → LineOk t
  fault : s.seq.line = .fault → t.seq.line = .fault
  stage : StageOk s → StageOk t

namespace Keeps

theorem refl (s : State) : Keeps s s := ⟨rfl, rfl, id, id, id⟩

theorem trans {s t u : State} (h : Keeps s t) (k : Keeps t u) : Keeps s u :=
  ⟨k.fixed.trans h.fixed, k.shadow.trans h.shadow, k.line ∘ h.line, k.fault ∘ h.fault, k.stage ∘ h.stage⟩

/-- An update of nothing that matters here. -/
theorem upd {s t u : State} (h : Keeps s t) (hf : u.fixed = t.fixed) (hs : u.path.shadow = t.path.shadow)
    (hm : u.moving = t.moving) (hg : u.rep.staging = t.rep.staging) : Keeps s u :=
  h.trans ⟨hf, hs, LineOk_congr hm, fun e => (congrArg Prod.fst hm).trans e, fun k => by
    have e : u.seq.startupComplete = t.seq.startupComplete := congrArg Fixed.startup hf
    simpa only [StageOk, hg, e] using k⟩

/-- The same for an update written out as a record. -/
theorem set {s t : State} {enc : Encoder} {rd : Reader} {trk : Tracking} {tix : TicketUnit} {col : Collator}
    {pln : Planner} {tr : Transport} {acc : Accumulator} {rel : ReleaseUnit} {seq : Sequencer} {rep : Reporter}
    (h : Keeps s t)
    (hf : ({ t with enc := enc, rd := rd, trk := trk, tix := tix, col := col, pln := pln, tr := tr, acc := acc,
                    rel := rel, seq := seq, rep := rep } : State).fixed = t.fixed)
    (hm : ({ t with enc := enc, rd := rd, trk := trk, tix := tix, col := col, pln := pln, tr := tr, acc := acc,
                    rel := rel, seq := seq, rep := rep } : State).moving = t.moving)
    (hg : rep.staging = t.rep.staging) :
    Keeps s { t with enc := enc, rd := rd, trk := trk, tix := tix, col := col, pln := pln, tr := tr, acc := acc,
                     rel := rel, seq := seq, rep := rep } := h.upd hf rfl hm hg

end Keeps

/-- The same of a step of the web, but that a calibration it ends may change the working value of setup word 12. -/
structure KeepsWeb (s t : State) : Prop where
  fixed : t.fixed = s.fixed
  shadow : t.path.shadow = s.path.shadow ∨ ∃ p, p < 12 ∧ t.path.shadow = s.path.shadow.set 12 (word p)
  line : LineOk s → LineOk t
  fault : s.seq.line = .fault → t.seq.line = .fault
  stage : StageOk s → StageOk t

theorem Keeps.web {s t : State} (h : Keeps s t) : KeepsWeb s t := ⟨h.fixed, .inl h.shadow, h.line, h.fault, h.stage⟩

theorem KeepsWeb.trans {s t u : State} (h : KeepsWeb s t) (k : Keeps t u) : KeepsWeb s u :=
  ⟨k.fixed.trans h.fixed, by rw [k.shadow]; exact h.shadow, k.line ∘ h.line, k.fault ∘ h.fault, k.stage ∘ h.stage⟩

/-- One due mark changed at most: nothing else. -/
theorem hand_keeps {s t : State} (ws : List Nat) (a : State) (h : Keeps s t) : Keeps s (hand ws a t) :=
  h.upd rfl rfl rfl rfl


theorem stage_keeps (e : Event) (s : State) : Keeps s (stage e s) := by
  unfold stage
  split
  · rename_i hc
    split
    · rename_i hl
      refine ⟨rfl, rfl, LineOk_congr rfl, id, fun h => ⟨?_, fun hn => ?_⟩⟩
      · simp only [hand, List.length_append, List.length_singleton]; omega
      · simp only [hand] at hn; simp_all
    · exact hand_keeps _ _ ((Keeps.refl s).upd rfl rfl rfl rfl)
  · split
    · rename_i hl
      refine ⟨rfl, rfl, LineOk_congr rfl, id, fun h => ⟨?_, fun hn => ?_⟩⟩
      · simp only [List.length_append, List.length_singleton]
        have : Config.heldCapacity + 1 = Config.stagingCapacity := rfl
        omega
      · simp only [List.length_append, List.length_singleton]; omega
    · exact hand_keeps _ _ ((Keeps.refl s).upd rfl rfl rfl rfl)

theorem offer_keeps (e : Event) (s : State) : Keeps s (offer e s) := by
  unfold offer
  split
  · exact stage_keeps e s
  · exact .refl s

theorem latch_keeps (c : Cause) (s : State) : Keeps s (latch c s) :=
  hand_keeps _ _ ((Keeps.refl s).upd rfl rfl rfl rfl)

theorem editSheet_keeps (s : State) (a : Word) (f : Sheet → Sheet) : Keeps s (s.editSheet a f) :=
  (Keeps.refl s).upd rfl rfl rfl rfl

theorem editTicket_keeps (s : State) (r : Index) (f : Ticket → Ticket) (h : ∀ t, (f t).fetched = t.fetched) :
    Keeps s (s.editTicket r f) := by
  refine ⟨?_, rfl, LineOk_congr rfl, id, id⟩
  have e : (s.tix.table.map fun x => if x.ring = r then f x else x).map Ticket.fetched
      = s.tix.table.map Ticket.fetched := by
    rw [List.map_map]
    refine List.map_congr_left fun x _ => ?_
    simp only [Function.comp]
    split
    · exact h x
    · rfl
  simp only [State.fixed, State.editTicket, e]

/-! ### The line -/

theorem startDivert_keeps (s : State) : Keeps s (startDivert s) := hand_keeps _ _ ((Keeps.refl s).upd rfl rfl rfl rfl)

theorem startFold_keeps (r : SetRecord) (s : State) : Keeps s (startFold r s) :=
  hand_keeps _ _ ((Keeps.refl s).upd rfl rfl rfl rfl)

theorem releaseTest_keeps (s : State) : Keeps s (releaseTest s) := by
  unfold releaseTest
  repeat' split
  all_goals first
    | exact startDivert_keeps s
    | exact startFold_keeps _ s
    | exact .refl s

theorem holdReasonFor_keeps (ring : Index) (reason : Reason) (s : State) : Keeps s (holdReasonFor ring reason s) := by
  unfold holdReasonFor
  split
  · refine Keeps.trans ?_ (releaseTest_keeps _)
    exact hand_keeps _ _ ((Keeps.refl s).upd rfl rfl rfl rfl)
  · exact .refl s

theorem holdReasonTest_keeps (s : State) : Keeps s (holdReasonTest s) := by
  unfold holdReasonTest
  dsimp only
  split
  · refine Keeps.trans ?_ (latch_keeps _ _)
    exact hand_keeps _ _ ((Keeps.refl s).upd rfl rfl rfl rfl)
  · exact hand_keeps _ _ ((Keeps.refl s).upd rfl rfl rfl rfl)

theorem parkTest_keeps (s : State) : Keeps s (parkTest s) := by
  unfold parkTest
  dsimp only
  split
  · exact (holdReasonTest_keeps s).trans (latch_keeps _ _)
  · exact holdReasonTest_keeps s

/-- The line state and the halt kind replaced. -/
def State.setLine (s : State) (new : LineState) (kind : HaltKind) : State :=
  { s with seq := { s.seq with line := new, haltKind := kind } }

theorem setLine_keeps {s : State} (new : LineState) (kind : HaltKind) (hl : LineOk s → LineOk (s.setLine new kind))
    (hf : s.seq.line = .fault → new = .fault) : Keeps s (s.setLine new kind) := ⟨rfl, rfl, hl, hf, id⟩

theorem changeLine_keeps {s : State} (new : LineState) (kind : HaltKind)
    (hl : LineOk s → LineOk (s.setLine new kind)) (hf : s.seq.line = .fault → new = .fault) :
    Keeps s (changeLine new kind s) := by
  have h : Keeps s (offer (.lineState new (some s.seq.line) kind) (hand [0] s (s.setLine new kind))) :=
    (hand_keeps _ _ (setLine_keeps new kind hl hf)).trans (offer_keeps _ _)
  unfold changeLine
  dsimp only
  split
  · exact h.trans (releaseTest_keeps _)
  · exact h

/-- A change of line state between two states with the same outputs keeps LineOk. -/
theorem LineOk_setLine {s : State} {new : LineState} {kind : HaltKind}
    (hk : kind = .none ∨ new = .halting ∨ new = .halted) (hd : ∀ m, driveLevel new m = driveLevel s.seq.line m)
    (hb : beltLevel new = beltLevel s.seq.line) (hm : ∀ m, moveOk s.seq.line m = true → moveOk new m = true)
    (hn : new ≠ .fault) (h : LineOk s) : LineOk (s.setLine new kind) := by
  obtain ⟨-, h2, h3, h4, h5, -⟩ := h
  refine ⟨?_, ?_, ?_, hm _ h4, h5, ?_⟩
  · rcases hk with rfl | rfl | rfl <;> simp [haltKindOk, State.setLine]
    split <;> simp
  · rw [← hd] at h2
    exact h2
  · exact h3.trans hb.symm
  · simp [faultTargetOk, State.setLine, hn]

/-- The line states among which the outputs do not change: REGISTER, RUN, HALTING and HALTED. -/
def LineState.onWeb : LineState → Bool
  | .register | .run | .halting | .halted => true
  | .idle | .calibrate | .fault => false

theorem changeLine_onWeb {s : State} {new : LineState} {kind : HaltKind} (ho : s.seq.line.onWeb = true)
    (hn : new.onWeb = true) (hk : kind = .none ∨ new = .halting ∨ new = .halted) :
    Keeps s (changeLine new kind s) := by
  refine changeLine_keeps new kind (LineOk_setLine hk ?_ ?_ ?_ ?_) ?_ <;>
    revert ho hn <;> cases s.seq.line <;> cases new <;> simp [LineState.onWeb, driveLevel, beltLevel, moveOk]

theorem haltComplete_keeps {s : State} (h : s.seq.line = .halting) : Keeps s (haltComplete s) :=
  (changeLine_onWeb (by rw [h]; rfl) rfl (.inr (.inr rfl))).trans (latch_keeps _ _)

theorem reportMet_keeps (s : State) : Keeps s (reportMet s) := by
  have k : Keeps s { s with tr := { s.tr with metTold := true }, pln := { s.pln with parked := true } } :=
    (Keeps.refl s).upd rfl rfl rfl rfl
  have k2 : Keeps s (if s.pln.cause.halts && decide (s.seq.line = .halting) then
      haltComplete { s with tr := { s.tr with metTold := true }, pln := { s.pln with parked := true } }
      else { s with tr := { s.tr with metTold := true }, pln := { s.pln with parked := true } }) := by
    split
    · rename_i hc
      simp only [Bool.and_eq_true, decide_eq_true_eq] at hc
      exact k.trans (haltComplete_keeps hc.2)
    · exact k
  unfold reportMet
  dsimp only
  split
  · exact k2
  · exact k2.trans (parkTest_keeps _)

theorem targetMet_keeps {s : State} (h : LineOk s → s.seq.line ≠ .fault) : Keeps s (targetMet s) := by
  have k1 : Keeps s (hand [0] s { s with
      tr := { s.tr with state := .still, speed := 0, remainder := 0, due := s.tr.emitted } }) := by
    refine hand_keeps _ _ ⟨rfl, rfl, fun ok => ?_, id, id⟩
    have hf := h ok
    obtain ⟨h1, h2, h3, h4, h5, h6⟩ := ok
    refine ⟨h1, ?_, h3, ?_, ?_, h6⟩
    · rw [h2]
      revert hf
      dsimp only
      cases s.seq.line <;> simp [driveLevel]
    · revert hf
      dsimp only
      cases s.seq.line <;> simp [moveOk]
    · simp [figuresOk]
  unfold targetMet
  dsimp only
  split
  · exact k1.trans (reportMet_keeps _)
  · exact k1

theorem firstFault_keeps (f : LineFault) (flag : Bool) (detail : Word) {s : State} (_h : s.seq.line ≠ .fault) :
    Keeps s (firstFault f flag detail s) := by
  have k : Keeps s (if f.immediate then orderImmediate (faultBlocks (faultSequencer f s))
      else orderRamp (faultBlocks (faultSequencer f s))) := by
    refine ⟨?_, ?_, fun ok => ?_, fun _ => ?_, fun st => ?_⟩
    · unfold orderImmediate orderRamp immediateStop
      repeat' split
      all_goals rfl
    · unfold orderImmediate orderRamp immediateStop
      repeat' split
      all_goals rfl
    · obtain ⟨h1, h2, h3, h4, h5, h6⟩ := ok
      unfold orderImmediate orderRamp immediateStop
      repeat' split
      all_goals
        cases hl : s.seq.line <;> simp_all [LineOk, haltKindOk, figuresOk, faultTargetOk, faultBlocks, faultSequencer, clearPlanner, hand,
          driveLevel, beltLevel, moveOk]
    · unfold orderImmediate orderRamp immediateStop
      repeat' split
      all_goals rfl
    · have : ∀ (t : State), t.rep.staging = s.rep.staging → t.seq.startupComplete = s.seq.startupComplete →
          StageOk t := fun t e1 e2 => by simpa only [StageOk, e1, e2] using st
      unfold orderImmediate orderRamp immediateStop
      repeat' split
      all_goals exact this _ rfl rfl
  unfold firstFault
  exact ((k.trans (offer_keeps _ _)).trans (latch_keeps _ _)).trans (offer_keeps _ _)

theorem addedFault_keeps (f : LineFault) (flag : Bool) (detail : Word) {s : State} (h : s.seq.line = .fault) :
    Keeps s (addedFault f flag detail s) := by
  have k : Keeps s (offer (.faultAdded f (min 255 (s.seq.added + 1)) flag s.enc.web detail)
      (hand [1] s { s with seq := { s.seq with added := min 255 (s.seq.added + 1) } })) := by
    refine Keeps.trans ?_ (offer_keeps _ _)
    exact hand_keeps _ _ ((Keeps.refl s).upd rfl rfl rfl rfl)
  unfold addedFault
  dsimp only
  split
  · refine k.trans ?_
    have hf := k.fault h
    refine ⟨?_, ?_, fun ok => ?_, fun _ => ?_, fun st => ?_⟩
    · unfold orderImmediate immediateStop
      split <;> rfl
    · unfold orderImmediate immediateStop
      split <;> rfl
    · obtain ⟨h1, h2, h3, h4, h5, h6⟩ := ok
      unfold orderImmediate immediateStop
      split <;> simp_all [LineOk, haltKindOk, figuresOk, faultTargetOk, hand, driveLevel, beltLevel, moveOk]
    · unfold orderImmediate immediateStop
      split <;> exact hf
    · unfold orderImmediate immediateStop
      split <;> exact st
  · exact k

theorem takeFault_keeps (f : LineFault) (flag : Bool) (detail : Word) (s : State) :
    Keeps s (takeFault f flag detail s) := by
  unfold takeFault
  split
  · exact .refl s
  · split
    · rename_i h
      exact addedFault_keeps f flag detail h
    · rename_i h
      exact firstFault_keeps f flag detail h

theorem changeLine_at_rest {new : LineState} (h : new.running = false) (kind : HaltKind) (s : State) :
    changeLine new kind s = offer (.lineState new (some s.seq.line) kind) (hand [0] s (s.setLine new kind)) := by
  simp only [changeLine, h]
  rfl

/-- The line returns to IDLE from any state but FAULT. -/
theorem enterIdle_keeps {s : State} (h : s.seq.line ≠ .fault) : Keeps s (enterIdle s) := by
  unfold enterIdle
  dsimp only
  rw [changeLine_at_rest rfl]
  refine Keeps.trans ?_ (offer_keeps _ _)
  refine ⟨?_, ?_, fun ok => ?_, fun e => absurd e h, fun st => ?_⟩
  · unfold immediateStop
    split <;> rfl
  · unfold immediateStop
    split <;> rfl
  · obtain ⟨h1, h2, h3, h4, h5, h6⟩ := ok
    simp only [figuresOk] at h5
    unfold immediateStop
    split <;> simp_all [LineOk, haltKindOk, figuresOk, faultTargetOk, hand, clearPlanner, driveLevel, beltLevel,
      moveOk, State.setLine]
  · unfold immediateStop
    split <;> exact st

/-! ### The hold planner and the nip -/

theorem chooseHalt_keeps (c : List Sheet) (s : State) : Keeps s (chooseHalt c s) := by
  unfold chooseHalt
  try dsimp only
  repeat' split
  all_goals iterate 9 try first
    | with_reducible exact Keeps.refl _
    | assumption
    | with_reducible refine hand_keeps _ _ ?_
    | refine Keeps.set ?_ rfl rfl rfl

theorem requestHalt_keeps (kind : HaltKind) (s : State) : Keeps s (requestHalt kind s) := by
  unfold requestHalt
  try dsimp only
  repeat' split
  all_goals iterate 9 try first
    | with_reducible exact Keeps.refl _
    | assumption
    | with_reducible refine Keeps.trans ?_ (chooseHalt_keeps ..)
    | with_reducible refine hand_keeps _ _ ?_
    | refine Keeps.set ?_ rfl rfl rfl

theorem haltAtCreation_keeps (r : Sheet) (s : State) : Keeps s (haltAtCreation r s) := by
  unfold haltAtCreation
  try dsimp only
  repeat' split
  all_goals iterate 9 try first
    | with_reducible exact Keeps.refl _
    | assumption
    | with_reducible refine Keeps.trans ?_ (chooseHalt_keeps ..)
    | with_reducible refine hand_keeps _ _ ?_
    | refine Keeps.set ?_ rfl rfl rfl

theorem haltAtSettle_keeps (a : Word) (s : State) : Keeps s (haltAtSettle a s) := by
  unfold haltAtSettle
  try dsimp only
  repeat' split
  all_goals iterate 9 try first
    | with_reducible exact Keeps.refl _
    | assumption
    | with_reducible refine Keeps.trans ?_ (chooseHalt_keeps ..)
    | with_reducible refine hand_keeps _ _ ?_
    | refine Keeps.set ?_ rfl rfl rfl

theorem haltAtAssignment_keeps (a : Word) (p : Nat) (s : State) : Keeps s (haltAtAssignment a p s) := by
  unfold haltAtAssignment
  try dsimp only
  repeat' split
  all_goals iterate 9 try first
    | with_reducible exact Keeps.refl _
    | assumption
    | with_reducible refine Keeps.trans ?_ (chooseHalt_keeps ..)
    | with_reducible refine hand_keeps _ _ ?_
    | refine Keeps.set ?_ rfl rfl rfl

theorem haltAtReanchor_keeps (a d : Word) (s : State) : Keeps s (haltAtReanchor a d s) := by
  unfold haltAtReanchor
  try dsimp only
  repeat' split
  all_goals iterate 9 try first
    | with_reducible exact Keeps.refl _
    | assumption
    | with_reducible refine hand_keeps _ _ ?_
    | refine Keeps.set ?_ rfl rfl rfl

theorem taking_keeps (o : Option Word) {s : State} (h : s.seq.line ≠ .fault) : Keeps s (s.taking o) := by
  refine ⟨rfl, rfl, fun ok => ?_, id, id⟩
  obtain ⟨h1, h2, h3, h4, h5, -⟩ := ok
  exact ⟨h1, h2, h3, h4, h5, decide_eq_true fun e => absurd e h⟩

theorem takeTarget_keeps (old new : Option Word) {s : State} (h : s.seq.line ≠ .fault) :
    Keeps s (takeTarget old new s) := by
  have k : Keeps s { s with tr := { s.tr with metTold := false } } := (Keeps.refl s).upd rfl rfl rfl rfl
  unfold takeTarget
  dsimp only
  repeat' split
  all_goals first
    | exact k
    | exact (k.trans (taking_keeps _ h)).trans (targetMet_keeps fun _ => h)
    | exact k.trans (taking_keeps _ h)

theorem retell_keeps (c : StopCause) (s : State) : Keeps s (retell c s) := by
  unfold retell
  split
  · exact (Keeps.refl s).upd rfl rfl rfl rfl
  · exact .refl s

theorem retell_line (c : StopCause) (s : State) : (retell c s).seq.line = s.seq.line := by
  unfold retell
  split <;> rfl

theorem running_ne_fault {l : LineState} (h : l.running = true) : l ≠ .fault := by
  rintro rfl
  simp [LineState.running] at h

theorem refreshOnce_keeps (s : State) : Keeps s (refreshOnce s) := by
  unfold refreshOnce
  dsimp only
  by_cases h : s.seq.line.running = true
  · have hn := running_ne_fault h
    rw [if_pos h]
    have k : Keeps s ((retell (planNow s).cause s).setPlanner (planNow s)) :=
      (retell_keeps _ s).upd rfl rfl rfl rfl
    split
    · exact k
    · exact k.trans (takeTarget_keeps _ _ ((retell_line _ s).trans_ne hn))
  · rw [if_neg h]
    exact .refl s

theorem refresh_keeps (s : State) : Keeps s (refresh s) := (refreshOnce_keeps s).trans (refreshOnce_keeps _)

theorem separateFired_keeps (n : Nat) (s : State) : Keeps s (separateFired n s) := by
  induction n generalizing s with
  | zero => exact .refl s
  | succ n ih =>
    unfold separateFired
    repeat' split
    · exact .refl s
    · exact (editSheet_keeps _ _ _).trans (ih _)
    · exact .refl s

theorem goSheet_keeps (r : Sheet) (s : State) : Keeps s (goSheet r s) := by
  unfold goSheet
  try dsimp only
  repeat' split
  all_goals iterate 9 try first
    | with_reducible exact Keeps.refl _
    | assumption
    | with_reducible refine Keeps.trans ?_ (editSheet_keeps ..)
    | with_reducible refine Keeps.trans ?_ (separateFired_keeps ..)
    | with_reducible refine hand_keeps _ _ ?_
    | refine Keeps.set ?_ rfl rfl rfl

theorem fireFor_keeps (n : Nat) (s : State) : Keeps s (fireFor n s) := by
  induction n generalizing s with
  | zero => exact .refl s
  | succ n ih =>
    unfold fireFor
    repeat' split
    · exact .refl s
    · exact ((goSheet_keeps _ _).trans (refresh_keeps _)).trans (ih _)
    · exact .refl s

theorem fireTest_keeps (s : State) : Keeps s (fireTest s) := fireFor_keeps _ s

theorem settle_keeps (s : State) : Keeps s (settle s) := (refresh_keeps s).trans (fireTest_keeps _)

theorem settleSince_keeps (old s : State) : Keeps s (settleSince old s) := by
  unfold settleSince
  dsimp only
  split
  · exact (refresh_keeps s).trans (fireTest_keeps _)
  · exact refresh_keeps s

theorem ticketsLowTest_keeps (s : State) : Keeps s (ticketsLowTest s) := by
  unfold ticketsLowTest
  try dsimp only
  repeat' split
  all_goals iterate 9 try first
    | with_reducible exact Keeps.refl _
    | assumption
    | with_reducible refine Keeps.trans ?_ (latch_keeps ..)
    | with_reducible refine hand_keeps _ _ ?_
    | refine Keeps.set ?_ rfl rfl rfl

theorem endStep_keeps (s : State) : Keeps s (endStep s) := by
  unfold endStep
  try dsimp only
  all_goals iterate 9 try first
    | with_reducible exact Keeps.refl _
    | assumption
    | with_reducible refine Keeps.trans ?_ (ticketsLowTest_keeps ..)
    | with_reducible refine Keeps.trans ?_ (holdReasonTest_keeps ..)
    | with_reducible refine hand_keeps _ _ ?_
    | refine Keeps.set ?_ rfl rfl rfl

theorem settleEnd_keeps (old s : State) : Keeps s (settleEnd old s) :=
  (settleSince_keeps old s).trans (endStep_keeps _)

/-! ### The accumulator and the collator -/

theorem startDrop_keeps (s : State) : Keeps s (startDrop s) := by
  unfold startDrop
  try dsimp only
  all_goals iterate 9 try first
    | with_reducible exact Keeps.refl _
    | assumption
    | with_reducible refine hand_keeps _ _ ?_
    | refine Keeps.set ?_ rfl rfl rfl

theorem placeSet_keeps (s : State) : Keeps s (placeSet s) := by
  unfold placeSet
  try dsimp only
  repeat' split
  all_goals iterate 9 try first
    | with_reducible exact Keeps.refl _
    | assumption
    | with_reducible refine Keeps.trans ?_ (startDrop_keeps ..)
    | with_reducible refine hand_keeps _ _ ?_
    | refine Keeps.set ?_ rfl rfl rfl

theorem heightCheck_keeps (s : State) : Keeps s (heightCheck s) := by
  unfold heightCheck
  try dsimp only
  repeat' split
  all_goals iterate 9 try first
    | with_reducible exact Keeps.refl _
    | assumption
    | with_reducible refine hand_keeps _ _ ?_
    | refine Keeps.set ?_ rfl rfl rfl

theorem endJog_keeps (s : State) : Keeps s (endJog s) := by
  unfold endJog
  try dsimp only
  all_goals iterate 9 try first
    | with_reducible exact Keeps.refl _
    | assumption
    | with_reducible refine Keeps.trans ?_ (placeSet_keeps ..)
    | with_reducible refine Keeps.trans ?_ (heightCheck_keeps ..)
    | with_reducible refine hand_keeps _ _ ?_
    | refine Keeps.set ?_ rfl rfl rfl

theorem closeSet_keeps (s : State) : Keeps s (closeSet s) := by
  unfold closeSet
  try dsimp only
  repeat' split
  all_goals iterate 9 try first
    | with_reducible exact Keeps.refl _
    | assumption
    | with_reducible refine Keeps.trans ?_ (endJog_keeps ..)
    | with_reducible refine hand_keeps _ _ ?_
    | refine Keeps.set ?_ rfl rfl rfl

theorem closeRequest_keeps (n : Index) (s : State) : Keeps s (closeRequest n s) := by
  unfold closeRequest
  try dsimp only
  repeat' split
  all_goals iterate 9 try first
    | with_reducible exact Keeps.refl _
    | assumption
    | with_reducible refine Keeps.trans ?_ (closeSet_keeps ..)
    | with_reducible refine hand_keeps _ _ ?_
    | refine Keeps.set ?_ rfl rfl rfl

theorem landSheet_keeps (r : Sheet) (s : State) : Keeps s (landSheet r s) := by
  unfold landSheet
  try dsimp only
  repeat' split
  all_goals iterate 9 try first
    | with_reducible exact Keeps.refl _
    | assumption
    | with_reducible refine Keeps.trans ?_ (closeSet_keeps ..)
    | with_reducible refine hand_keeps _ _ ?_
    | refine Keeps.set ?_ rfl rfl rfl

theorem holdTakes_keeps (r : SetRecord) (s : State) : Keeps s (holdTakes r s) := by
  unfold holdTakes
  try dsimp only
  all_goals iterate 9 try first
    | with_reducible exact Keeps.refl _
    | assumption
    | with_reducible refine Keeps.trans ?_ (releaseTest_keeps ..)
    | with_reducible refine hand_keeps _ _ ?_
    | refine Keeps.set ?_ rfl rfl rfl

theorem endDrop_keeps (s : State) : Keeps s (endDrop s) := by
  unfold endDrop
  try dsimp only
  repeat' split
  all_goals iterate 9 try first
    | with_reducible exact Keeps.refl _
    | assumption
    | with_reducible refine Keeps.trans ?_ (holdTakes_keeps ..)
    | with_reducible refine hand_keeps _ _ ?_
    | refine Keeps.set ?_ rfl rfl rfl

theorem holdEmptied_keeps (s : State) : Keeps s (holdEmptied s) := by
  unfold holdEmptied
  try dsimp only
  repeat' split
  all_goals iterate 9 try first
    | with_reducible exact Keeps.refl _
    | assumption
    | with_reducible refine Keeps.trans ?_ (startDrop_keeps ..)
    | with_reducible refine hand_keeps _ _ ?_
    | refine Keeps.set ?_ rfl rfl rfl

theorem buildReasonFor_keeps (ring : Index) (reason : Reason) (s : State) : Keeps s (buildReasonFor ring reason s) := by
  unfold buildReasonFor
  try dsimp only
  all_goals iterate 9 try first
    | with_reducible exact Keeps.refl _
    | assumption
    | with_reducible refine hand_keeps _ _ ?_
    | refine Keeps.set ?_ rfl rfl rfl

theorem addTicketReason_keeps (ring : Index) (reason : Reason) (s : State) : Keeps s (addTicketReason ring reason s) := by
  unfold addTicketReason
  try dsimp only
  all_goals iterate 9 try first
    | with_reducible exact Keeps.refl _
    | assumption
    | with_reducible refine Keeps.trans ?_ (holdReasonFor_keeps ..)
    | with_reducible refine Keeps.trans ?_ (buildReasonFor_keeps ..)
    | with_reducible refine Keeps.trans ?_ (editTicket_keeps _ _ _ fun _ => rfl)
    | with_reducible refine hand_keeps _ _ ?_
    | refine Keeps.set ?_ rfl rfl rfl

theorem foldl_keeps {α : Type} (f : State → α → State) (h : ∀ s x, Keeps s (f s x)) (l : List α) (s : State) :
    Keeps s (l.foldl f s) := by
  induction l generalizing s with
  | nil => exact .refl s
  | cons x l ih => exact (h s x).trans (ih _)

theorem addReasons_keeps (ring : Index) (reasons : BitVec 12) (s : State) : Keeps s (addReasons ring reasons s) := by
  refine foldl_keeps _ (fun s r => ?_) _ _
  split
  · exact .refl s
  · exact addTicketReason_keeps _ _ _

theorem makeDisposition_keeps (o : PieceOutcome) (t : Ticket) (s : State) : Keeps s (makeDisposition o t s) := by
  unfold makeDisposition
  try dsimp only
  all_goals iterate 9 try first
    | with_reducible exact Keeps.refl _
    | assumption
    | with_reducible refine Keeps.trans ?_ (editTicket_keeps _ _ _ fun _ => rfl)
    | with_reducible refine hand_keeps _ _ ?_
    | refine Keeps.set ?_ rfl rfl rfl

theorem disposeIfFinal_keeps (ring : Index) (s : State) : Keeps s (disposeIfFinal ring s) := by
  unfold disposeIfFinal
  try dsimp only
  repeat' split
  all_goals iterate 9 try first
    | with_reducible exact Keeps.refl _
    | assumption
    | with_reducible refine Keeps.trans ?_ (makeDisposition_keeps ..)
    | with_reducible refine hand_keeps _ _ ?_
    | refine Keeps.set ?_ rfl rfl rfl

theorem reportOutcome_keeps (o : Owner) (reasons : BitVec 12) (d : Bool) (s : State) : Keeps s (reportOutcome o reasons d s) := by
  unfold reportOutcome
  try dsimp only
  repeat' split
  all_goals iterate 9 try first
    | with_reducible exact Keeps.refl _
    | assumption
    | with_reducible refine Keeps.trans ?_ (disposeIfFinal_keeps ..)
    | with_reducible refine Keeps.trans ?_ (editTicket_keeps _ _ _ fun _ => rfl)
    | with_reducible refine Keeps.trans ?_ (addReasons_keeps ..)
    | with_reducible refine hand_keeps _ _ ?_
    | refine Keeps.set ?_ rfl rfl rfl

theorem abandonTickets_keeps (s : State) : Keeps s (abandonTickets s) :=
  foldl_keeps _ (fun _ _ => makeDisposition_keeps _ _ _) _ _

theorem assign_keeps (a : Word) (x : Assignment) (e : Bool) (s : State) : Keeps s (assign a x e s) := by
  unfold assign
  try dsimp only
  all_goals iterate 9 try first
    | with_reducible exact Keeps.refl _
    | assumption
    | with_reducible refine Keeps.trans ?_ (haltAtAssignment_keeps ..)
    | with_reducible refine Keeps.trans ?_ (editSheet_keeps ..)
    | with_reducible refine hand_keeps _ _ ?_
    | refine Keeps.set ?_ rfl rfl rfl

theorem endSetAt_keeps (o : OpenSet) (s : State) : Keeps s (endSetAt o s) := by
  unfold endSetAt
  try dsimp only
  repeat' split
  all_goals iterate 9 try first
    | with_reducible exact Keeps.refl _
    | assumption
    | with_reducible refine Keeps.trans ?_ (editSheet_keeps ..)
    | with_reducible refine Keeps.trans ?_ (closeRequest_keeps ..)
    | with_reducible refine hand_keeps _ _ ?_
    | refine Keeps.set ?_ rfl rfl rfl

theorem forgetOpen_keeps (s : State) : Keeps s (forgetOpen s) := by
  unfold forgetOpen
  try dsimp only
  all_goals iterate 9 try first
    | with_reducible exact Keeps.refl _
    | assumption
    | with_reducible refine hand_keeps _ _ ?_
    | refine Keeps.set ?_ rfl rfl rfl

theorem endOpenSet_keeps (s : State) : Keeps s (endOpenSet s) := by
  unfold endOpenSet
  try dsimp only
  repeat' split
  all_goals iterate 9 try first
    | with_reducible exact Keeps.refl _
    | assumption
    | with_reducible refine Keeps.trans ?_ (forgetOpen_keeps ..)
    | with_reducible refine Keeps.trans ?_ (endSetAt_keeps ..)
    | with_reducible refine hand_keeps _ _ ?_
    | refine Keeps.set ?_ rfl rfl rfl

theorem endPurgeSet_keeps (s : State) : Keeps s (endPurgeSet s) := by
  unfold endPurgeSet
  try dsimp only
  repeat' split
  all_goals iterate 9 try first
    | with_reducible exact Keeps.refl _
    | assumption
    | with_reducible refine Keeps.trans ?_ (forgetOpen_keeps ..)
    | with_reducible refine Keeps.trans ?_ (endSetAt_keeps ..)
    | with_reducible refine hand_keeps _ _ ?_
    | refine Keeps.set ?_ rfl rfl rfl

theorem endTicketSet_keeps (ring : Index) (s : State) : Keeps s (endTicketSet ring s) := by
  unfold endTicketSet
  try dsimp only
  repeat' split
  all_goals iterate 9 try first
    | with_reducible exact Keeps.refl _
    | assumption
    | with_reducible refine Keeps.trans ?_ (forgetOpen_keeps ..)
    | with_reducible refine Keeps.trans ?_ (endSetAt_keeps ..)
    | with_reducible refine hand_keeps _ _ ?_
    | refine Keeps.set ?_ rfl rfl rfl

theorem closePiece_keeps (ring : Index) (s : State) : Keeps s (closePiece ring s) := by
  unfold closePiece
  try dsimp only
  all_goals iterate 9 try first
    | with_reducible exact Keeps.refl _
    | assumption
    | with_reducible refine Keeps.trans ?_ (disposeIfFinal_keeps ..)
    | with_reducible refine Keeps.trans ?_ (editTicket_keeps _ _ _ fun _ => rfl)
    | with_reducible refine Keeps.trans ?_ (endTicketSet_keeps ..)
    | with_reducible refine Keeps.trans ?_ (addTicketReason_keeps ..)
    | with_reducible refine hand_keeps _ _ ?_
    | refine Keeps.set ?_ rfl rfl rfl

theorem closeCollating_keeps (s : State) : Keeps s (closeCollating s) := by
  unfold closeCollating
  try dsimp only
  repeat' split
  all_goals iterate 9 try first
    | with_reducible exact Keeps.refl _
    | assumption
    | with_reducible refine Keeps.trans ?_ (closePiece_keeps ..)
    | with_reducible refine hand_keeps _ _ ?_
    | refine Keeps.set ?_ rfl rfl rfl

theorem openFor_keeps (ring : Index) (s : State) : Keeps s (openFor ring s) := by
  unfold openFor
  try dsimp only
  repeat' split
  all_goals iterate 9 try first
    | with_reducible exact Keeps.refl _
    | assumption
    | with_reducible refine Keeps.trans ?_ (editTicket_keeps _ _ _ fun _ => rfl)
    | with_reducible refine Keeps.trans ?_ (endPurgeSet_keeps ..)
    | with_reducible refine hand_keeps _ _ ?_
    | refine Keeps.set ?_ rfl rfl rfl

theorem joinTicket_keeps (ring : Index) (a : Word) (l : Bool) (s : State) : Keeps s (joinTicket ring a l s) := by
  unfold joinTicket
  try dsimp only
  repeat' split
  all_goals iterate 9 try first
    | with_reducible exact Keeps.refl _
    | assumption
    | with_reducible refine Keeps.trans ?_ (addTicketReason_keeps ..)
    | with_reducible refine Keeps.trans ?_ (assign_keeps ..)
    | with_reducible refine Keeps.trans ?_ (editTicket_keeps _ _ _ fun _ => rfl)
    | with_reducible refine Keeps.trans ?_ (openFor_keeps ..)
    | with_reducible refine hand_keeps _ _ ?_
    | refine Keeps.set ?_ rfl rfl rfl

theorem openPurge_keeps (s : State) : Keeps s (openPurge s) := by
  unfold openPurge
  try dsimp only
  repeat' split
  all_goals iterate 9 try first
    | with_reducible exact Keeps.refl _
    | assumption
    | with_reducible refine hand_keeps _ _ ?_
    | refine Keeps.set ?_ rfl rfl rfl

theorem joinPurge_keeps (a : Word) (s : State) : Keeps s (joinPurge a s) := by
  unfold joinPurge
  try dsimp only
  repeat' split
  all_goals iterate 9 try first
    | with_reducible exact Keeps.refl _
    | assumption
    | with_reducible refine Keeps.trans ?_ (assign_keeps ..)
    | with_reducible refine Keeps.trans ?_ (openPurge_keeps ..)
    | with_reducible refine hand_keeps _ _ ?_
    | refine Keeps.set ?_ rfl rfl rfl

theorem orphanSheet_keeps (a : Word) (s : State) : Keeps s (orphanSheet a s) := by
  unfold orphanSheet
  try dsimp only
  all_goals iterate 9 try first
    | with_reducible exact Keeps.refl _
    | assumption
    | with_reducible refine Keeps.trans ?_ (joinPurge_keeps ..)
    | with_reducible refine Keeps.trans ?_ (closeCollating_keeps ..)
    | with_reducible refine hand_keeps _ _ ?_
    | refine Keeps.set ?_ rfl rfl rfl

theorem checkSheet_keeps (t : Ticket) (f : Frame) (s : State) : Keeps s (checkSheet t f s) := by
  unfold checkSheet
  try dsimp only
  repeat' split
  all_goals iterate 9 try first
    | with_reducible exact Keeps.refl _
    | assumption
    | with_reducible refine Keeps.trans ?_ (addTicketReason_keeps ..)
    | with_reducible refine Keeps.trans ?_ (editTicket_keeps _ _ _ fun _ => rfl)
    | with_reducible refine hand_keeps _ _ ?_
    | refine Keeps.set ?_ rfl rfl rfl

theorem decideCurrent_keeps (t : Ticket) (a : Word) (f : Frame) (s : State) : Keeps s (decideCurrent t a f s) :=
  (checkSheet_keeps t f s).trans (joinTicket_keeps ..)

theorem passOver_keeps (ring : Index) (s : State) : Keeps s (passOver ring s) :=
  foldl_keeps _ (fun _ _ => makeDisposition_keeps _ _ _) _ _

theorem stallAt_keeps (a : Word) (x : Serial) (s : State) : Keeps s (stallAt a x s) := by
  unfold stallAt
  try dsimp only
  repeat' split
  all_goals iterate 9 try first
    | with_reducible exact Keeps.refl _
    | assumption
    | with_reducible refine Keeps.trans ?_ (offer_keeps ..)
    | with_reducible refine hand_keeps _ _ ?_
    | refine Keeps.set ?_ rfl rfl rfl

theorem setPending_keeps (p : Option Word) (s : State) : Keeps s (setPending p s) := by
  unfold setPending
  try dsimp only
  all_goals iterate 9 try first
    | with_reducible exact Keeps.refl _
    | assumption
    | with_reducible refine hand_keeps _ _ ?_
    | refine Keeps.set ?_ rfl rfl rfl

theorem decideFrame_keeps (a : Word) (f : Frame) (s : State) : Keeps s ((decideFrame a f s).1) := by
  unfold decideFrame
  try dsimp only
  repeat' split
  all_goals iterate 9 try first
    | with_reducible exact Keeps.refl _
    | assumption
    | with_reducible refine Keeps.trans ?_ (orphanSheet_keeps ..)
    | with_reducible refine Keeps.trans ?_ (takeFault_keeps ..)
    | with_reducible refine Keeps.trans ?_ (decideCurrent_keeps ..)
    | with_reducible refine Keeps.trans ?_ (passOver_keeps ..)
    | with_reducible refine Keeps.trans ?_ (closeCollating_keeps ..)
    | with_reducible refine Keeps.trans ?_ (stallAt_keeps ..)
    | with_reducible refine hand_keeps _ _ ?_
    | refine Keeps.set ?_ rfl rfl rfl

theorem pendingJoins_keeps (t : Ticket) (p : Word) (s : State) : Keeps s (pendingJoins t p s) := by
  unfold pendingJoins
  try dsimp only
  all_goals iterate 9 try first
    | with_reducible exact Keeps.refl _
    | assumption
    | with_reducible refine Keeps.trans ?_ (addTicketReason_keeps ..)
    | with_reducible refine Keeps.trans ?_ (editTicket_keeps _ _ _ fun _ => rfl)
    | with_reducible refine Keeps.trans ?_ (joinTicket_keeps ..)
    | with_reducible refine Keeps.trans ?_ (passOver_keeps ..)
    | with_reducible refine hand_keeps _ _ ?_
    | refine Keeps.set ?_ rfl rfl rfl

theorem decidePending_keeps (f : Frame) (s : State) : Keeps s (decidePending f s) := by
  unfold decidePending
  try dsimp only
  repeat' split
  all_goals iterate 9 try first
    | with_reducible exact Keeps.refl _
    | assumption
    | with_reducible refine Keeps.trans ?_ (pendingJoins_keeps ..)
    | with_reducible refine Keeps.trans ?_ (joinPurge_keeps ..)
    | with_reducible refine Keeps.trans ?_ (setPending_keeps ..)
    | with_reducible refine hand_keeps _ _ ?_
    | refine Keeps.set ?_ rfl rfl rfl

theorem unreadJoins_keeps (t : Ticket) (a : Word) (s : State) : Keeps s (unreadJoins t a s) := by
  unfold unreadJoins
  try dsimp only
  all_goals iterate 9 try first
    | with_reducible exact Keeps.refl _
    | assumption
    | with_reducible refine Keeps.trans ?_ (addTicketReason_keeps ..)
    | with_reducible refine Keeps.trans ?_ (editTicket_keeps _ _ _ fun _ => rfl)
    | with_reducible refine Keeps.trans ?_ (joinTicket_keeps ..)
    | with_reducible refine hand_keeps _ _ ?_
    | refine Keeps.set ?_ rfl rfl rfl

theorem decideUnread_keeps (a : Word) (s : State) : Keeps s (decideUnread a s) := by
  unfold decideUnread
  try dsimp only
  repeat' split
  all_goals iterate 9 try first
    | with_reducible exact Keeps.refl _
    | assumption
    | with_reducible refine Keeps.trans ?_ (unreadJoins_keeps ..)
    | with_reducible refine Keeps.trans ?_ (joinPurge_keeps ..)
    | with_reducible refine Keeps.trans ?_ (setPending_keeps ..)
    | with_reducible refine hand_keeps _ _ ?_
    | refine Keeps.set ?_ rfl rfl rfl

theorem decideSheet_keeps (r : Sheet) (s : State) : Keeps s ((decideSheet r s).1) := by
  unfold decideSheet
  try dsimp only
  repeat' split
  all_goals iterate 9 try first
    | with_reducible exact Keeps.refl _
    | assumption
    | with_reducible refine Keeps.trans ?_ (joinPurge_keeps ..)
    | with_reducible refine Keeps.trans ?_ (decideFrame_keeps ..)
    | with_reducible refine Keeps.trans ?_ (decidePending_keeps ..)
    | with_reducible refine Keeps.trans ?_ (decideUnread_keeps ..)
    | with_reducible refine hand_keeps _ _ ?_
    | refine Keeps.set ?_ rfl rfl rfl

theorem advanceCursor_keeps (a : Word) (s : State) : Keeps s (advanceCursor a s) := by
  unfold advanceCursor
  try dsimp only
  repeat' split
  all_goals iterate 9 try first
    | with_reducible exact Keeps.refl _
    | assumption
    | with_reducible refine hand_keeps _ _ ?_
    | refine Keeps.set ?_ rfl rfl rfl

theorem collateFor_keeps (n : Nat) (s : State) : Keeps s (collateFor n s) := by
  induction n generalizing s with
  | zero => exact .refl s
  | succ n ih =>
    unfold collateFor
    dsimp only
    repeat' split
    · exact .refl s
    · exact .refl s
    · exact ((decideSheet_keeps _ s).trans (advanceCursor_keeps _ _)).trans (ih _)
    · exact decideSheet_keeps _ s

theorem orphanPending_keeps (s : State) : Keeps s (orphanPending s) := by
  unfold orphanPending
  try dsimp only
  repeat' split
  all_goals iterate 9 try first
    | with_reducible exact Keeps.refl _
    | assumption
    | with_reducible refine Keeps.trans ?_ (joinPurge_keeps ..)
    | with_reducible refine Keeps.trans ?_ (setPending_keeps ..)
    | with_reducible refine hand_keeps _ _ ?_
    | refine Keeps.set ?_ rfl rfl rfl

theorem runoutClose_keeps (s : State) : Keeps s (runoutClose s) := by
  unfold runoutClose
  try dsimp only
  repeat' split
  all_goals iterate 9 try first
    | with_reducible exact Keeps.refl _
    | assumption
    | with_reducible refine Keeps.trans ?_ (endPurgeSet_keeps ..)
    | with_reducible refine Keeps.trans ?_ (closeCollating_keeps ..)
    | with_reducible refine Keeps.trans ?_ (orphanPending_keeps ..)
    | with_reducible refine hand_keeps _ _ ?_
    | refine Keeps.set ?_ rfl rfl rfl

theorem collate_keeps (s : State) : Keeps s (collate s) := by
  unfold collate
  try dsimp only
  all_goals iterate 9 try first
    | with_reducible exact Keeps.refl _
    | assumption
    | with_reducible refine Keeps.trans ?_ (runoutClose_keeps ..)
    | with_reducible refine Keeps.trans ?_ (collateFor_keeps ..)
    | with_reducible refine hand_keeps _ _ ?_
    | refine Keeps.set ?_ rfl rfl rfl

theorem offerSheet_keeps (a : Word) (s : State) : Keeps s (offerSheet a s) := by
  unfold offerSheet
  try dsimp only
  repeat' split
  all_goals iterate 9 try first
    | with_reducible exact Keeps.refl _
    | assumption
    | with_reducible refine Keeps.trans ?_ (collate_keeps ..)
    | with_reducible refine hand_keeps _ _ ?_
    | refine Keeps.set ?_ rfl rfl rfl

theorem noteRunout_keeps (s : State) : Keeps s (noteRunout s) := by
  unfold noteRunout
  try dsimp only
  all_goals iterate 9 try first
    | with_reducible exact Keeps.refl _
    | assumption
    | with_reducible refine Keeps.trans ?_ (runoutClose_keeps ..)
    | with_reducible refine hand_keeps _ _ ?_
    | refine Keeps.set ?_ rfl rfl rfl

/-! ### Tracking -/

theorem settleRecord_keeps (r : Sheet) (o : SheetOrigin) (s : State) : Keeps s (settleRecord r o s) := by
  unfold settleRecord
  try dsimp only
  all_goals iterate 9 try first
    | with_reducible exact Keeps.refl _
    | assumption
    | with_reducible refine Keeps.trans ?_ (offerSheet_keeps ..)
    | with_reducible refine Keeps.trans ?_ (haltAtSettle_keeps ..)
    | with_reducible refine Keeps.trans ?_ (editSheet_keeps ..)
    | with_reducible refine Keeps.trans ?_ (offer_keeps ..)
    | with_reducible refine hand_keeps _ _ ?_
    | refine Keeps.set ?_ rfl rfl rfl

theorem pushSheet_keeps (r : Sheet) (s : State) : Keeps s (pushSheet r s) := by
  unfold pushSheet
  try dsimp only
  all_goals iterate 9 try first
    | with_reducible exact Keeps.refl _
    | assumption
    | with_reducible refine hand_keeps _ _ ?_
    | refine Keeps.set ?_ rfl rfl rfl

theorem settleOpen_keeps (s : State) : Keeps s (settleOpen s) := by
  unfold settleOpen
  try dsimp only
  repeat' split
  all_goals iterate 9 try first
    | with_reducible exact Keeps.refl _
    | assumption
    | with_reducible refine Keeps.trans ?_ (settleRecord_keeps ..)
    | with_reducible refine hand_keeps _ _ ?_
    | refine Keeps.set ?_ rfl rfl rfl

theorem createAtPerf_keeps (p x : Word) (s : State) : Keeps s (createAtPerf p x s) := by
  unfold createAtPerf
  try dsimp only
  repeat' split
  all_goals iterate 9 try first
    | with_reducible exact Keeps.refl _
    | assumption
    | with_reducible refine Keeps.trans ?_ (haltAtCreation_keeps ..)
    | with_reducible refine Keeps.trans ?_ (pushSheet_keeps ..)
    | with_reducible refine Keeps.trans ?_ (takeFault_keeps ..)
    | with_reducible refine hand_keeps _ _ ?_
    | refine Keeps.set ?_ rfl rfl rfl

theorem takePerforation_keeps (p : Word) (s : State) : Keeps s (takePerforation p s) := by
  unfold takePerforation
  try dsimp only
  repeat' split
  all_goals iterate 9 try first
    | with_reducible exact Keeps.refl _
    | assumption
    | with_reducible refine Keeps.trans ?_ (createAtPerf_keeps ..)
    | with_reducible refine Keeps.trans ?_ (settleOpen_keeps ..)
    | with_reducible refine hand_keeps _ _ ?_
    | refine Keeps.set ?_ rfl rfl rfl

theorem perforationTest_keeps (h : Word) (s : State) : Keeps s (perforationTest h s) := by
  unfold perforationTest
  try dsimp only
  repeat' split
  all_goals iterate 9 try first
    | with_reducible exact Keeps.refl _
    | assumption
    | with_reducible refine Keeps.trans ?_ (takePerforation_keeps ..)
    | with_reducible refine hand_keeps _ _ ?_
    | refine Keeps.set ?_ rfl rfl rfl

theorem reanchor_keeps (d : Word) (s : State) : Keeps s (reanchor d s) := by
  unfold reanchor
  try dsimp only
  repeat' split
  all_goals iterate 9 try first
    | with_reducible exact Keeps.refl _
    | assumption
    | with_reducible refine Keeps.trans ?_ (offer_keeps ..)
    | with_reducible refine Keeps.trans ?_ (haltAtReanchor_keeps ..)
    | with_reducible refine Keeps.trans ?_ (editSheet_keeps ..)
    | with_reducible refine hand_keeps _ _ ?_
    | refine Keeps.set ?_ rfl rfl rfl

theorem addLeadIn_keeps (a : Word) (s : State) : Keeps s (addLeadIn a s) := by
  unfold addLeadIn
  try dsimp only
  all_goals iterate 9 try first
    | with_reducible exact Keeps.refl _
    | assumption
    | with_reducible refine Keeps.trans ?_ (offerSheet_keeps ..)
    | with_reducible refine Keeps.trans ?_ (pushSheet_keeps ..)
    | with_reducible refine hand_keeps _ _ ?_
    | refine Keeps.set ?_ rfl rfl rfl

theorem addLeadIns_keeps (a : Word) (n : Nat) (s : State) : Keeps s (addLeadIns a n s) := by
  induction n generalizing s with
  | zero => exact .refl s
  | succ n ih => exact (addLeadIn_keeps _ s).trans (ih _)

theorem runoutHalt_keeps (b : Option Word) (s : State) : Keeps s (runoutHalt b s) := by
  unfold runoutHalt
  dsimp only
  split
  · rename_i h
    refine Keeps.trans ?_ (changeLine_onWeb (by dsimp only; rw [h]; rfl) rfl (.inr (.inl rfl)))
    exact (noteRunout_keeps s).upd rfl rfl rfl rfl
  · exact noteRunout_keeps s

theorem takeRunout_keeps (s : State) : Keeps s (takeRunout s) := by
  unfold takeRunout
  try dsimp only
  repeat' split
  all_goals iterate 9 try first
    | with_reducible exact Keeps.refl _
    | assumption
    | with_reducible refine Keeps.trans ?_ (runoutHalt_keeps ..)
    | with_reducible refine Keeps.trans ?_ (settleRecord_keeps ..)
    | with_reducible refine hand_keeps _ _ ?_
    | refine Keeps.set ?_ rfl rfl rfl

theorem runoutTest_keeps (s : State) : Keeps s (runoutTest s) := by
  unfold runoutTest
  try dsimp only
  repeat' split
  all_goals iterate 9 try first
    | with_reducible exact Keeps.refl _
    | assumption
    | with_reducible refine Keeps.trans ?_ (takeRunout_keeps ..)
    | with_reducible refine hand_keeps _ _ ?_
    | refine Keeps.set ?_ rfl rfl rfl

/-- Registration is taken in REGISTER (R34). -/
theorem registerWeb_keeps (edge : Word) (f : Frame) (s : State) : Keeps s (registerWeb edge f s) := by
  have k : Keeps s (pushSheet (newSheet (edge - s.setup 10) .read) (addLeadIns (edge - s.setup 10)
      (s.setupN 13 / s.setupN 9) { s with rd := { s.rd with
        searching := false
        verdict := { governing := some { edge := edge, d := 0, result := some (.ok f) }, conflict := false } } })) := by
    refine Keeps.trans ?_ (pushSheet_keeps ..)
    refine Keeps.trans ?_ (addLeadIns_keeps ..)
    exact (Keeps.refl s).upd rfl rfl rfl rfl
  unfold registerWeb
  dsimp only
  split
  · rename_i h
    refine Keeps.trans ?_ (runoutTest_keeps _)
    refine Keeps.trans ?_ (changeLine_onWeb (by rw [h]; rfl) rfl (.inl rfl))
    exact k.upd rfl rfl rfl rfl
  · exact k.upd rfl rfl rfl rfl

theorem overrunTest_keeps (h : Word) (s : State) : Keeps s (overrunTest h s) := by
  unfold overrunTest
  try dsimp only
  repeat' split
  all_goals iterate 9 try first
    | with_reducible exact Keeps.refl _
    | assumption
    | with_reducible refine Keeps.trans ?_ (takeFault_keeps ..)
    | with_reducible refine hand_keeps _ _ ?_
    | refine Keeps.set ?_ rfl rfl rfl

theorem separationTest_keeps (s : State) : Keeps s (separationTest s) := by
  unfold separationTest
  try dsimp only
  repeat' split
  all_goals iterate 9 try first
    | with_reducible exact Keeps.refl _
    | assumption
    | with_reducible refine Keeps.trans ?_ (separateFired_keeps ..)
    | with_reducible refine hand_keeps _ _ ?_
    | refine Keeps.set ?_ rfl rfl rfl

theorem trackAdvance_keeps (h : Word) (s : State) : Keeps s (trackAdvance h s) := by
  unfold trackAdvance
  try dsimp only
  all_goals iterate 9 try first
    | with_reducible exact Keeps.refl _
    | assumption
    | with_reducible refine Keeps.trans ?_ (overrunTest_keeps ..)
    | with_reducible refine Keeps.trans ?_ (settle_keeps ..)
    | with_reducible refine Keeps.trans ?_ (separationTest_keeps ..)
    | with_reducible refine Keeps.trans ?_ (perforationTest_keeps ..)
    | with_reducible refine hand_keeps _ _ ?_
    | refine Keeps.set ?_ rfl rfl rfl

theorem strayEdge_keeps (l : Bool) (s : State) : Keeps s (strayEdge l s) := by
  unfold strayEdge
  try dsimp only
  all_goals iterate 9 try first
    | with_reducible exact Keeps.refl _
    | assumption
    | with_reducible refine Keeps.trans ?_ (takeFault_keeps ..)
    | with_reducible refine hand_keeps _ _ ?_
    | refine Keeps.set ?_ rfl rfl rfl

theorem missingEdge_keeps (l : Bool) (r : Sheet) (s : State) : Keeps s (missingEdge l r s) := by
  unfold missingEdge
  try dsimp only
  all_goals iterate 9 try first
    | with_reducible exact Keeps.refl _
    | assumption
    | with_reducible refine Keeps.trans ?_ (takeFault_keeps ..)
    | with_reducible refine hand_keeps _ _ ?_
    | refine Keeps.set ?_ rfl rfl rfl

theorem attributeEdge_keeps (l : Bool) (c : Option Sheet) (take : Sheet → State → State)
    (h : ∀ r s, Keeps s (take r s)) (s : State) : Keeps s (attributeEdge l c take s) := by
  unfold attributeEdge
  repeat' split
  all_goals first
    | exact strayEdge_keeps ..
    | exact missingEdge_keeps ..
    | exact h _ _

theorem takeLeading_keeps (r : Sheet) (s : State) : Keeps s (takeLeading r s) := by
  unfold takeLeading
  try dsimp only
  all_goals iterate 9 try first
    | with_reducible exact Keeps.refl _
    | assumption
    | with_reducible refine Keeps.trans ?_ (editSheet_keeps ..)
    | with_reducible refine hand_keeps _ _ ?_
    | refine Keeps.set ?_ rfl rfl rfl

theorem takeTrailing_keeps (r : Sheet) (s : State) : Keeps s (takeTrailing r s) := by
  unfold takeTrailing
  try dsimp only
  repeat' split
  all_goals iterate 9 try first
    | with_reducible exact Keeps.refl _
    | assumption
    | with_reducible refine Keeps.trans ?_ (offer_keeps ..)
    | with_reducible refine Keeps.trans ?_ (editSheet_keeps ..)
    | with_reducible refine hand_keeps _ _ ?_
    | refine Keeps.set ?_ rfl rfl rfl

theorem windowEndTest_keeps (l : Bool) (st : Stage) (s : State) : Keeps s (windowEndTest l st s) := by
  unfold windowEndTest
  try dsimp only
  repeat' split
  all_goals iterate 9 try first
    | with_reducible exact Keeps.refl _
    | assumption
    | with_reducible refine Keeps.trans ?_ (missingEdge_keeps ..)
    | with_reducible refine hand_keeps _ _ ?_
    | refine Keeps.set ?_ rfl rfl rfl

theorem dropSheet_keeps (a : Word) (s : State) : Keeps s (dropSheet a s) := by
  unfold dropSheet
  try dsimp only
  all_goals iterate 9 try first
    | with_reducible exact Keeps.refl _
    | assumption
    | with_reducible refine hand_keeps _ _ ?_
    | refine Keeps.set ?_ rfl rfl rfl

theorem landFor_keeps (n : Nat) (s : State) : Keeps s (landFor n s) := by
  induction n generalizing s with
  | zero => exact .refl s
  | succ n ih =>
    unfold landFor
    repeat' split
    · exact .refl s
    · exact ((dropSheet_keeps _ s).trans (landSheet_keeps _ _)).trans (ih _)
    · exact .refl s

theorem landings_keeps (s : State) : Keeps s (landings s) := by
  unfold landings
  try dsimp only
  repeat' split
  all_goals iterate 9 try first
    | with_reducible exact Keeps.refl _
    | assumption
    | with_reducible refine Keeps.trans ?_ (landFor_keeps ..)
    | with_reducible refine hand_keeps _ _ ?_
    | refine Keeps.set ?_ rfl rfl rfl

theorem trackBelt_keeps (s : State) : Keeps s (trackBelt s) := by
  unfold trackBelt
  try dsimp only
  all_goals iterate 9 try first
    | with_reducible exact Keeps.refl _
    | assumption
    | with_reducible refine Keeps.trans ?_ (landings_keeps ..)
    | with_reducible refine Keeps.trans ?_ (windowEndTest_keeps ..)
    | with_reducible refine hand_keeps _ _ ?_
    | refine Keeps.set ?_ rfl rfl rfl

/-! ### The reader -/

theorem searchFrame_keeps (r : FrameResult) (e : Word) (s : State) : Keeps s (searchFrame r e s) := by
  unfold searchFrame
  try dsimp only
  repeat' split
  all_goals iterate 9 try first
    | with_reducible exact Keeps.refl _
    | assumption
    | with_reducible refine Keeps.trans ?_ (registerWeb_keeps ..)
    | with_reducible refine Keeps.trans ?_ (takeFault_keeps ..)
    | with_reducible refine hand_keeps _ _ ?_
    | refine Keeps.set ?_ rfl rfl rfl

theorem governingEnds_keeps (r : FrameResult) (g : Governing) (s : State) : Keeps s (governingEnds r g s) := by
  unfold governingEnds
  try dsimp only
  repeat' split
  all_goals iterate 9 try first
    | with_reducible exact Keeps.refl _
    | assumption
    | with_reducible refine Keeps.trans ?_ (reanchor_keeps ..)
    | with_reducible refine hand_keeps _ _ ?_
    | refine Keeps.set ?_ rfl rfl rfl

theorem sheetFrame_keeps (r : FrameResult) (g : Bool) (s : State) : Keeps s (sheetFrame r g s) := by
  unfold sheetFrame
  try dsimp only
  repeat' split
  all_goals iterate 9 try first
    | with_reducible exact Keeps.refl _
    | assumption
    | with_reducible refine Keeps.trans ?_ (governingEnds_keeps ..)
    | with_reducible refine hand_keeps _ _ ?_
    | refine Keeps.set ?_ rfl rfl rfl

theorem frameEnds_keeps (r : FrameResult) (s : State) : Keeps s (frameEnds r s) := by
  unfold frameEnds
  try dsimp only
  repeat' split
  all_goals iterate 9 try first
    | with_reducible exact Keeps.refl _
    | assumption
    | with_reducible refine Keeps.trans ?_ (searchFrame_keeps ..)
    | with_reducible refine Keeps.trans ?_ (sheetFrame_keeps ..)
    | with_reducible refine hand_keeps _ _ ?_
    | refine Keeps.set ?_ rfl rfl rfl

theorem setRegs_keeps (st : ReaderState) (g : FrameRegs) (s : State) : Keeps s (setRegs st g s) := by
  unfold setRegs
  try dsimp only
  all_goals iterate 9 try first
    | with_reducible exact Keeps.refl _
    | assumption
    | with_reducible refine hand_keeps _ _ ?_
    | refine Keeps.set ?_ rfl rfl rfl

theorem flagCompletes_keeps (s : State) : Keeps s (flagCompletes s) := by
  unfold flagCompletes
  try dsimp only
  repeat' split
  all_goals iterate 9 try first
    | with_reducible exact Keeps.refl _
    | assumption
    | with_reducible refine Keeps.trans ?_ (setRegs_keeps ..)
    | with_reducible refine hand_keeps _ _ ?_
    | refine Keeps.set ?_ rfl rfl rfl

theorem flagSample_keeps (d : Bool) (s : State) : Keeps s (flagSample d s) := by
  unfold flagSample
  try dsimp only
  repeat' split
  all_goals iterate 9 try first
    | with_reducible exact Keeps.refl _
    | assumption
    | with_reducible refine Keeps.trans ?_ (flagCompletes_keeps ..)
    | with_reducible refine Keeps.trans ?_ (setRegs_keeps ..)
    | with_reducible refine hand_keeps _ _ ?_
    | refine Keeps.set ?_ rfl rfl rfl

theorem enterClose_keeps (g : FrameRegs) (s : State) : Keeps s (enterClose g s) := by
  unfold enterClose
  try dsimp only
  all_goals iterate 9 try first
    | with_reducible exact Keeps.refl _
    | assumption
    | with_reducible refine Keeps.trans ?_ (setRegs_keeps ..)
    | with_reducible refine hand_keeps _ _ ?_
    | refine Keeps.set ?_ rfl rfl rfl

theorem dataSample_keeps (d : Bool) (s : State) : Keeps s (dataSample d s) := by
  unfold dataSample
  try dsimp only
  repeat' split
  all_goals iterate 9 try first
    | with_reducible exact Keeps.refl _
    | assumption
    | with_reducible refine Keeps.trans ?_ (enterClose_keeps ..)
    | with_reducible refine Keeps.trans ?_ (frameEnds_keeps ..)
    | with_reducible refine Keeps.trans ?_ (setRegs_keeps ..)
    | with_reducible refine hand_keeps _ _ ?_
    | refine Keeps.set ?_ rfl rfl rfl

theorem closeSample_keeps (d : Bool) (s : State) : Keeps s (closeSample d s) := by
  unfold closeSample
  try dsimp only
  repeat' split
  all_goals iterate 9 try first
    | with_reducible exact Keeps.refl _
    | assumption
    | with_reducible refine Keeps.trans ?_ (frameEnds_keeps ..)
    | with_reducible refine Keeps.trans ?_ (setRegs_keeps ..)
    | with_reducible refine hand_keeps _ _ ?_
    | refine Keeps.set ?_ rfl rfl rfl

theorem frameSample_keeps (d : Bool) (s : State) : Keeps s (frameSample d s) := by
  unfold frameSample
  try dsimp only
  repeat' split
  all_goals iterate 9 try first
    | with_reducible exact Keeps.refl _
    | assumption
    | with_reducible refine Keeps.trans ?_ (flagSample_keeps ..)
    | with_reducible refine Keeps.trans ?_ (dataSample_keeps ..)
    | with_reducible refine Keeps.trans ?_ (closeSample_keeps ..)
    | with_reducible refine hand_keeps _ _ ?_
    | refine Keeps.set ?_ rfl rfl rfl

theorem darkSample_keeps (s : State) : Keeps s (darkSample s) := by
  unfold darkSample
  try dsimp only
  repeat' split
  all_goals iterate 9 try first
    | with_reducible exact Keeps.refl _
    | assumption
    | with_reducible refine Keeps.trans ?_ (takeFault_keeps ..)
    | with_reducible refine hand_keeps _ _ ?_
    | refine Keeps.set ?_ rfl rfl rfl

theorem blankSample_keeps (h : Word) (s : State) : Keeps s (blankSample h s) := by
  unfold blankSample
  try dsimp only
  repeat' split
  all_goals iterate 9 try first
    | with_reducible exact Keeps.refl _
    | assumption
    | with_reducible refine Keeps.trans ?_ (offer_keeps ..)
    | with_reducible refine hand_keeps _ _ ?_
    | refine Keeps.set ?_ rfl rfl rfl

theorem watchSample_keeps (d : Bool) (h : Word) (s : State) : Keeps s (watchSample d h s) := by
  unfold watchSample
  try dsimp only
  repeat' split
  all_goals iterate 9 try first
    | with_reducible exact Keeps.refl _
    | assumption
    | with_reducible refine Keeps.trans ?_ (darkSample_keeps ..)
    | with_reducible refine Keeps.trans ?_ (blankSample_keeps ..)
    | with_reducible refine hand_keeps _ _ ?_
    | refine Keeps.set ?_ rfl rfl rfl

theorem takeSample_keeps (d : Bool) (h : Word) (s : State) : Keeps s (takeSample d h s) := by
  unfold takeSample
  try dsimp only
  repeat' split
  all_goals iterate 9 try first
    | with_reducible exact Keeps.refl _
    | assumption
    | with_reducible refine Keeps.trans ?_ (frameSample_keeps ..)
    | with_reducible refine Keeps.trans ?_ (watchSample_keeps ..)
    | with_reducible refine hand_keeps _ _ ?_
    | refine Keeps.set ?_ rfl rfl rfl

/-- R39: the phase chosen is one of the twelve. -/
theorem chosenPhase_lt (m : List Bool) : chosenPhase m < 12 := by
  unfold chosenPhase
  split
  · decide
  · exact Nat.mod_lt _ (by decide)

/-- The sweep ends in CALIBRATE (R38). -/
theorem sweepEnds_keeps (edge : Word) {s : State} (h : s.seq.line ≠ .fault) : KeepsWeb s (sweepEnds edge s) := by
  unfold sweepEnds
  dsimp only
  refine KeepsWeb.trans ?_ (offer_keeps ..)
  refine KeepsWeb.trans ?_ (latch_keeps ..)
  split
  · refine KeepsWeb.trans ?_ (enterIdle_keeps (by exact h))
    exact ⟨rfl, .inr ⟨_, chosenPhase_lt _, rfl⟩, LineOk_congr rfl, id, id⟩
  · refine KeepsWeb.trans ?_ (enterIdle_keeps (by exact h))
    refine Keeps.web ?_; exact (Keeps.refl s).upd rfl rfl rfl rfl

theorem sweepAdvance_keeps (p : Word) {s : State} (h : s.seq.line ≠ .fault) : KeepsWeb s (sweepAdvance p s) := by
  unfold sweepAdvance
  dsimp only
  repeat' split
  all_goals first
    | exact (Keeps.refl s).web
    | exact sweepEnds_keeps _ h
    | refine Keeps.web ?_; exact (Keeps.refl s).upd rfl rfl rfl rfl

theorem readerAdvance_keeps (p : Word) (s : State) : KeepsWeb s (readerAdvance p s) := by
  unfold readerAdvance
  split
  · rename_i h
    exact sweepAdvance_keeps p (by rw [h]; decide)
  · split
    · exact (takeSample_keeps ..).web
    · exact (Keeps.refl s).web

theorem startFlag_keeps (s : State) : Keeps s (startFlag s) := by
  unfold startFlag
  try dsimp only
  repeat' split
  all_goals iterate 9 try first
    | with_reducible exact Keeps.refl _
    | assumption
    | with_reducible refine Keeps.trans ?_ (takeSample_keeps ..)
    | with_reducible refine hand_keeps _ _ ?_
    | refine Keeps.set ?_ rfl rfl rfl

theorem startSweep_keeps (s : State) : Keeps s (startSweep s) := by
  unfold startSweep
  try dsimp only
  all_goals iterate 9 try first
    | with_reducible exact Keeps.refl _
    | assumption
    | with_reducible refine hand_keeps _ _ ?_
    | refine Keeps.set ?_ rfl rfl rfl

theorem usableEdge_keeps (s : State) : Keeps s (usableEdge s) := by
  unfold usableEdge
  try dsimp only
  repeat' split
  all_goals iterate 9 try first
    | with_reducible exact Keeps.refl _
    | assumption
    | with_reducible refine Keeps.trans ?_ (startSweep_keeps ..)
    | with_reducible refine Keeps.trans ?_ (startFlag_keeps ..)
    | with_reducible refine hand_keeps _ _ ?_
    | refine Keeps.set ?_ rfl rfl rfl

/-! ### The commands of Motion and Pockets -/

theorem slipTest_keeps (d : Bool) (s : State) : Keeps s (slipTest d s) := by
  unfold slipTest
  try dsimp only
  repeat' split
  all_goals iterate 9 try first
    | with_reducible exact Keeps.refl _
    | assumption
    | with_reducible refine Keeps.trans ?_ (takeFault_keeps ..)
    | with_reducible refine hand_keeps _ _ ?_
    | refine Keeps.set ?_ rfl rfl rfl

theorem reverseTest_keeps (s : State) : Keeps s (reverseTest s) := by
  unfold reverseTest
  try dsimp only
  repeat' split
  all_goals iterate 9 try first
    | with_reducible exact Keeps.refl _
    | assumption
    | with_reducible refine Keeps.trans ?_ (takeFault_keeps ..)
    | with_reducible refine hand_keeps _ _ ?_
    | refine Keeps.set ?_ rfl rfl rfl

theorem regLimitTest_keeps (h : Word) (s : State) : Keeps s (regLimitTest h s) := by
  unfold regLimitTest
  try dsimp only
  repeat' split
  all_goals iterate 9 try first
    | with_reducible exact Keeps.refl _
    | assumption
    | with_reducible refine Keeps.trans ?_ (takeFault_keeps ..)
    | with_reducible refine hand_keeps _ _ ?_
    | refine Keeps.set ?_ rfl rfl rfl

theorem highWaterAdvance_keeps (h : Word) (s : State) : KeepsWeb s (highWaterAdvance h s) := by
  have k := (readerAdvance_keeps h s).trans (regLimitTest_keeps h _)
  unfold highWaterAdvance
  dsimp only
  split
  · exact k.trans (trackAdvance_keeps ..)
  · exact k

theorem highWaterTest_keeps (s : State) : KeepsWeb s (highWaterTest s) := by
  unfold highWaterTest
  split
  · have k : Keeps s { s with enc := { s.enc with highWater := s.enc.web } } := (Keeps.refl s).upd rfl rfl rfl rfl
    have w := highWaterAdvance_keeps s.enc.web { s with enc := { s.enc with highWater := s.enc.web } }
    exact ⟨w.fixed.trans k.fixed, by rw [← k.shadow]; exact w.shadow, w.line ∘ k.line, w.fault ∘ k.fault, w.stage ∘ k.stage⟩
  · exact (Keeps.refl s).web

theorem endMoved_keeps (s : State) : Keeps s (endMoved s) := (refresh_keeps s).trans (endStep_keeps _)

theorem webStep_keeps (d : Word) (s : State) :
    KeepsWeb { s with enc := { s.enc with web := s.enc.web + d } } (webStep d s) :=
  ((highWaterTest_keeps _).trans (reverseTest_keeps _)).trans (slipTest_keeps _ _)

theorem beltMoved_keeps (d : Word) (s : State) : Keeps { s with enc := { s.enc with belt := s.enc.belt + d } } (beltMoved d s) := by
  unfold beltMoved
  try dsimp only
  all_goals iterate 9 try first
    | with_reducible exact Keeps.refl _
    | assumption
    | with_reducible refine Keeps.trans ?_ (trackBelt_keeps ..)
    | with_reducible refine hand_keeps _ _ ?_
    | refine Keeps.set ?_ rfl rfl rfl

theorem markChange_keeps (dark : Bool) (s : State) : Keeps { s with pins := { s.pins with mark := dark } } (markChange dark s) := by
  unfold markChange
  try dsimp only
  repeat' split
  all_goals iterate 9 try first
    | with_reducible exact Keeps.refl _
    | assumption
    | with_reducible refine Keeps.trans ?_ (usableEdge_keeps ..)
    | with_reducible refine hand_keeps _ _ ?_
    | refine Keeps.set ?_ rfl rfl rfl

theorem beltEdgeRises_keeps (s : State) : Keeps { s with pins := { s.pins with beltEdge := true } } (beltEdgeRises s) := by
  unfold beltEdgeRises
  dsimp only
  split
  · exact attributeEdge_keeps _ _ _ takeLeading_keeps _
  · exact .refl _

theorem beltEdgeFalls_keeps (s : State) : Keeps { s with pins := { s.pins with beltEdge := false } } (beltEdgeFalls s) := by
  unfold beltEdgeFalls
  dsimp only
  split
  · exact attributeEdge_keeps _ _ _ takeTrailing_keeps _
  · exact .refl _

/-- A pulse, or none due, on STEP: the state before the slip check and the target are looked at. -/
def State.stepped (s : State) : State :=
  if s.tr.emitted < s.tr.due ∧ s.tr.driveEnable then
    { s with tr := { s.tr with command := s.tr.command + 1, emitted := s.tr.emitted + 1, stepOut := true } }
  else { s with tr := { s.tr with stepOut := false } }

theorem stepped_line (s : State) (h : LineOk s) : LineOk s.stepped := by
  obtain ⟨h1, h2, h3, h4, h5, h6⟩ := h
  unfold State.stepped
  split
  · rename_i hc
    refine ⟨h1, h2, h3, h4, ?_, h6⟩
    simp only [figuresOk, Bool.and_eq_true, decide_eq_true_eq] at h5 ⊢
    exact ⟨h5.1, hc.1⟩
  · exact ⟨h1, h2, h3, h4, h5, h6⟩

theorem atTarget_line {s : State} (h : atTarget s = true) (ok : LineOk s) : s.seq.line ≠ .fault := by
  intro e
  have := of_decide_eq_true ok.2.2.2.2.2 e
  simp [atTarget, this] at h

theorem emitPulse_keeps (s : State) : Keeps s.stepped (emitPulse s) := by
  unfold emitPulse State.stepped
  dsimp only
  split
  · split
    · rename_i h
      exact (slipTest_keeps _ _).trans (targetMet_keeps (atTarget_line h))
    · exact slipTest_keeps _ _
  · exact .refl _

theorem pulse_keeps (s : State) : Keeps s.stepped (pulse s) := (emitPulse_keeps s).trans (settleEnd_keeps _ _)

theorem profile_remainder (goal acc dec v rem : Nat) (r : Option Int) :
    (profile goal acc dec v rem r).remainder ≤ 999 := by
  cases r with
  | none => simp only [profile]; omega
  | some r =>
    simp only [profile]
    split <;> simp only <;> omega

theorem tickProfile_keeps {s : State} (h : s.seq.line.profiles = true) : Keeps s (tickProfile s) := by
  unfold tickProfile
  dsimp only
  refine hand_keeps _ _ ⟨rfl, rfl, fun ok => ?_, fun e => e, fun st => st⟩
  obtain ⟨h1, h2, h3, h4, h5, h6⟩ := ok
  have hf : s.seq.line ≠ .fault := by intro e; rw [e] at h; simp [LineState.profiles] at h
  have hi : s.seq.line ≠ .idle := by intro e; rw [e] at h; simp [LineState.profiles] at h
  refine ⟨h1, ?_, h3, ?_, ?_, decide_eq_true fun e => absurd e hf⟩
  · rw [h2]
    revert hf hi
    dsimp only
    cases s.seq.line <;> simp [driveLevel]
  · revert hf hi
    dsimp only
    cases s.seq.line <;> simp [moveOk] <;> split <;> simp
  · have := profile_remainder (lineGoal s) (s.setupN 18) (s.setupN 19) s.tr.speed s.tr.remainder
      (s.pln.stop.map s.remaining)
    simp only [figuresOk, tickFigures]
    by_cases hz : (profile (lineGoal s) (s.setupN 18) (s.setupN 19) s.tr.speed s.tr.remainder
      (s.pln.stop.map s.remaining)).speed = 0
    · simp [hz]
    · simp only [hz, ↓reduceIte]
      rw [if_neg (by decide)]
      exact (Bool.and_eq_true_iff.2 ⟨Bool.and_eq_true_iff.2 ⟨decide_eq_true (Nat.pos_of_ne_zero hz), decide_eq_true this⟩, decide_eq_true (Nat.zero_le _)⟩)

theorem profiles_ne_fault {l : LineState} (h : l.profiles = true) : l ≠ .fault := by
  rintro rfl
  simp [LineState.profiles] at h

theorem tickTarget_keeps {s : State} (h : s.seq.line ≠ .fault) : Keeps s (tickTarget s) := by
  unfold tickTarget
  split
  · exact targetMet_keeps fun _ => h
  · exact .refl s

theorem tickStopPending_keeps (s : State) : Keeps s (tickStopPending s) := by
  unfold tickStopPending
  split
  · rename_i h
    refine Keeps.trans (t := { s with rd := s.rd.clear }) ((Keeps.refl s).upd rfl rfl rfl rfl) ?_
    exact enterIdle_keeps (by rw [h.1]; decide)
  · exact .refl s

theorem tickRamp_keeps {s : State} (h : s.tr.state = .rampStop) : Keeps s (tickRamp s) := by
  unfold tickRamp
  dsimp only
  split
  · refine hand_keeps _ _ ⟨rfl, rfl, fun ok => ?_, fun e => e, fun st => st⟩
    obtain ⟨h1, h2, h3, h4, h5, h6⟩ := ok
    refine ⟨h1, ?_, h3, ?_, ?_, h6⟩
    · rw [h] at h4
      revert h4
      dsimp only
      cases s.seq.line <;> simp [moveOk, driveLevel]
    · rw [h] at h4
      revert h4
      dsimp only
      cases s.seq.line <;> simp [moveOk]
    · simp [figuresOk]
  · rename_i hv
    refine ⟨rfl, rfl, fun ok => ?_, fun e => e, fun st => st⟩
    obtain ⟨h1, h2, h3, h4, h5, h6⟩ := ok
    refine ⟨h1, h2, h3, h4, ?_, h6⟩
    simp [figuresOk, h]
    omega

theorem tickTransport_keeps (s : State) : Keeps s (tickTransport s) := by
  unfold tickTransport
  split
  · rename_i h
    refine Keeps.trans ?_ (tickStopPending_keeps _)
    exact (tickProfile_keeps h.1).trans (tickTarget_keeps (profiles_ne_fault h.1))
  · split
    · rename_i h
      exact tickRamp_keeps h
    · exact .refl s

theorem tickBelt_keeps (s : State) : Keeps s (tickBelt s) := by
  unfold tickBelt
  try dsimp only
  repeat' split
  all_goals iterate 9 try first
    | with_reducible exact Keeps.refl _
    | assumption
    | with_reducible refine Keeps.trans ?_ (takeFault_keeps ..)
    | with_reducible refine hand_keeps _ _ ?_
    | refine Keeps.set ?_ rfl rfl rfl

theorem tickNow_keeps (s : State) : Keeps (tickClocks s) (tickNow s) :=
  (((tickTransport_keeps _).trans (tickBelt_keeps _)).trans (settle_keeps _)).trans (endStep_keeps _)

theorem snapEnds_keeps (s : State) : Keeps s (snapEnds s) := by
  unfold snapEnds
  try dsimp only
  repeat' split
  all_goals iterate 9 try first
    | with_reducible exact Keeps.refl _
    | assumption
    | with_reducible refine hand_keeps _ _ ?_
    | refine Keeps.set ?_ rfl rfl rfl

theorem jogEnds_keeps (s : State) : Keeps s (jogEnds s) := by
  unfold jogEnds
  try dsimp only
  repeat' split
  all_goals iterate 9 try first
    | with_reducible exact Keeps.refl _
    | assumption
    | with_reducible refine Keeps.trans ?_ (endStep_keeps ..)
    | with_reducible refine Keeps.trans ?_ (endJog_keeps ..)
    | with_reducible refine hand_keeps _ _ ?_
    | refine Keeps.set ?_ rfl rfl rfl

theorem dropEnds_keeps (s : State) : Keeps s (dropEnds s) := by
  unfold dropEnds
  try dsimp only
  repeat' split
  all_goals iterate 9 try first
    | with_reducible exact Keeps.refl _
    | assumption
    | with_reducible refine Keeps.trans ?_ (settleEnd_keeps ..)
    | with_reducible refine Keeps.trans ?_ (endDrop_keeps ..)
    | with_reducible refine hand_keeps _ _ ?_
    | refine Keeps.set ?_ rfl rfl rfl

theorem emptyHold_keeps (s : State) : Keeps s (emptyHold s) := by
  unfold emptyHold
  try dsimp only
  all_goals iterate 9 try first
    | with_reducible exact Keeps.refl _
    | assumption
    | with_reducible refine hand_keeps _ _ ?_
    | refine Keeps.set ?_ rfl rfl rfl

theorem divertOutcome_keeps (r : SetRecord) (s : State) : Keeps s (divertOutcome r s) := by
  unfold divertOutcome
  try dsimp only
  repeat' split
  all_goals iterate 9 try first
    | with_reducible exact Keeps.refl _
    | assumption
    | with_reducible refine Keeps.trans ?_ (offer_keeps ..)
    | with_reducible refine Keeps.trans ?_ (reportOutcome_keeps ..)
    | with_reducible refine hand_keeps _ _ ?_
    | refine Keeps.set ?_ rfl rfl rfl

theorem enterFolder_keeps (r : SetRecord) (s : State) : Keeps s (enterFolder r s) := by
  unfold enterFolder
  try dsimp only
  all_goals iterate 9 try first
    | with_reducible exact Keeps.refl _
    | assumption
    | with_reducible refine hand_keeps _ _ ?_
    | refine Keeps.set ?_ rfl rfl rfl

theorem endRelease_keeps (s : State) : Keeps s (endRelease s) := by
  unfold endRelease
  try dsimp only
  repeat' split
  all_goals iterate 9 try first
    | with_reducible exact Keeps.refl _
    | assumption
    | with_reducible refine Keeps.trans ?_ (holdEmptied_keeps ..)
    | with_reducible refine Keeps.trans ?_ (divertOutcome_keeps ..)
    | with_reducible refine Keeps.trans ?_ (enterFolder_keeps ..)
    | with_reducible refine Keeps.trans ?_ (emptyHold_keeps ..)
    | with_reducible refine hand_keeps _ _ ?_
    | refine Keeps.set ?_ rfl rfl rfl

theorem releaseEnds_keeps (s : State) : Keeps s (releaseEnds s) := by
  unfold releaseEnds
  try dsimp only
  repeat' split
  all_goals iterate 9 try first
    | with_reducible exact Keeps.refl _
    | assumption
    | with_reducible refine Keeps.trans ?_ (endStep_keeps ..)
    | with_reducible refine Keeps.trans ?_ (endRelease_keeps ..)
    | with_reducible refine hand_keeps _ _ ?_
    | refine Keeps.set ?_ rfl rfl rfl

theorem foldTimesOut_keeps (s : State) : Keeps s (foldTimesOut s) := by
  unfold foldTimesOut
  try dsimp only
  repeat' split
  all_goals iterate 9 try first
    | with_reducible exact Keeps.refl _
    | assumption
    | with_reducible refine Keeps.trans ?_ (takeFault_keeps ..)
    | with_reducible refine hand_keeps _ _ ?_
    | refine Keeps.set ?_ rfl rfl rfl

theorem exitTimesOut_keeps (s : State) : Keeps s (exitTimesOut s) := by
  unfold exitTimesOut
  try dsimp only
  repeat' split
  all_goals iterate 9 try first
    | with_reducible exact Keeps.refl _
    | assumption
    | with_reducible refine Keeps.trans ?_ (takeFault_keeps ..)
    | with_reducible refine hand_keeps _ _ ?_
    | refine Keeps.set ?_ rfl rfl rfl

theorem completeFold_keeps (p : Piece) (s : State) : Keeps s (completeFold p s) := by
  unfold completeFold
  try dsimp only
  all_goals iterate 9 try first
    | with_reducible exact Keeps.refl _
    | assumption
    | with_reducible refine Keeps.trans ?_ (releaseTest_keeps ..)
    | with_reducible refine hand_keeps _ _ ?_
    | refine Keeps.set ?_ rfl rfl rfl

theorem foldDoneLevel_keeps (level : Bool) (s : State) : Keeps { s with pins := { s.pins with foldDone := level } } (foldDoneLevel level s) := by
  unfold foldDoneLevel
  try dsimp only
  repeat' split
  all_goals iterate 9 try first
    | with_reducible exact Keeps.refl _
    | assumption
    | with_reducible refine Keeps.trans ?_ (endStep_keeps ..)
    | with_reducible refine Keeps.trans ?_ (completeFold_keeps ..)
    | with_reducible refine hand_keeps _ _ ?_
    | refine Keeps.set ?_ rfl rfl rfl

theorem foldFaultLevel_keeps (level : Bool) (s : State) : Keeps { s with pins := { s.pins with foldFault := level } } (foldFaultLevel level s) := by
  unfold foldFaultLevel
  try dsimp only
  repeat' split
  all_goals iterate 9 try first
    | with_reducible exact Keeps.refl _
    | assumption
    | with_reducible refine Keeps.trans ?_ (takeFault_keeps ..)
    | with_reducible refine hand_keeps _ _ ?_
    | refine Keeps.set ?_ rfl rfl rfl

theorem exitRise_keeps (s : State) : Keeps s (exitRise s) := by
  unfold exitRise
  try dsimp only
  repeat' split
  all_goals iterate 9 try first
    | with_reducible exact Keeps.refl _
    | assumption
    | with_reducible refine Keeps.trans ?_ (takeFault_keeps ..)
    | with_reducible refine Keeps.trans ?_ (endStep_keeps ..)
    | with_reducible refine Keeps.trans ?_ (releaseTest_keeps ..)
    | with_reducible refine Keeps.trans ?_ (reportOutcome_keeps ..)
    | with_reducible refine hand_keeps _ _ ?_
    | refine Keeps.set ?_ rfl rfl rfl

theorem exitEdgeLevel_keeps (level : Bool) (s : State) : Keeps { s with pins := { s.pins with exitEdge := level } } (exitEdgeLevel level s) := by
  unfold exitEdgeLevel
  try dsimp only
  repeat' split
  all_goals iterate 9 try first
    | with_reducible exact Keeps.refl _
    | assumption
    | with_reducible refine Keeps.trans ?_ (exitRise_keeps ..)
    | with_reducible refine hand_keeps _ _ ?_
    | refine Keeps.set ?_ rfl rfl rfl

theorem rejectFullLevel_keeps (level : Bool) (s : State) : Keeps { s with pins := { s.pins with rejectFull := level } } (rejectFullLevel level s) := by
  unfold rejectFullLevel
  try dsimp only
  all_goals iterate 9 try first
    | with_reducible exact Keeps.refl _
    | assumption
    | with_reducible refine Keeps.trans ?_ (endStep_keeps ..)
    | with_reducible refine Keeps.trans ?_ (releaseTest_keeps ..)
    | with_reducible refine hand_keeps _ _ ?_
    | refine Keeps.set ?_ rfl rfl rfl

theorem foldReadyLevel_keeps (level : Bool) (s : State) : Keeps { s with pins := { s.pins with foldReady := level } } (foldReadyLevel level s) := by
  unfold foldReadyLevel
  try dsimp only
  all_goals iterate 9 try first
    | with_reducible exact Keeps.refl _
    | assumption
    | with_reducible refine Keeps.trans ?_ (endStep_keeps ..)
    | with_reducible refine Keeps.trans ?_ (releaseTest_keeps ..)
    | with_reducible refine hand_keeps _ _ ?_
    | refine Keeps.set ?_ rfl rfl rfl

theorem webPresentLevel_keeps (level : Bool) (s : State) : Keeps { s with pins := { s.pins with webPresent := level } } (webPresentLevel level s) := by
  unfold webPresentLevel
  try dsimp only
  repeat' split
  all_goals iterate 9 try first
    | with_reducible exact Keeps.refl _
    | assumption
    | with_reducible refine Keeps.trans ?_ (settleEnd_keeps ..)
    | with_reducible refine Keeps.trans ?_ (runoutTest_keeps ..)
    | with_reducible refine hand_keeps _ _ ?_
    | refine Keeps.set ?_ rfl rfl rfl

theorem enterHalting_keeps (kind : HaltKind) {s : State} (h : s.seq.line = .run) : Keeps s (enterHalting kind s) := by
  unfold enterHalting
  refine Keeps.trans ?_ (settleEnd_keeps _ _)
  refine Keeps.trans ?_ (requestHalt_keeps _ _)
  exact changeLine_onWeb (by rw [h]; rfl) rfl (.inr (.inl rfl))

theorem paperLowLevel_keeps (level : Bool) (s : State) :
    Keeps { s with pins := { s.pins with paperLow := level } } (paperLowLevel level s) := by
  unfold paperLowLevel
  dsimp only
  split
  · rename_i h
    simp only [Bool.and_eq_true, decide_eq_true_eq] at h
    exact enterHalting_keeps .paperLow h.1.2
  · exact .refl _

theorem estopLevel_keeps (level : Bool) (s : State) : Keeps { s with pins := { s.pins with estopN := level } } (estopLevel level s) := by
  unfold estopLevel
  try dsimp only
  repeat' split
  all_goals iterate 9 try first
    | with_reducible exact Keeps.refl _
    | assumption
    | with_reducible refine Keeps.trans ?_ (takeFault_keeps ..)
    | with_reducible refine hand_keeps _ _ ?_
    | refine Keeps.set ?_ rfl rfl rfl

theorem webBreakLevel_keeps (level : Bool) (s : State) : Keeps { s with pins := { s.pins with webBreakN := level } } (webBreakLevel level s) := by
  unfold webBreakLevel
  try dsimp only
  repeat' split
  all_goals iterate 9 try first
    | with_reducible exact Keeps.refl _
    | assumption
    | with_reducible refine Keeps.trans ?_ (takeFault_keeps ..)
    | with_reducible refine hand_keeps _ _ ?_
    | refine Keeps.set ?_ rfl rfl rfl

end Sys2Proof.Machine
end

