-- ==== Sys2Proof/Laws/Collator.lean ====
section
/-! SUPPORT. What the collator's shared operations do to the sheet queue, the ticket table and the open set: one
lemma for each of the relations of Safety.lean (closesPiece, passes, joinsPurge, joinsTicket, reachesOutcome). -/

namespace Sys2Proof.Machine

/-! ### What the pockets' and the planner's operations leave alone -/

theorem releaseTest_desk (s : State) :
    (releaseTest s).trk = s.trk ∧ (releaseTest s).col = s.col ∧ (releaseTest s).tix = s.tix := by
  unfold releaseTest
  repeat' split
  all_goals exact ⟨rfl, rfl, rfl⟩

@[simp] theorem releaseTest_trk (s : State) : (releaseTest s).trk = s.trk := (releaseTest_desk s).1
@[simp] theorem releaseTest_col (s : State) : (releaseTest s).col = s.col := (releaseTest_desk s).2.1
@[simp] theorem releaseTest_tix (s : State) : (releaseTest s).tix = s.tix := (releaseTest_desk s).2.2

theorem holdReasonFor_desk (ring : Index) (r : Reason) (s : State) :
    (holdReasonFor ring r s).trk = s.trk ∧ (holdReasonFor ring r s).col = s.col ∧
      (holdReasonFor ring r s).tix = s.tix := by
  unfold holdReasonFor
  split
  · simp [hand]
  · exact ⟨rfl, rfl, rfl⟩

@[simp] theorem addTicketReason_trk (ring : Index) (r : Reason) (s : State) : (addTicketReason ring r s).trk = s.trk :=
  (holdReasonFor_desk ring r _).1

@[simp] theorem addTicketReason_col (ring : Index) (r : Reason) (s : State) : (addTicketReason ring r s).col = s.col :=
  (holdReasonFor_desk ring r _).2.1

@[simp] theorem addTicketReason_tix (ring : Index) (r : Reason) (s : State) :
    (addTicketReason ring r s).tix = (s.editTicket ring fun t => { t with reasons := t.reasons ||| r.bit }).tix :=
  (holdReasonFor_desk ring r _).2.2

theorem closeRequest_desk (n : Index) (s : State) :
    (closeRequest n s).trk = s.trk ∧ (closeRequest n s).col = s.col ∧ (closeRequest n s).tix = s.tix := by
  unfold closeRequest closeSet endJog placeSet heightCheck startDrop
  dsimp only
  repeat' split
  all_goals exact ⟨rfl, rfl, rfl⟩

theorem haltAtAssignment_desk (a : Word) (p : Nat) (s : State) :
    (haltAtAssignment a p s).trk = s.trk ∧ (haltAtAssignment a p s).col = s.col ∧
      (haltAtAssignment a p s).tix = s.tix := by
  unfold haltAtAssignment chooseHalt
  repeat' split
  all_goals exact ⟨rfl, rfl, rfl⟩

/-! ### Assignments and set ends -/

@[simp] theorem assign_queue (a : Word) (k : Assignment) (e : Bool) (s : State) :
    (assign a k e s).trk.queue = assignedIn a k e s.trk.queue := by
  rw [assign, (haltAtAssignment_desk _ _ _).1]
  rfl

@[simp] theorem assign_col (a : Word) (k : Assignment) (e : Bool) (s : State) : (assign a k e s).col = s.col := by
  rw [assign, (haltAtAssignment_desk _ _ _).2.1]
  rfl

@[simp] theorem assign_tix (a : Word) (k : Assignment) (e : Bool) (s : State) : (assign a k e s).tix = s.tix := by
  rw [assign, (haltAtAssignment_desk _ _ _).2.2]
  rfl

/-- No record of that anchor, nothing marked. -/
theorem map_eq_self_of_findSheet {a : Word} {q : List Sheet} (h : findSheet a q = none) (f : Sheet → Sheet) :
    (q.map fun x => if x.anchor = a then f x else x) = q := by
  refine (List.map_congr_left fun x hx => ?_).trans (List.map_id q)
  have := List.find?_eq_none.1 h x hx
  simp at this
  simp [this]

theorem endSetAt_does (o : OpenSet) (s : State) :
    (endSetAt o s).trk.queue = s.trk.queue.map (fun x => if x.anchor = o.lastSheet then { x with setEnd := true } else x)
      ∧ (endSetAt o s).col = s.col ∧ (endSetAt o s).tix = s.tix := by
  unfold endSetAt
  split
  · exact ⟨rfl, rfl, rfl⟩
  · rename_i h
    obtain ⟨h1, h2, h3⟩ := closeRequest_desk o.number s
    rw [h1, h2, h3]
    exact ⟨(map_eq_self_of_findSheet h _).symm, rfl, rfl⟩

theorem endPurgeSet_does {s : State} (h : ∀ o, s.col.openSet = some o → o.owner = .purge) :
    (endPurgeSet s).trk.queue = setEnded s ∧ (endPurgeSet s).col = { s.col with openSet := none } ∧
      (endPurgeSet s).tix = s.tix := by
  unfold endPurgeSet
  split
  · rename_i o ho
    obtain ⟨h1, h2, h3⟩ := endSetAt_does o s
    rw [if_pos (h o ho)]
    exact ⟨by simp only [setEnded, ho]; exact h1, by simp only [forgetOpen, h2], h3⟩
  · rename_i ho
    refine ⟨by simp only [setEnded, ho], ?_, rfl⟩
    conv => lhs; rw [show s.col = { s.col with openSet := s.col.openSet } from rfl, ho]

theorem endTicketSet_does {s : State} {ring : Index} (h : ∀ o, s.col.openSet = some o → o.owner = .ticket ring) :
    (endTicketSet ring s).trk.queue = setEnded s ∧ (endTicketSet ring s).col = { s.col with openSet := none } ∧
      (endTicketSet ring s).tix = s.tix := by
  unfold endTicketSet
  split
  · rename_i o ho
    obtain ⟨h1, h2, h3⟩ := endSetAt_does o s
    rw [if_pos (h o ho)]
    exact ⟨by simp only [setEnded, ho]; exact h1, by simp only [forgetOpen, h2], h3⟩
  · rename_i ho
    refine ⟨by simp only [setEnded, ho], ?_, rfl⟩
    conv => lhs; rw [show s.col = { s.col with openSet := s.col.openSet } from rfl, ho]

/-! ### Tickets -/

/-- R65: the ticket of a ring index is the one that stands in the table. -/
theorem findTicket_of_mem {t : List Ticket} (h : (t.map Ticket.ring).Nodup) {k : Ticket} (hk : k ∈ t) :
    findTicket k.ring t = some k := by
  induction t with
  | nil => cases hk
  | cons x xs ih =>
    simp only [List.map_cons, List.nodup_cons] at h
    rcases List.mem_cons.1 hk with rfl | hk
    · simp [findTicket]
    · have : x.ring ≠ k.ring := fun e => h.1 (e ▸ List.mem_map_of_mem hk)
      simp only [findTicket, List.find?_cons, this, decide_false] at ih ⊢
      exact ih h.2 hk

/-- The edited table answers with the edited ticket. -/
theorem findTicket_edit {t : List Ticket} {r ring : Index} {k : Ticket} {f : Ticket → Ticket} (hf : ∀ x, (f x).ring = x.ring)
    (h : findTicket ring t = some k) :
    findTicket ring (t.map fun x => if x.ring = r then f x else x) = some (if k.ring = r then f k else k) := by
  induction t with
  | nil => cases h
  | cons x xs ih =>
    by_cases hx : x.ring = ring
    · have : x = k := by simpa [findTicket, hx] using h
      subst this
      simp only [findTicket, List.map_cons, List.find?_cons]
      have : (if x.ring = r then f x else x).ring = ring := by split <;> simp [hf, hx]
      simp [this]
    · have h' : findTicket ring xs = some k := by simpa [findTicket, hx] using h
      have : (if x.ring = r then f x else x).ring ≠ ring := by split <;> simp [hf, hx]
      simp only [findTicket, List.map_cons, List.find?_cons, this, decide_false]
      exact ih h'

theorem findTicket_ring {t : List Ticket} {ring : Index} {k : Ticket} (h : findTicket ring t = some k) : k.ring = ring := by
  simpa using List.find?_some h

/-- R77: closing the piece of the COLLATING ticket. -/
theorem closePiece_does {s : State} {k : Ticket} (hr : ringsApart s) (h : collates s k) :
    closesPiece s (closePiece k.ring s) k := by
  have hk : findTicket k.ring s.tix.table = some k := findTicket_of_mem hr (List.mem_of_find?_eq_some h.1)
  obtain ⟨q1, c1, t1⟩ := endTicketSet_does (s := addTicketReason k.ring .short s) (ring := k.ring) (by simpa using h.2)
  have hf := findTicket_edit (r := k.ring) (f := fun t => { t with state := .closed }) (fun _ => rfl)
    (findTicket_edit (r := k.ring) (f := fun t => { t with reasons := t.reasons ||| Reason.short.bit }) (fun _ => rfl) hk)
  have hm : (s.tix.table.map fun x => if x.ring = k.ring then { x with reasons := x.reasons ||| Reason.short.bit } else x).map
      (fun x => if x.ring = k.ring then { x with state := .closed } else x)
      = s.tix.table.map fun x => if x.ring = k.ring then { x with state := .closed, reasons := x.reasons ||| Reason.short.bit } else x := by
    rw [List.map_map]
    refine List.map_congr_left fun x _ => ?_
    simp only [Function.comp]
    split <;> simp_all
  unfold closePiece disposeIfFinal
  simp only [State.editTicket, t1, addTicketReason_tix, hf, if_true]
  have hq : setEnded (addTicketReason k.ring .short s) = setEnded s := by simp [setEnded]
  split
  · rename_i hc
    have hc' : k.setsFinal = k.setsIssued := hc.2
    refine ⟨by simpa [makeDisposition, State.editTicket, hq] using q1, by simpa [makeDisposition, State.editTicket] using c1, ?_, ?_⟩
    · simp only [makeDisposition, State.editTicket, hc', if_true, hm, List.map_map]
      refine List.map_congr_left fun x _ => ?_
      simp only [Function.comp]
      split <;> simp_all
    · simp [makeDisposition, State.editTicket, hc']
  · rename_i hc
    have hc' : ¬ k.setsFinal = k.setsIssued := fun e => hc ⟨trivial, e⟩
    refine ⟨by simpa [hq] using q1, by simpa using c1, ?_, ?_⟩
    · simp only [hc', if_false, hm]
    · simp [hc']

/-- R79: a sheet joins a purge set. -/
theorem joinPurge_does (s : State) (a : Word) : joinsPurge s (joinPurge a s) a := by
  intro n c hn ho
  unfold joinPurge openPurge
  cases hs : s.col.openSet with
  | none =>
    obtain ⟨rfl, rfl⟩ := hn hs
    simp [OpenSet.add, Config.setCapacity, nextSet, State.nextSetNumber]
  | some o =>
    obtain ⟨h1, rfl, rfl⟩ := ho o hs
    simp [hs, OpenSet.add, Config.setCapacity, h1]

@[simp] theorem joinPurge_tix (a : Word) (s : State) : (joinPurge a s).tix = s.tix := by
  unfold joinPurge openPurge
  cases hs : s.col.openSet with
  | none => simp
  | some o => simp [hs]

/-- R79, R85: a purge join at a boundary leaves the pending sheet and keeps the boundary. -/
theorem joinPurge_atBoundary {s : State} (h : atBoundary s) (a : Word) :
    (joinPurge a s).col.pendingRead = s.col.pendingRead ∧ atBoundary (joinPurge a s) := by
  unfold atBoundary
  rw [joinPurge_tix]
  refine (fun h1 : _ ∧ _ => ⟨h1.1, h.1, h1.2⟩) ?_
  unfold joinPurge openPurge
  cases hs : s.col.openSet with
  | none => simp [OpenSet.add, Config.setCapacity]
  | some o =>
    by_cases hc : o.sheets + 1 = Config.setCapacity <;> simp [hs, OpenSet.add, hc]
    exact h.2 o hs

/-- The table after a ticket was edited again. -/
theorem map_edit_edit (t : List Ticket) (r : Index) (f g : Ticket → Ticket) (hf : ∀ x, (f x).ring = x.ring) :
    (t.map fun x => if x.ring = r then f x else x).map (fun x => if x.ring = r then g x else x)
      = t.map fun x => if x.ring = r then g (f x) else x := by
  rw [List.map_map]
  refine List.map_congr_left fun x _ => ?_
  simp only [Function.comp]
  split <;> simp_all

/-- The dispositions NOT_SEEN of a list of tickets. -/
theorem notSeen_fold (l : List Ticket) (s : State) :
    (l.foldl (fun s t => makeDisposition .notSeen t s) s).trk = s.trk ∧
    (l.foldl (fun s t => makeDisposition .notSeen t s) s).col = s.col ∧
    (l.foldl (fun s t => makeDisposition .notSeen t s) s).tix.table = s.tix.table.map (fun x =>
      if x.ring ∈ l.map Ticket.ring then { x with state := .disposing } else x) ∧
    (l.foldl (fun s t => makeDisposition .notSeen t s) s).tix.waiting = s.tix.waiting ++ l.map fun x =>
      { ring := x.ring, serial := x.serial, outcome := .notSeen, count := x.assigned, reasons := x.reasons } := by
  induction l generalizing s with
  | nil => simp
  | cons x xs ih =>
    obtain ⟨h1, h2, h3, h4⟩ := ih (makeDisposition .notSeen x s)
    simp only [List.foldl_cons]
    refine ⟨h1, h2, ?_, ?_⟩
    · rw [h3]
      simp only [makeDisposition, State.editTicket, List.map_map]
      refine List.map_congr_left fun y _ => ?_
      simp only [Function.comp, List.map_cons, List.mem_cons]
      by_cases hy : y.ring = x.ring <;> simp [hy]
    · rw [h4]
      simp [makeDisposition, State.editTicket]

/-- R81: the WAITING tickets before `k` are passed over. -/
theorem passOver_does (k : Ticket) (s : State) : passes s (passOver k.ring s) k := by
  obtain ⟨h1, h2, h3, h4⟩ := notSeen_fold (passedBefore k s) s
  exact ⟨congrArg Tracking.queue h1, h2, h3, h4⟩

/-- R76, R77: the set a ticket's sheet joins, and what it was opened from. -/
theorem openFor_does (ring : Index) (s : State) :
    (∀ o, s.col.openSet = some o → o.owner = .ticket ring → openFor ring s = s) ∧
    ((∀ o, s.col.openSet = some o → o.owner = .purge) →
      (openFor ring s).trk.queue = setEnded s ∧
      (openFor ring s).col = { s.col with
        setCounter := s.nextSetNumber
        openSet := some { number := s.nextSetNumber, owner := .ticket ring, sheets := 0, lastSheet := 0 } } ∧
      (openFor ring s).tix = (s.editTicket ring fun t => { t with setsIssued := t.setsIssued + 1 }).tix) := by
  constructor
  · intro o ho hw
    simp [openFor, ho, hw]
  · intro h
    have hn : ¬ (s.col.openSet.map OpenSet.owner) = some (.ticket ring) := by
      cases hs : s.col.openSet with
      | none => simp
      | some o => simp [h o hs]
    obtain ⟨h1, h2, h3⟩ := endPurgeSet_does h
    unfold openFor
    rw [if_neg hn]
    simp only [State.editTicket, h1, h2, h3]
    exact ⟨trivial, rfl, trivial⟩

/-- R76: a sheet joins a ticket's set: the whole of it, the next expected index and the reasons aside. -/
theorem joinTicket_does {s : State} {k : Ticket} (hk : findTicket k.ring s.tix.table = some k) (a : Word) (last : Bool)
    {o : OpenSet} {q : List Sheet} {fresh ends full : Bool}
    (ho : s.col.openSet = some o ∧ o.owner = .ticket k.ring ∧ q = s.trk.queue ∧ fresh = false ∨
      (∀ p, s.col.openSet = some p → p.owner = .purge) ∧ q = setEnded s ∧ fresh = true ∧
        o = { number := s.nextSetNumber, owner := .ticket k.ring, sheets := 0, lastSheet := 0 })
    (he : ends = true ↔ k.assigned + 1 = k.count ∨ k.assigned + 1 = 255 ∨ last = true)
    (hf : full = true ↔ ends = false ∧ o.sheets + 1 = 14) :
    (joinTicket k.ring a last s).trk.queue
      = assignedIn a { owner := .ticket k.ring, number := o.number, position := o.sheets + 1 } (ends || full) q ∧
    (joinTicket k.ring a last s).tix.table = s.tix.table.map (fun x => if x.ring = k.ring then { x with
      assigned := k.assigned + 1, state := if ends = true then .closed else .collating
      setsIssued := if fresh = true then x.setsIssued + 1 else x.setsIssued
      reasons := x.reasons ||| (if full = true then Reason.oversize.bit else 0) } else x) ∧
    (joinTicket k.ring a last s).tix.waiting = s.tix.waiting ∧
    (joinTicket k.ring a last s).col = { s.col with
      openSet := if ends = true ∨ full = true then none else some { o with sheets := o.sheets + 1, lastSheet := a }
      setCounter := if fresh = true then o.number else s.col.setCounter } := by
  have hw : o.owner = .ticket k.ring := by rcases ho with h | h <;> simp_all
  -- the open set before the join
  have h1 : (openFor k.ring s).trk.queue = q ∧
      (openFor k.ring s).col = { s.col with
        openSet := some o, setCounter := if fresh = true then o.number else s.col.setCounter } ∧
      (openFor k.ring s).tix.waiting = s.tix.waiting ∧
      (openFor k.ring s).tix.table = s.tix.table.map (fun x => if x.ring = k.ring then
        { x with setsIssued := if fresh = true then x.setsIssued + 1 else x.setsIssued } else x) := by
    rcases ho with ⟨h1, h2, rfl, rfl⟩ | ⟨h1, rfl, rfl, rfl⟩
    · rw [(openFor_does k.ring s).1 o h1 h2, ← h1]
      exact ⟨rfl, rfl, rfl, by simp⟩
    · obtain ⟨g1, g2, g3⟩ := (openFor_does k.ring s).2 h1
      rw [g1, g2, g3]
      exact ⟨rfl, by simp, rfl, by simp [State.editTicket]⟩
  have hk1 : findTicket k.ring (openFor k.ring s).tix.table
      = some { k with setsIssued := if fresh = true then k.setsIssued + 1 else k.setsIssued } := by
    rw [h1.2.2.2]
    exact (findTicket_edit (r := k.ring) (f := fun x =>
      { x with setsIssued := if fresh = true then x.setsIssued + 1 else x.setsIssued }) (fun _ => rfl) hk).trans
      (by rw [if_pos rfl])
  have hos : (openFor k.ring s).col.openSet = some o := by rw [h1.2.1]
  have hE : (decide (k.assigned + 1 = k.count) || decide (k.assigned + 1 = 255) || last) = ends := by
    rw [Bool.eq_iff_iff, he]; simp [or_assoc]
  have hF : (!ends && decide (o.sheets + 1 = 14)) = full := by
    rw [Bool.eq_iff_iff, hf]; simp
  unfold joinTicket
  simp only [hos, hk1, OpenSet.add, Config.setCapacity, hE, hF, hw]
  cases full <;> simp only [Bool.false_eq_true, if_false, if_true, addTicketReason_trk, addTicketReason_col,
    addTicketReason_tix, assign_queue, assign_col, assign_tix, State.editTicket, h1, List.map_map]
  · refine ⟨trivial, ?_, trivial, ?_⟩
    · refine List.map_congr_left fun x _ => ?_
      simp only [Function.comp]
      split <;> simp_all
    · cases ends <;> simp
  · refine ⟨trivial, ?_, trivial, ?_⟩
    · refine List.map_congr_left fun x _ => ?_
      simp only [Function.comp]
      split <;> simp_all
    · cases ends <;> simp

/-- R80: a reason that enters the ticket's reason set unless `c` holds. -/
theorem reasonUnless (c : Prop) [Decidable c] (ring : Index) (r : Reason) (s : State) :
    (if c then s else addTicketReason ring r s).trk = s.trk ∧ (if c then s else addTicketReason ring r s).col = s.col ∧
      (if c then s else addTicketReason ring r s).tix.waiting = s.tix.waiting ∧
      (if c then s else addTicketReason ring r s).tix.table = s.tix.table.map (fun x => if x.ring = ring then
        { x with reasons := x.reasons ||| (if c then 0 else r.bit) } else x) := by
  split <;> simp [State.editTicket]

/-- R80: the checks of an OK sheet, before its join. -/
theorem checkSheet_does (k : Ticket) (f : Frame) (s : State) :
    (checkSheet k f s).trk = s.trk ∧ (checkSheet k f s).col = s.col ∧
      (checkSheet k f s).tix.waiting = s.tix.waiting ∧
      (checkSheet k f s).tix.table = s.tix.table.map (fun x => if x.ring = k.ring then { x with
        expected := f.index.toNat + 1, reasons := x.reasons ||| checkReasons k f } else x) := by
  have hl : (f.isLast = decide (f.index.toNat + 1 = k.count)) ↔ (f.isLast = true ↔ f.index.toNat + 1 = k.count) := by
    rw [Bool.eq_iff_iff]; simp
  obtain ⟨a1, a2, a3, a4⟩ := reasonUnless (f.index.toNat = k.expected) k.ring .sequence s
  obtain ⟨b1, b2, b3, b4⟩ := reasonUnless (f.isLast = decide (f.index.toNat + 1 = k.count)) k.ring .lastMismatch
    ((if f.index.toNat = k.expected then s else addTicketReason k.ring .sequence s).editTicket k.ring fun x =>
      { x with expected := f.index.toNat + 1 })
  refine ⟨b1.trans a1, b2.trans a2, b3.trans a3, b4.trans ?_⟩
  simp only [State.editTicket, a4, List.map_map, checkReasons, ← hl]
  refine List.map_congr_left fun x _ => ?_
  simp only [Function.comp]
  split <;> simp_all [BitVec.or_assoc]

/-- R80: an OK sheet of the ticket `k`. -/
theorem decideCurrent_does {s : State} {k : Ticket} (hk : findTicket k.ring s.tix.table = some k) (a : Word) (f : Frame) :
    joinsTicket s (decideCurrent k a f s) k a (checkReasons k f) (f.index.toNat + 1) f.isLast := by
  intro o q fresh ends full ho he hf
  obtain ⟨hl, ht, hw, hb⟩ := checkSheet_does k f s
  have hk' := findTicket_edit (r := k.ring) (f := fun x => { x with
    expected := f.index.toNat + 1, reasons := x.reasons ||| checkReasons k f }) (fun _ => rfl) hk
  rw [← hb, if_pos rfl] at hk'
  obtain ⟨h1, h2, h3, h4⟩ := joinTicket_does (s := checkSheet k f s)
    (k := { k with expected := f.index.toNat + 1, reasons := k.reasons ||| checkReasons k f }) hk' a f.isLast (o := o) (q := q) (fresh := fresh)
    (by simpa [setEnded, State.nextSetNumber, hl, ht] using ho) he hf
  refine ⟨h1, ?_, h3.trans hw, by rw [decideCurrent, h4], by rw [decideCurrent, h4, ht]⟩
  rw [decideCurrent, h2, hb, List.map_map]
  refine List.map_congr_left fun x _ => ?_
  simp only [Function.comp]
  split <;> simp_all

/-- R84: an unread sheet of the ticket `k`'s piece. -/
theorem unreadJoins_does {s : State} {k : Ticket} (hk : findTicket k.ring s.tix.table = some k) (a : Word)
    (hr : ringsApart s) :
    joinsTicket s (unreadJoins k a s) k a Reason.unread.bit (min 255 (k.expected + 1)) false := by
  intro o q fresh ends full ho he hf
  obtain ⟨h1, h2, h3, h4⟩ := joinTicket_does hk a false ho he hf
  refine ⟨?_, ?_, ?_, ?_, ?_⟩
  · simpa [unreadJoins, State.editTicket] using h1
  · simp only [unreadJoins, addTicketReason_tix, State.editTicket, h2, List.map_map]
    refine List.map_congr_left fun x hx => ?_
    simp only [Function.comp]
    by_cases hx' : x.ring = k.ring
    · have : x = k := by
        have := findTicket_of_mem hr hx
        rw [hx', hk] at this
        exact (Option.some.inj this).symm
      subst this
      simp only [if_true]
      congr 1
      rw [BitVec.or_assoc, BitVec.or_assoc, BitVec.or_comm (if full = true then _ else _)]
    · simp [hx']
  · simpa [unreadJoins, State.editTicket] using h3
  · simp [unreadJoins, State.editTicket, h4]
  · simp [unreadJoins, State.editTicket, h4]

/-! ### Outcomes -/

/-- A reason's bit, held or not in a set of reasons. -/
theorem Reason.and_bit (w : BitVec 12) (r : Reason) : w &&& r.bit = 0 ∨ w &&& r.bit = r.bit := by
  have h (i : Nat) (e : r.bit = BitVec.twoPow 12 i) : w &&& r.bit = 0 ∨ w &&& r.bit = r.bit := by
    rw [e, BitVec.and_twoPow]
    split
    · exact .inr rfl
    · exact .inl rfl
  cases r
  exacts [h 0 rfl, h 1 rfl, h 2 rfl, h 3 rfl, h 4 rfl, h 5 rfl, h 6 rfl, h 7 rfl, h 8 rfl, h 9 rfl, h 10 rfl, h 11 rfl]

/-- R89: of each reason listed, those of the set enter the ticket's reason set. -/
theorem addReasons_fold (ring : Index) (w : BitVec 12) (l : List Reason) (s : State) :
    (l.foldl (fun s r => if w &&& r.bit = 0 then s else addTicketReason ring r s) s).tix
      = (s.editTicket ring fun x => { x with reasons := x.reasons ||| (w &&& l.foldl (fun b r => b ||| r.bit) 0) }).tix := by
  have hb (l : List Reason) (b : BitVec 12) : l.foldl (fun b r => b ||| r.bit) b = b ||| l.foldl (fun b r => b ||| r.bit) 0 := by
    induction l generalizing b with
    | nil => simp
    | cons r l ih => simp only [List.foldl_cons]; rw [ih, ih (0 ||| r.bit)]; simp [BitVec.or_assoc]
  induction l generalizing s with
  | nil => simp [State.editTicket]
  | cons r l ih =>
    simp only [List.foldl_cons]
    rw [ih, hb l (0 ||| r.bit), show (0 : BitVec 12) ||| r.bit = r.bit from BitVec.zero_or, BitVec.and_or_distrib_left]
    rcases Reason.and_bit w r with h | h
    · simp [h]
    · rw [h]
      split
      · rename_i h0
        simp [h0]
      · simp only [State.editTicket, addTicketReason_tix]
        rw [map_edit_edit _ ring (fun x => { x with reasons := x.reasons ||| r.bit }) _ fun _ => rfl]
        simp only [BitVec.or_assoc]

/-- R89: the reasons of a set enter the ticket's reason set. -/
theorem addReasons_tix (ring : Index) (w : BitVec 12) (s : State) :
    (addReasons ring w s).tix = (s.editTicket ring fun x => { x with reasons := x.reasons ||| w }).tix := by
  have h : allReasons.foldl (fun b r => b ||| r.bit) (0 : BitVec 12) = BitVec.allOnes 12 := by decide
  rw [addReasons, addReasons_fold, h, BitVec.and_allOnes]

/-- R89, R90: the outcome of a set of the ticket `k`. -/
theorem reportOutcome_does {s : State} {k : Ticket} {ring : Index} (hk : findTicket ring s.tix.table = some k)
    (h : k.state = .collating ∨ k.state = .closed) (why : BitVec 12) (diverted : Bool) :
    reachesOutcome s (reportOutcome (.ticket ring) why diverted s) k why diverted := by
  have hr := findTicket_ring hk
  subst hr
  have hf := findTicket_edit (r := k.ring) (f := fun x => { x with diverted := x.diverted || diverted, setsFinal := x.setsFinal + 1 })
    (fun _ => rfl) (findTicket_edit (r := k.ring) (f := fun x => { x with reasons := x.reasons ||| why }) (fun _ => rfl) hk)
  simp only [if_true] at hf
  have hm : (addReasons k.ring why s).tix.table.map (fun x => if x.ring = k.ring then
        { x with diverted := x.diverted || diverted, setsFinal := x.setsFinal + 1 } else x)
      = s.tix.table.map fun x => if x.ring = k.ring then
        { x with reasons := x.reasons ||| why, diverted := x.diverted || diverted, setsFinal := x.setsFinal + 1 } else x := by
    rw [addReasons_tix]
    exact map_edit_edit _ _ _ _ fun _ => rfl
  have hw : (addReasons k.ring why s).tix.waiting = s.tix.waiting := by rw [addReasons_tix]; rfl
  rw [map_edit_edit _ k.ring (fun x => { x with reasons := x.reasons ||| why }) _ fun _ => rfl, ← hm] at hf
  unfold reachesOutcome reportOutcome disposeIfFinal
  simp only [hk, h, if_true, State.editTicket, hf]
  by_cases hc : k.state = .closed ∧ k.setsFinal + 1 = k.setsIssued
  · simp only [hc, and_self, if_true, makeDisposition, State.editTicket, hm, hw, Bool.or_eq_true]
    exact ⟨map_edit_edit _ _ _ _ fun _ => rfl, trivial⟩
  · simp only [hc, if_false, hm, hw, List.append_nil, and_self]

end Sys2Proof.Machine
end

