-- ==== Sys2Proof/Laws/Planner.lean ====
section
/-! SUPPORT. What the hold planner's shared operations do: one lemma for each says every state it can lead to. -/

namespace Sys2Proof.Machine

/-- R112: a changed stop target is to be reported met again; one set or moved nearer while pulses remain is taken up
at once, and met when it has been reached; any other is left to the next tick. -/
theorem takeTarget_cases (old new : Option Word) (s : State) :
    takeTarget old new s = { s with tr := { s.tr with metTold := false } } ∧
        (∀ t, new = some t → nearer old t = true → s.tr.due ≤ s.tr.emitted) ∨
      ∃ t, new = some t ∧ nearer old t = true ∧ s.tr.emitted < s.tr.due ∧
        (0 < s.remaining t ∧ takeTarget old new s
            = { s with tr := { s.tr with metTold := false, targetW := some t, targetC := some (t + s.deviation) } } ∨
          s.remaining t ≤ 0 ∧ takeTarget old new s = targetMet
            { s with tr := { s.tr with metTold := false, targetW := some t, targetC := some (t + s.deviation) } }) := by
  cases new with
  | none => exact .inl ⟨rfl, nofun⟩
  | some t =>
    unfold takeTarget
    by_cases h : (nearer old t && decide (s.tr.emitted < s.tr.due)) = true
    · right
      obtain ⟨h1, h2⟩ := Bool.and_eq_true_iff.1 h
      refine ⟨t, rfl, h1, of_decide_eq_true h2, ?_⟩
      simp only [h, if_true]
      by_cases hr : s.remaining t ≤ 0
      · exact .inr ⟨hr, by rw [if_pos hr]; rfl⟩
      · exact .inl ⟨Int.not_le.1 hr, by rw [if_neg hr]; rfl⟩
    · left
      refine ⟨if_neg h, ?_⟩
      intro _ e hn
      rw [← Option.some.inj e] at hn
      simpa [hn] using h

/-- R111: at most the mark that the target was reported met is taken back. -/
theorem retell_cases (cause : StopCause) (s : State) :
    retell cause s = s ∧ (cause.halts = false ∨ cause = s.pln.cause) ∨
      retell cause s = { s with tr := { s.tr with metTold := false } } ∧ cause.halts = true ∧ cause ≠ s.pln.cause := by
  unfold retell
  split
  · rename_i h
    simp only [Bool.and_eq_true, decide_eq_true_eq] at h
    exact .inr ⟨rfl, h⟩
  · rename_i h
    refine .inl ⟨rfl, ?_⟩
    cases hc : cause.halts with
    | false => exact .inl rfl
    | true => right; simpa [hc] using h

/-- R95 to R98: outside RUN, HALTING and HALTED the planner is left as it is. -/
theorem refresh_of_not_running {s : State} (h : s.seq.line.running = false) : refresh s = s := by
  simp [refresh, refreshOnce, h]

/-- R95 to R98: a planner that stands as the rules name it is left so. -/
theorem refresh_of_planned {s : State} (h : planNow s = s.pln) : refresh s = s := by
  have h1 : refreshOnce s = s := by
    unfold refreshOnce
    split
    · rcases retell_cases (planNow s).cause s with ⟨hr, -⟩ | ⟨-, -, hc⟩
      · simp only [hr, if_pos (congrArg Planner.stop h)]
        rw [h]; rfl
      · exact absurd (congrArg Planner.cause h) hc
    · rfl
  rw [refresh, h1, h1]

/-- R50: after an event that is neither an advance nor a tick, the planner is named afresh, and the nip is tested where
the event is one of R50's. -/
theorem settleSince_cases (old s : State) :
    settleSince old s = fireTest (refresh s) ∧ firingEvent old (refresh s) = true ∨
      settleSince old s = refresh s ∧ firingEvent old (refresh s) = false := by
  unfold settleSince
  dsimp only
  split
  · exact .inl ⟨rfl, ‹_›⟩
  · exact .inr ⟨rfl, Bool.eq_false_iff.2 ‹_›⟩

/-- R50: a step that leaves the queue as it was has assigned no front record, where its anchor names it alone. -/
theorem frontAssigned_of_queue {old new : State} (h : new.trk.queue = old.trk.queue)
    (ho : ∀ r, frontOf .readDone old.trk.queue = some r → ∀ x ∈ old.trk.queue, x.anchor = r.anchor → x = r) :
    frontAssigned old new = false := by
  unfold frontAssigned
  rw [h]
  cases hq : frontOf .readDone old.trk.queue with
  | none => rfl
  | some r =>
    have hf : findSheet r.anchor old.trk.queue = some r := by
      unfold findSheet
      cases hy : old.trk.queue.find? (fun x => decide (x.anchor = r.anchor)) with
      | none => exact absurd (List.find?_eq_none.1 hy r (List.mem_of_find?_eq_some hq)) (by simp)
      | some y =>
        have ha := List.find?_some hy
        rw [ho r hq y (List.mem_of_find?_eq_some hy) (of_decide_eq_true ha)]
    show (r.assignment.isSome && ((findSheet r.anchor old.trk.queue).bind Sheet.assignment).isNone) = false
    rw [hf]
    show (r.assignment.isSome && r.assignment.isNone) = false
    cases r.assignment <;> rfl

/-- R50, R95 to R98: an event that leaves the queue and the planner as they were, the planner as the rules name it,
does nothing at the nip. -/
theorem settleSince_of_planned {old s : State} (hq : s.trk.queue = old.trk.queue) (hp : s.pln = old.pln)
    (hr : s.seq.line.running = false ∨ planNow s = s.pln)
    (ho : ∀ r, frontOf .readDone old.trk.queue = some r → ∀ x ∈ old.trk.queue, x.anchor = r.anchor → x = r) :
    settleSince old s = s := by
  have hf : refresh s = s := hr.elim refresh_of_not_running refresh_of_planned
  have hx : firingEvent old s = false := by
    unfold firingEvent
    rw [frontAssigned_of_queue hq ho, hp]
    cases old.pln.gateOpen <;> simp
  rcases settleSince_cases old s with ⟨-, h⟩ | ⟨h, -⟩
  · rw [hf, hx] at h; exact absurd h (by decide)
  · rw [h, hf]

/-- R94, R101: a re-anchored sheet changes at most the halt sheet's name and, in HALTING, the halt target. -/
theorem haltAtReanchor_cases (anchor d : Word) (s : State) :
    haltAtReanchor anchor d s = s ∧ s.pln.haltSheet ≠ .sheet anchor ∨
      s.pln.haltSheet = .sheet anchor ∧ haltAtReanchor anchor d s = { s with pln := { s.pln with
        haltSheet := .sheet (anchor + d)
        haltTarget := if s.chooses = true then s.pln.haltTarget.map fun t => t + d else s.pln.haltTarget } } := by
  unfold haltAtReanchor
  split
  · exact .inr ⟨‹_›, rfl⟩
  · exact .inl ⟨rfl, ‹_›⟩

end Sys2Proof.Machine
end

