-- ==== Sys2Proof/Tests/Slice0.lean ====
section
/-! SUPPORT. The model's own tests: the WellFormed smoke test, figures the spec works out or tabulates, one step at a
time; and for every statement of Certificates/Slice0/Obligations.lean with hypotheses, a witness that meets them. -/

namespace Sys2Proof.Tests

open Sys2Proof.Machine

/-! ### States the tests start from -/

/-- Start-up is over; the line is IDLE. -/
def up : State :=
  { State.reset with
    seq := { Sequencer.reset with startupComplete := true }
    path := { State.reset.path with startPos := 56 } }

/-- The line in a state, the transport STILL, with the outputs of that state. -/
def inLine (l : LineState) : State :=
  { up with
    seq := { up.seq with line := l }
    tr := { up.tr with driveEnable := driveLevel l .still, beltRun := beltLevel l } }

/-- A working value replaced. -/
def withSetup (n : Nat) (v : Word) (s : State) : State :=
  { s with path := { s.path with shadow := s.path.shadow.set n v } }

/-- A sheet record in a stage. -/
def sheet (anchor : Word) (st : Stage) : Sheet :=
  { anchor := anchor, origin := .read, result := .ok
    frame := some { tag := 1, serial := 5001, index := 0, isLast := true }
    assignment := some { owner := .ticket 0, number := 1, position := 1 }
    setEnd := true, stage := st, sepPos := some 1000, leadPos := some 7412, length := none, verdict := none }

/-- A ticket in a state. -/
def ticket (ring : Index) (serial : Serial) (st : TicketState) : Ticket :=
  { ring := ring, serial := serial, tag := 1, count := 1, style := .flat, cls := .normal, invalid := none
    amended := false, assigned := 0, expected := 0, reasons := 0, setsIssued := 0, setsFinal := 0, diverted := false
    state := st }

/-- A set of one sheet owned by ring index 0. -/
def oneSet : SetRecord := { number := 1, owner := .ticket 0, sheets := [100], reasons := 0, style := .half }

/-- A gauge that reads nothing. -/
def noGauge : Gauge := { reading := 0, valid := false }

/-- A timer whose expiry is due. -/
def due : Timer := { running := true, left := 0 }

/-- The state a command leads to. -/
def after (o : Out) : State :=
  match o with
  | .next t => t
  | .fault _ | .refused _ => State.reset

/-- RUN with one sheet on the belt and one ticket. -/
def running : State :=
  { inLine .run with
    trk := { Tracking.reset with queue := [sheet 0 .separated], registered := true, nextPerf := some 5588 }
    tix := { TicketUnit.reset with table := [ticket 0 5001 .closed], fetchIndex := 1 }
    path := { (withSetup 3 1 up).path with queue := [{ addr := 160, data := 3 }] } }

/-- The sheet queue replaced. -/
def withSheets (q : List Sheet) (s : State) : State := { s with trk := { s.trk with queue := q } }

/-- The belt counter and the belt sensor's level. -/
def onBelt (belt : Word) (edge : Bool) (s : State) : State :=
  { s with enc := { s.enc with belt := belt }, pins := { s.pins with beltEdge := edge } }

/-- The accumulator, the release unit, the reporter, the transport or the ticket unit replaced. -/
def withAcc (a : Accumulator) (s : State) : State := { s with acc := a }
def withRel (r : ReleaseUnit) (s : State) : State := { s with rel := r }
def withRep (r : Reporter) (s : State) : State := { s with rep := r }
def withTr (r : Transport) (s : State) : State := { s with tr := r }
def withTix (k : TicketUnit) (s : State) : State := { s with tix := k }

/-- A set in the build pocket, its jog over. -/
def jogged (r : SetRecord) : State :=
  withAcc { Accumulator.reset with state := .jogging, jog := true, jogTimer := due, set := some r } running

/-- A set in the build pocket, its drop over. -/
def dropped (r : SetRecord) : State :=
  withAcc { Accumulator.reset with state := .dropping, drop := true, dropTimer := due, set := some r } running

/-- A set in the hold pocket, its release over. -/
def released (v : SetVerdict) (r : SetRecord) : State :=
  withRel { ReleaseUnit.reset with hold := .releasing, verdict := v, release := true, releaseTimer := due, set := some r }
    running

/-- A set held in the hold pocket. -/
def held (r : SetRecord) : State := withRel { ReleaseUnit.reset with hold := .holding, set := some r } running

/-- A piece of one sheet. -/
def onePiece : Piece := { number := 1, owner := .ticket 0, sheets := 1, reasons := 0 }

/-- A piece in the folder, its fold time over. -/
def folding : State :=
  withRel { ReleaseUnit.reset with folding := true, folder := some onePiece, foldTimer := due, foldReq := true } running

/-- A piece on its way to the exit sensor, its time over. -/
def leaving : ExitEntry := { piece := onePiece, timer := due }

/-- One piece on its way to the exit sensor. -/
def exiting : State := withRel { ReleaseUnit.reset with exitList := [leaving] } running

/-- A disposition of DELIVERED. -/
def delivered (ring : Index) : Disposition :=
  { ring := ring, serial := 5001, outcome := .delivered, count := 1, reasons := 0 }

/-- A disposition waiting to be placed. -/
def disposing : State :=
  withTix { up.tix with table := [ticket 0 5001 .disposing], fetchIndex := 1, waiting := [delivered 0] } up

/-- The frame of the only sheet of a piece. -/
def oneFrame : Frame := { tag := 1, serial := 5001, index := 0, isLast := true }

/-! ### WellFormed -/

theorem test_wf_refuses_reads_without_lanes : Instr.wf (.controllerRead 0 0) = false := by decide
theorem test_wf_refuses_writes_without_lanes : Instr.wf (.controllerWrite 0 0 5) = false := by decide
theorem test_wf_refuses_ticket_writes_without_lanes : Instr.wf (.ticketWrite 256 0 5) = false := by decide
theorem test_wf_refuses_setup_writes_without_lanes : Instr.wf (.setupWrite 9 0 5) = false := by decide
theorem test_wf_refuses_setup_word_40 : Instr.wf (.setupWrite 40 15 5) = false := by decide
theorem test_wf_refuses_own_words_without_lanes :
    Instr.wf (.interruptAcknowledge 0 1) = false ∧ Instr.wf (.interruptEnable 0 1) = false ∧
    Instr.wf (.publishIndex 0 1) = false ∧ Instr.wf (.eventReadIndex 0 1) = false ∧
    Instr.wf (.ticketsLowMark 0 1) = false ∧ Instr.wf (.eventRingLayout true 0 1) = false := by decide
theorem test_wf_refuses_known_code : Instr.wf (.unknownCommand 7 0) = false := by decide
theorem test_wf_admits : Instr.wf (.setupWrite 39 1 5) = true ∧ Instr.wf (.unknownCommand 8 0) = true ∧
    Instr.wf .tick = true := by decide

/-! ### Figures of the spec -/

/-- R5, worked case: a target across the wrap. -/
theorem test_reached_across_wrap :
    reached 16 4294967040 = true ∧ signedDiff 16 4294967040 = 272 ∧ reached 4294967040 16 = false ∧
    signedDiff 4294967040 16 = -272 := by decide

/-- R11, worked case: a speed reading across the wrap. -/
theorem test_measured_speed : measuredSpeed (signedDiff 155 4294967200) = 31375 ∧ measuredSpeed (-3) = 0 := by decide

/-- R12, worked case: lead at speed and at the clamp. -/
theorem test_burst_lead :
    burstLead 31375 12000 = 377 ∧ burstLead 30000 8000 = 240 ∧ burstLead 125000 20000 = 2000 ∧
    burstLead 0 20000 = 0 := by decide

/-- R13, worked case: stop distance. -/
theorem test_stop_distance :
    stopDistance 40000 250000 = 3200 ∧ stopDistance 30000 200000 = 2250 ∧ stopDistance 30001 200000 = 2251 ∧
    stopDistance 1000 200000 = 3 := by decide

/-- R17, worked case: the pulse train at constant speed, its second and fourth tick. -/
theorem test_pulse_train :
    profile 31250 200000 200000 31250 250 none = { speed := 31250, remainder := 500, due := 31, permitted := none } ∧
    profile 31250 200000 200000 31250 750 none = { speed := 31250, remainder := 0, due := 32, permitted := none } := by
  decide

/-- R15, worked case: the last ticks of an approach, its first, second and fourth tick. -/
theorem test_approach :
    profile 30000 200000 200000 1000 0 (some 3)
      = { speed := 1095, remainder := 95, due := 1, permitted := some 1095 } ∧
    profile 30000 200000 200000 1095 95 (some 2)
      = { speed := 895, remainder := 990, due := 0, permitted := some 894 } ∧
    (profile 30000 200000 200000 894 884 (some 1)).speed = 694 := by decide +kernel

/-- R16, worked case: a slow start under creep. -/
theorem test_creep :
    profile 1000 10000 200000 0 0 (some 40) = { speed := 200, remainder := 200, due := 0, permitted := some 4000 } := by
  decide +kernel

/-- R24, worked example: the check register over job tag 1. -/
theorem test_check_register : (fieldBits 8 1).foldl checkStep 0xFFFF = 0x7D07 := by decide

/-- R24: the fifth bit of the same example. -/
theorem test_check_step : checkStep 0xFFD2 false = 0x7FA1 := by decide

/-- R216: five dark and one blank open a frame, and job tag 1 begins with seven blanks and a dark. -/
theorem test_printed_head :
    (printedMarks { tag := 1, serial := 5001, index := 0, isLast := false }).take 14
      = [true, true, true, true, true, false, false, false, false, false, false, false, false, true] := by decide

/-- R39, worked example and table: pass maps and their chosen phases. -/
theorem test_chosen_phase :
    chosenPhase [false, false, true, true, true, true, true, true, true, true, false, false] = 5 ∧
    chosenPhase [true, true, false, false, false, false, false, false, false, true, true, true] = 11 ∧
    chosenPhase [true, true, true, false, false, true, true, true, false, false, false, false] = 1 ∧
    chosenPhase (List.replicate 12 true) = 6 := by decide

/-- R214: the disposition of ticket 130. -/
theorem test_disposition_word :
    Disposition.word { ring := 130, serial := 6100, outcome := .diverted, count := 3
                       reasons := Reason.unread.bit ||| Reason.length.bit ||| Reason.height.bit } = 0x02030C08 := by
  decide

/-- R177: the strap settings of the memory path's chapter. -/
theorem test_straps :
    memTopOf { memSize := 0, setupPage := 15 } = 1048576 ∧ setupBaseOf { memSize := 0, setupPage := 15 } = 983040 ∧
    memTopOf { memSize := 7, setupPage := 0 } = 16777216 ∧ setupBaseOf { memSize := 0, setupPage := 20 } = 262144 := by
  decide

/-- R180, worked example: a setup session in IDLE. -/
theorem test_setup_session :
    judgeRange 1048576 64 16 80000 = some 60000 ∧ judgeRange 1048576 64 9 1000 = none ∧
    judgeRange 1048576 64 36 100 = none ∧ judgeRange 1048576 64 6 0 = some 1 ∧
    judgeRange 1048576 64 7 70000 = some 16 ∧ publishRefused 70 up = true ∧ publishRefused 5 up = false := by decide

/-! ### One step of each kind of command -/

theorem test_pin_reset_samples_straps :
    (after (exec (.pinReset { memSize := 1, setupPage := 3 } Pins.quiet) running)).path.straps
      = { memSize := 1, setupPage := 3 } := by decide

/-- R1: the forward cycle begins with channel A. -/
theorem test_web_steps :
    (after (exec (.webMotionEvent true false noGauge) up)).enc.web = 1 ∧
    (after (exec (.webMotionEvent false true noGauge) up)).enc.web = 0xFFFFFFFF := by decide

theorem test_belt_illegal_is_encoder_fault :
    (after (exec (.beltStep true true noGauge) up)).seq.firstFault = .encoder := by decide

theorem test_mark_opens_flag :
    (after (exec (.markEdge true) (inLine .register))).rd.state = .flag := by decide

/-- R55: the expected position of the leading edge is separation 1,000 plus 12,000 less 5,588, 7,412. -/
theorem test_leading_edge :
    ((after (exec .leadingEdge (onBelt 7412 false running))).trk.queue.map Sheet.stage) = [.leadSeen] := by decide

/-- R56: a sheet one over the length tolerance of 100 is LONG. -/
theorem test_trailing_edge_long :
    ((after (exec .trailingEdge (onBelt 13101 true (withSheets [sheet 0 .leadSeen] running)))).trk.queue.map
      Sheet.verdict) = [some .long] := by decide

/-- Web Transport, worked example: the first tick of REGISTER gives 200 tu/s. -/
theorem test_tick_crawls : (after (exec .tick (inLine .register))).tr.speed = 200 := by decide

/-- Web Transport, worked example: a ramp stop, its first tick. -/
theorem test_tick_ramps :
    (after (exec .tick { inLine .fault with
      tr := { (inLine .fault).tr with state := .rampStop, speed := 30000 } })).tr.due = 29 := by decide

/-- Web Transport, worked example: a slip during the ramp. -/
theorem test_step_pulse_slips :
    (after (exec .stepPulse { inLine .fault with
      tr := { (inLine .fault).tr with
        state := .rampStop, speed := 17400, due := 17, emitted := 8, command := 400, driveEnable := true }
      seq := { (inLine .fault).seq with firstFault := .missingSheet } })).seq
      = { (inLine .fault).seq with firstFault := .missingSheet, added := 1 } := by decide

theorem test_snap_end :
    (after (exec .snapEnd { running with trk := { running.trk with snap := true, snapTimer := due } })).trk.snap
      = false := by decide

/-- R131, table: the set of 5 sheets at reading 131 fails, and at 120 passes. -/
theorem test_jog_end_height :
    ((after (exec (.jogEnd { reading := 131, valid := true }) { inLine .run with
      acc := { Accumulator.reset with
        state := .jogging, jog := true, jogTimer := due
        set := some { oneSet with sheets := [1, 2, 3, 4, 5] } } })).acc.set.map SetRecord.reasons)
      = some Reason.height.bit := by decide
theorem test_jog_end_drops :
    (after (exec (.jogEnd { reading := 120, valid := true }) { inLine .run with
      acc := { Accumulator.reset with
        state := .jogging, jog := true, jogTimer := due
        set := some { oneSet with sheets := [1, 2, 3, 4, 5] } } })).acc.dropTimer
      = { running := true, left := 120 } := by decide

/-- R134, R141: a set without reasons is GOOD and waits for the folder. -/
theorem test_drop_end :
    (after (exec .dropEnd { inLine .run with
      acc := { Accumulator.reset with state := .dropping, drop := true, dropTimer := due, set := some oneSet } })).rel.hold
      = .holding := by decide

theorem test_release_end_folds :
    (after (exec .releaseEnd { inLine .run with
      rel := { ReleaseUnit.reset with
        hold := .releasing, release := true, releaseTimer := due, set := some oneSet } })).rel.foldTimer
      = { running := true, left := 1500 } := by decide

theorem test_fold_timeout :
    (after (exec .foldTimeout { inLine .run with
      rel := { ReleaseUnit.reset with folding := true, foldTimer := due } })).seq.firstFault = .foldTimeout := by decide

theorem test_exit_missing :
    (after (exec .exitMissing { inLine .run with
      rel := { ReleaseUnit.reset with
        exitList := [{ piece := { number := 1, owner := .purge, sheets := 1, reasons := 0 }, timer := due }] } })).seq.line
      = .fault := by decide

theorem test_snapshot :
    (after (exec .snapshot { up with rep := { up.rep with snapDue := true }, enc := { up.enc with web := 7 } })).rep.snapValues
      = [7, 0, 0, 0, 0] := by decide

/-- R149: a folded piece is expected at the exit for the exit time, setup word 32. -/
theorem test_fold_done :
    ((after (exec (.foldDone true) { inLine .run with
      rel := { ReleaseUnit.reset with
        folding := true, folder := some { number := 1, owner := .ticket 0, sheets := 1, reasons := 0 } } })).rel.exitList.map
        ExitEntry.timer) = [{ running := true, left := 1000 }] := by decide

theorem test_fold_fault : (after (exec (.foldFault true) (inLine .run))).seq.firstFault = .foldFault := by decide

theorem test_exit_stray : (after (exec (.exitEdge true) (inLine .run))).seq.firstFault = .strayExit := by decide

theorem test_reject_full_holds :
    (after (exec (.rejectFullChange false) { inLine .run with
      pins := { Pins.quiet with rejectFull := true }
      rel := { ReleaseUnit.reset with hold := .holding, set := some { oneSet with owner := .purge } } })).rel.divert
      = true := by decide

theorem test_fold_ready_releases :
    (after (exec (.foldReadyChange true) { inLine .run with
      rel := { ReleaseUnit.reset with hold := .holding, set := some oneSet } })).rel.style = 1 := by decide

theorem test_web_present_fall_runs_out :
    (after (exec (.webPresentFall false noGauge) running)).pln.haltKind = .runout := by decide

theorem test_paper_low_halts : (after (exec (.paperLow true) running)).seq.haltKind = .paperLow := by decide

theorem test_estop : (after (exec (.estop false) running)).seq.firstFault = .estop := by decide

theorem test_web_break_ignored_in_idle : (after (exec (.webBreak false) up)).seq.line = .idle := by decide

/-- R188, worked example: a read is forwarded from the queue. -/
theorem test_controller_read_forwards :
    (after (exec (.controllerRead 160 15) { running with
      path := { running.path with queue := [{ addr := 160, data := 3 }, { addr := 164, data := 4 }] } })).port
      = .data 15 3 := by decide

/-- R187, worked example: two low lanes merge with the queued entry, and the merged word goes to memory. -/
theorem test_controller_write_merges :
    Memory.readWord 160 (after (exec (.controllerWrite 160 3 0xAAAA5555) { running with
      path := { running.path with queue := [{ addr := 160, data := 0x11112222 }] } })).mem = 0x11115555 := by decide

theorem test_range_read :
    (after (exec (.controllerRead 1048576 15) up)).port = .data 15 0xFFFFFFFF := by decide

theorem test_ticket_write_amends :
    ((after (exec (.ticketWrite 256 15 0) running)).tix.table.map Ticket.reasons) = [Reason.amended.bit] := by decide

theorem test_setup_write_clamps : (after (exec (.setupWrite 16 15 80000) up)).setup 16 = 60000 := by decide
theorem test_setup_write_locked : (after (exec (.setupWrite 17 15 500) running)).port = .busError := by decide

theorem test_none_decides_nothing : (after (exec (.noneCommand 9) up)).seq.outcome = none := by decide

/-- R161: START accepted on the defaults. -/
theorem test_start : (after (exec (.start 7) up)).seq.line = .register := by decide

theorem test_calibrate : (after (exec (.calibrate 7) up)).rd.sweep.seekLimit = 16764 := by decide

theorem test_pause_refused_in_idle :
    (after (exec (.pause 3) up)).seq.outcome = some { code := 3, tag := 3, refusal := some .state } := by decide

theorem test_stop_in_register : (after (exec (.stop 3) (inLine .register))).seq.stopPending = true := by decide

theorem test_resume : (after (exec (.resume 3) (inLine .halted))).seq.line = .run := by decide

theorem test_end_waits_for_hold_pocket :
    ((after (exec (.endRun 3) { inLine .halted with
      rel := { ReleaseUnit.reset with hold := .holding, set := some oneSet } })).seq.outcome.bind
        CommandOutcome.refusal) = some .draining := by decide

theorem test_clear : (after (exec (.clear 3) (inLine .fault))).seq.line = .idle := by decide

/-- R197, R198: an unknown code's result word: code 9, REFUSED, UNKNOWN, tag 3. -/
theorem test_unknown_command :
    statusWord 2 (after (exec (.unknownCommand 9 3) up)) = 0x00032209 := by decide

/-- Reporting, worked example: an acknowledge that leaves no shared cause lets IRQ_N rise. -/
theorem test_acknowledge_raises_irq :
    (after (exec (.interruptAcknowledge 15 6) (withSetup 2 6 { up with rep := { up.rep with latched := 0x16 } }))).irqN
      = true := by decide

theorem test_enable_lowers_irq :
    (after (exec (.interruptEnable 1 16) { up with rep := { up.rep with latched := 16 } })).irqN = false := by decide

theorem test_publish : (after (exec (.publishIndex 15 5) up)).publish = 5 := by decide

/-- Reporting, worked example: read index 30 against write index 41 and read index 25. -/
theorem test_event_read_index :
    (after (exec (.eventReadIndex 15 30) (withSetup 4 25 { up with rep := { up.rep with writeIndex := 41 } }))).occupancy
      = 11 := by decide

theorem test_tickets_low_mark : (after (exec (.ticketsLowMark 15 70000) up)).setup 7 = 16 := by decide

theorem test_event_ring_layout :
    (after (exec (.eventRingLayout true 15 16) { up with rep := { up.rep with writeSlot := 9 } })).rep.writeSlot = 0 := by
  decide

theorem test_fetch_start : (after (exec .fetchStart (withSetup 3 1 up))).tix.fetch = .due0 := by decide

theorem test_fetch_read :
    (after (exec .fetchRead { up with
      tix := { up.tix with fetch := .due0 }, mem := Memory.writeWord 256 0x5C001389 [] })).tix.fetch
      = .flight0 0x5C001389 := by decide

/-- R70, R214: 1389h is serial 5001; two sheets of style HALF. -/
theorem test_fetch_return :
    ((after (exec (.fetchDataReturn noGauge) (withSetup 3 1 { up with
      tix := { up.tix with fetch := .flight1 0x5C001389 0x00010201 } }))).tix.table.map
        fun k => (k.serial, k.count, k.style, k.invalid)) = [(5001, 2, .half, none)] := by decide

theorem test_queue_grant :
    Memory.readWord 160 (after (exec .queueGrant running)).mem = 3 := by decide

/-- R193: a word software has written before start-up is skipped. -/
theorem test_startup_skips_written :
    (after (exec .startupWrite { State.reset with
      path := { State.reset.path with written := true :: List.replicate 39 false } })).path.queue = [] := by decide

/-- R68: retirement passes a DISPOSED ticket behind the one disposed of. -/
theorem test_disposition_place :
    (after (exec .dispositionPlace { up with
      tix := { up.tix with
        table := [ticket 0 5001 .disposing, ticket 1 5002 .disposed], fetchIndex := 2
        waiting := [{ ring := 0, serial := 5001, outcome := .delivered, count := 1, reasons := 0 }] } })).tix.retireIndex
      = 2 := by decide

/-- Reporting, worked example: record 901 goes into slot 7 and takes six entries. -/
theorem test_event_record_move :
    ((after (exec .eventRecordMove (withSetup 4 25 (withSetup 38 16 { up with
      rep := { up.rep with
        writeIndex := 40, writeSlot := 7
        staging := [{ seq := some 901, time := 5, event := .darkClear 3 4 }] } })))).path.queue.map QueueEntry.addr)
      = [4264, 4268, 4272, 4276, 4280, 4284] := by decide

theorem test_status_place :
    (after (exec .statusPlace { up with
      rep := { up.rep with due := (List.replicate 16 false).set 14 true, seq := 9 } })).path.queue
      = [{ addr := 216, data := 9 }] := by decide

theorem test_phase_report :
    (after (exec .setupWord12Report { up with path := { up.path with phaseReport := true } })).path.queue
      = [{ addr := 48, data := 6 }] := by decide

/-- The model's choice (notes/assumptions/5.md): no command waits, and the part idles. -/
theorem test_empty_queue_idles : step State.reset = .next State.reset := rfl

/-! ### Witnesses

One theorem for each statement with hypotheses, under the statement's name. Each conjunct is one clause's hypotheses,
at a boundary of its range where it has one. -/

/-- The two halves of what a controller access asks of the state. -/
theorem running_store :
    QueueOk running ∧ EntriesIn running ∧ Memory.wf running.mem = true ∧ ShadowOk running ∧ RingOk running ∧
    TableOk running := by
  unfold QueueOk EntriesIn wordIn ShadowOk RingOk TableOk
  decide

theorem up_store : QueueOk up ∧ EntriesIn up ∧ Memory.wf up.mem = true ∧ ShadowOk up ∧ StartupOk up := by
  unfold QueueOk EntriesIn wordIn ShadowOk StartupOk
  decide

/-- The witness of every statement about what each step keeps. -/
theorem witness_StepKeeps :
    Safe (running.withPending [.leadingEdge]) ∧
    step (running.withPending [.leadingEdge]) = .next (after (exec .leadingEdge running)) := by
  refine ⟨⟨?_, ?_, ?_, ⟨?_, ?_, ?_⟩, ?_, ?_, ?_, ?_, ?_, ?_, ?_, ?_, ?_, ?_, by decide⟩, rfl⟩
  · unfold LineOk; decide
  · unfold PlannerOk; decide
  · unfold SheetsOk; decide
  · unfold BuildOk; decide
  · unfold HoldOk; decide
  · unfold FolderOk; decide
  · unfold QueueOk; decide
  · unfold EntriesIn wordIn; decide
  · unfold ShadowOk; decide
  · unfold StartupOk; decide
  · unfold StageOk; decide
  · unfold EventRingOk; decide
  · unfold TableOk; decide
  · unfold RingOk; decide
  · unfold PublishOk; decide
  · unfold SerialsOk; decide

theorem witness_FaultLeftOnlyByClear :
    (inLine .fault).seq.line = .fault ∧
    ∃ t, exec (.clear 3) (inLine .fault) = .next t ∧ t.seq.line ≠ .fault := ⟨rfl, _, rfl, by decide⟩

theorem witness_ReachIsSignedOrder : (2147483648 - 0 : Word).toNat = 2147483648 := by decide

theorem witness_StopDistanceAndSquareRoot :
    18446744073709551615 < 18446744073709551616 ∧ 0 < 200000 ∧
    { up with tr := { up.tr with speed := 1000 } }.setupN 19 = 200000 ∧ up.remaining 0xFFFFFFFF < 0 ∧
    stopDistance 1000 200000 ≤ 3 ∧ 2 * 200000 * 3 < 18446744073709551616 := by decide

theorem witness_ProfileTickBounds : 200 ≤ 200 ∧ (some 1 : Option Int) = some 1 ∧ (0 : Int) < 1 ∧ 200 ≠ 0 := by decide

/-- The pass map of the spec's calibration example. -/
def exampleMap : List Bool := [false, false, true, true, true, true, true, true, true, true, false, false]

theorem witness_ChosenPhaseIsRunCentre :
    (List.replicate 12 true).length = 12 ∧ (List.replicate 12 true).all id = true ∧
    exampleMap.length = 12 ∧ exampleMap.all id = false ∧
    (∀ i, i < 8 → exampleMap.getD ((2 + i) % 12) false = true) ∧ exampleMap.getD ((2 + 11) % 12) false = false ∧
    exampleMap.getD ((2 + 8) % 12) false = false := by decide

theorem witness_ChosenPhaseIsRunCentre_longest :
    ∀ q k : Nat, q < 12 → 0 < k → k < 12 → (∀ i, i < k → exampleMap.getD ((q + i) % 12) false = true) →
      exampleMap.getD ((q + 11) % 12) false = false → exampleMap.getD ((q + k) % 12) false = false →
      k < 8 ∨ k = 8 ∧ 2 ≤ q := by
  intro q k hq hk0 hk
  have h : ∀ q : Fin 12, ∀ k : Fin 12, (∀ i : Fin 12, i.val < k.val → exampleMap.getD ((q.val + i.val) % 12) false = true) →
      exampleMap.getD ((q.val + 11) % 12) false = false → exampleMap.getD ((q.val + k.val) % 12) false = false →
      0 < k.val → k.val < 8 ∨ k.val = 8 ∧ 2 ≤ q.val := by decide +kernel
  exact fun hr hb ha => h ⟨q, hq⟩ ⟨k, hk⟩ (fun i hi => hr i.val hi) hb ha hk0

theorem witness_PrintedFrameReadsBack :
    { up with rd := { up.rd with state := .flag } }.rd.state = .flag ∧ up.rd.regs = FrameRegs.cleared := by decide

theorem witness_WebMotionCountsTravel :
    forwardPair up.pins.webA up.pins.webB true false = true ∧ reversePair up.pins.webA up.pins.webB false true = true ∧
    illegalPair up.pins.webA up.pins.webB true true = true ∧ up.seq.startupComplete = true ∧
    up.seq.line ≠ .fault ∧ false = up.pins.webA ∧ false = up.pins.webB := by decide

/-- The web at 24,000 in RUN, a step short of 24,001, which is no sample position. -/
def rolling (q : List Sheet) : State :=
  { running with
    enc := { running.enc with web := 24000, highWater := 24000, runContext := true }
    rd := { running.rd with origin := 24000 }
    tr := { running.tr with command := 24000 }
    trk := { running.trk with queue := q, nextPerf := none } }

theorem rolling_advances (q : List Sheet) : plainAdvance (rolling q) true false 24001 := by
  have h : plainAdvance (rolling []) true false 24001 := by
    unfold plainAdvance advancesTo onGrid
    exact ⟨by decide, by decide, by decide, nofun, by decide⟩
  exact ⟨h.1, h.2.1, h.2.2.1, nofun, h.2.2.2.2⟩

/-- A record that waits to be assigned. -/
def unassigned (anchor : Word) (st : Stage) : Sheet :=
  { sheet anchor st with assignment := none, setEnd := false, sepPos := none, leadPos := none }

/-- A record still read. -/
def reading (anchor : Word) : Sheet := { unassigned anchor .readOpen with result := .pending, frame := none }

/-- The planner with the stop target of a gate sheet whose park is 23,801. -/
def gated (s : State) : State := { s with pln := planNow s }

/-- `rolling` stepped back to `w`, the high-water position 24,000. -/
def reversing (w : Word) (s : State) : State := { s with enc := { s.enc with web := w } }

/-- R9, R118: REVERSE at 101 tu back, none at 100, and the slip limit of 400 exceeded with either. -/
theorem witness_WebMotionCountsTravel_reverse :
    reversePair (rolling []).pins.webA (rolling []).pins.webB false true = true ∧
    signedDiff 23899 (rolling []).enc.highWater ≤ 0 ∧ (rolling []).enc.runContext = true ∧
    (rolling []).seq.startupComplete = true ∧ (rolling []).seq.line ≠ .fault ∧
    (23899 : Word) = (reversing 23900 (rolling [])).enc.web - 1 ∧
    ((rolling []).setupN 22 : Int) < signedDiff (rolling []).enc.highWater 23899 ∧
    (rolling []).enc.reverseReported = false ∧ (rolling []).tr.driveEnable = true ∧
    (rolling []).tr.slipReported = false ∧
    (23900 : Word) = (reversing 23901 (rolling [])).enc.web - 1 ∧
    signedDiff (rolling []).enc.highWater 23900 ≤ (rolling []).setupN 22 ∧
    (rolling []).setupN 21 < ((24301 : Word) - 23900).toInt.natAbs ∧
    (rolling []).setupN 21 < ((24301 : Word) - 23899).toInt.natAbs := by decide

/-- R162: the registration limit is reached at 24,001, and not yet when it is 24,002. -/
theorem witness_WebMotionCountsTravel_limit :
    advancesTo (rolling []) true false 24001 ∧ ¬ onGrid (rolling []) 24001 ∧ (inLine .register).seq.line = .register ∧
    reached 24001 24001 = true ∧ reached 24001 24002 = false ∧ (rolling []).seq.stopPending = false :=
  ⟨(rolling_advances []).1, (rolling_advances []).2.2.1, by decide⟩

/-- A queue of 48 records, the last still read. -/
def fullQueue : List Sheet := (List.range 47).map (fun i => sheet (BitVec.ofNat 32 i) .clear) ++ [reading 100]

/-- R45 to R47, R42: the perforation at 24,001 ends the one record read, with no frame or with one of the job, and
finds room for the next, or the queue full. -/
theorem witness_WebMotionCountsTravel_perforation :
    (advancesTo (rolling [reading 100]) true false 24001 ∧ ¬ onGrid (rolling [reading 100]) 24001 ∧
      advancesTo (rolling fullQueue) true false 24001) ∧
    noOverrun (rolling [reading 100]) 24001 ∧ frontOf .readOpen [reading 100] = some (reading 100) ∧
    [reading 100].getLast? = some (reading 100) ∧ onlyOne (rolling [reading 100]) (reading 100) ∧
    (∀ x ∈ [reading 100], x.anchor ≠ 24001) ∧ (rolling [reading 100]).trk.registered = true ∧
    (rolling [reading 100]).trk.runout = false ∧ (rolling [reading 100]).rd.verdict.governing = none ∧
    [reading 100].length < 48 ∧
    noOverrun (rolling fullQueue) 24001 ∧ frontOf .readOpen fullQueue = some (reading 100) ∧
    fullQueue.getLast? = some (reading 100) ∧ onlyOne (rolling fullQueue) (reading 100) ∧
    (∀ x ∈ fullQueue, x.anchor ≠ 24001) ∧ 48 ≤ fullQueue.length ∧ (1 : BitVec 8).setWidth 32 = (rolling []).setup 8 := by
  refine ⟨⟨(rolling_advances _).1, (rolling_advances _).2.2.1, (rolling_advances _).1⟩, ?_⟩
  unfold noOverrun onlyOne
  decide +kernel

/-- R52: the front FIRED record separates at 24,001, and that of the next anchor does not. -/
theorem witness_WebMotionCountsTravel_separation :
    plainAdvance (rolling [sheet 1 .fired]) true false 24001 ∧ plainAdvance (rolling [sheet 2 .fired]) true false 24001 ∧
    noOverrun (rolling [sheet 1 .fired]) 24001 ∧ frontOf .fired [sheet 1 .fired] = some (sheet 1 .fired) ∧
    onlyOne (rolling [sheet 1 .fired]) (sheet 1 .fired) ∧ reached 24001 ((1 : Word) + (rolling []).setup 13) = true ∧
    noOverrun (rolling [sheet 2 .fired]) 24001 ∧ frontOf .fired [sheet 2 .fired] = some (sheet 2 .fired) ∧
    onlyOne (rolling [sheet 2 .fired]) (sheet 2 .fired) ∧ reached 24001 ((2 : Word) + (rolling []).setup 13) = false := by
  refine ⟨rolling_advances _, rolling_advances _, ?_⟩
  unfold noOverrun onlyOne
  decide

/-- R95 to R98: an unassigned gate sheet shuts the gate; an assigned one, with the pocket empty, opens it, and does
not fire at 24,001 when its firing point is 24,002. -/
theorem witness_WebMotionCountsTravel_gate :
    plainAdvance (rolling [unassigned 1 .readDone]) true false 24001 ∧
    plainAdvance (rolling [sheet 2 .readDone]) true false 24001 ∧
    (noOverrun (rolling [unassigned 1 .readDone]) 24001 ∧ frontOf .readDone [unassigned 1 .readDone]
        = some (unassigned 1 .readDone) ∧ onlyOne (rolling [unassigned 1 .readDone]) (unassigned 1 .readDone) ∧
      isGateSheet (rolling [unassigned 1 .readDone]) (unassigned 1 .readDone) ∧
      ¬ gateParts (rolling [unassigned 1 .readDone]) (unassigned 1 .readDone)) ∧
    (noOverrun (rolling [sheet 2 .readDone]) 24001 ∧ frontOf .readDone [sheet 2 .readDone] = some (sheet 2 .readDone) ∧
      onlyOne (rolling [sheet 2 .readDone]) (sheet 2 .readDone) ∧
      isGateSheet (rolling [sheet 2 .readDone]) (sheet 2 .readDone) ∧
      gateParts (rolling [sheet 2 .readDone]) (sheet 2 .readDone) ∧ (sheet 2 .readDone).origin ≠ .tail ∧
      reached 24001 (firingPoint (rolling [sheet 2 .readDone]) (sheet 2 .readDone)) = false) := by
  refine ⟨rolling_advances _, rolling_advances _, ?_⟩
  unfold noOverrun onlyOne isGateSheet gateParts
  decide

/-- The second sheet of a set, and a tail. -/
def second (anchor : Word) : Sheet :=
  { sheet anchor .readDone with assignment := some { owner := .ticket 0, number := 1, position := 2 } }

/-- R50, R51, R61: at 24,001 the second sheet of a set fires and separates when its anchor is 1, fires alone when it is
2 and the web is fast enough for a lead of 1, and does neither when it is 2 and the web stands; a tail separates at the
first. -/
theorem witness_WebMotionCountsTravel_fires :
    plainAdvance (rolling [second 1]) true false 24001 ∧ noOverrun (rolling [second 1]) 24001 ∧
    (∀ x ∈ [second 1], x.stage ≠ .fired) ∧ frontOf .readDone [second 1] = some (second 1) ∧
    onlyOne (rolling [second 1]) (second 1) ∧
    (second 1).assignment = some { owner := .ticket 0, number := 1, position := 2 } ∧
    (rolling [second 1]).pln.haltTarget ≠ some ((second 1).anchor + (rolling []).setup 13 - (rolling []).setup 14) ∧
    reached 24001 (firingPoint (rolling [second 1]) (second 1)) = true ∧
    reached 24001 ((1 : Word) + (rolling []).setup 13) = true ∧ reached 24001 ((2 : Word) + (rolling []).setup 13) = false ∧
    reached 24001 (firingPoint { rolling [second 2] with enc := { (rolling []).enc with vm := 125 } } (second 2)) = true ∧
    reached 24001 (firingPoint (rolling [second 2]) (second 2)) = false ∧
    { second 1 with origin := .tail }.origin = .tail ∧
    (∀ x ∈ [{ second 1 with origin := .tail }], x.stage = .readDone → x = { second 1 with origin := .tail }) := by
  refine ⟨rolling_advances _, ?_⟩
  unfold noOverrun onlyOne
  decide

/-- R53: an unassigned record whose park was 200 tu before its burst point is overrun 200 tu past it. -/
theorem witness_WebMotionCountsTravel_overrun :
    plainAdvance (rolling [unassigned (0 - 199) .readDone]) true false 24001 ∧
    frontOf .readDone [unassigned (0 - 199) .readDone] = some (unassigned (0 - 199) .readDone) ∧
    onlyOne (rolling [unassigned (0 - 199) .readDone]) (unassigned (0 - 199) .readDone) ∧
    (unassigned (0 - 199) .readDone).assignment = none ∧
    (0 - 199 : Word) + (rolling []).setup 13 + (rolling []).setup 14 = 24001 := by
  refine ⟨rolling_advances _, ?_⟩
  unfold onlyOne
  decide

theorem witness_BeltStepCountsTravel :
    forwardPair up.pins.beltA up.pins.beltB true false = true ∧
    reversePair up.pins.beltA up.pins.beltB false true = true ∧
    illegalPair up.pins.beltA up.pins.beltB true true = true ∧ up.seq.startupComplete = true ∧
    up.seq.line ≠ .fault ∧ false = up.pins.beltA ∧ false = up.pins.beltB := by decide

/-- R58: the leading window of the SEPARATED record ends at 7,712, the trailing one of the LEAD_SEEN record at
13,300. -/
theorem witness_BeltStepCountsTravel_windows :
    forwardPair running.pins.beltA running.pins.beltB true false = true ∧ running.seq.line.running = true ∧
    running.seq.startupComplete = true ∧ (7713 : Word) = (onBelt 7712 false running).enc.belt + 1 ∧
    (sheet 0 .separated).sepPos = some 1000 ∧ frontOf .separated running.trk.queue = some (sheet 0 .separated) ∧
    passed 7713 ((1000 : Word) + running.setup 23 - running.setup 9 + running.setup 25) = true ∧
    (sheet 0 .leadSeen).sepPos = some 1000 ∧ frontOf .separated [sheet 0 .leadSeen] = none ∧
    frontOf .leadSeen [sheet 0 .leadSeen] = some (sheet 0 .leadSeen) ∧
    passed 13301 ((1000 : Word) + running.setup 23 + running.setup 25) = true := by decide

/-- A CLEAR record of full length, led at 7,412: it lands at 16,000. -/
def clearSheet : Sheet := { sheet 0 .clear with length := some 5588, verdict := some .ok }

/-- R59, R123 to R129: it lands at 16,000 and not at 15,999, in an empty build pocket, as a purge sheet's or a
ticket's, or on the sheets of its set. -/
theorem witness_BeltStepCountsTravel_lands :
    forwardPair running.pins.beltA running.pins.beltB true false = true ∧
    frontOf .clear (withSheets [clearSheet] running).trk.queue = some clearSheet ∧
    onlyOne (withSheets [clearSheet] running) clearSheet ∧
    (∀ x ∈ [clearSheet], x.stage ≠ .separated ∧ x.stage ≠ .leadSeen ∧ (x.stage = .clear → x = clearSheet)) ∧
    clearSheet.leadPos = some 7412 ∧ clearSheet.length = some 5588 ∧
    clearSheet.assignment = some { owner := .ticket 0, number := 1, position := 1 } ∧ running.acc.set = none ∧
    findTicket 0 running.tix.table = some (ticket 0 5001 .closed) ∧
    (withAcc { Accumulator.reset with state := .collecting, set := some oneSet } running).acc.set = some oneSet ∧
    reached 15999 ((7412 : Word) + 5588 + running.setup 24) = false ∧
    reached 16000 ((7412 : Word) + 5588 + running.setup 24) = true ∧ clearSheet.setEnd = true ∧
    { clearSheet with setEnd := false }.setEnd = false ∧
    0 < running.setupN 27 + ([] : List Word).length.succ * running.setupN 28 := by
  unfold onlyOne
  decide

theorem witness_MarkEdgeStartsFlagOrSweep :
    (true = (true && !running.pins.mark && decide (running.enc.web = running.enc.highWater)) ∧
      framingActs running.seq.line = true ∧ running.rd.state = .hunt ∧ running.setup 12 ≠ 0) ∧
    (framingActs (withSetup 12 0 running).seq.line = true ∧ (withSetup 12 0 running).rd.state = .hunt ∧
      (withSetup 12 0 running).setup 12 = 0) ∧
    ((after (exec (.calibrate 7) up)).seq.line = .calibrate ∧
      (after (exec (.calibrate 7) up)).rd.sweep.state = .seeking ∧
      (true = (true && !(after (exec (.calibrate 7) up)).pins.mark
        && decide ((after (exec (.calibrate 7) up)).enc.web = (after (exec (.calibrate 7) up)).enc.highWater)))) ∧
    false = (false && !running.pins.mark && decide (running.enc.web = running.enc.highWater)) := by decide

/-- `rolling` in REGISTER, 24,001 a sample position. -/
def sampling (mark : Bool) (r : Reader) : State :=
  { rolling [] with
    seq := (inLine .register).seq, pins := { Pins.quiet with mark := mark }, rd := { r with origin := 23995 } }

/-- R21, R22, R27, R28: a run of 63 dark samples and one more blocks the reader; a flag's fifth sample is dark and its
sixth blank. -/
theorem witness_MarkEdgeStartsFlagOrSweep_sample :
    advancesTo (sampling true { up.rd with darkRun := 63 }) true false 24001 ∧
    onGrid (sampling true { up.rd with darkRun := 63 }) 24001 ∧ ¬ onGrid (rolling []) 24001 ∧
    (sampling true up.rd).seq.line = .register ∧ (sampling true up.rd).seq.regLimit = none ∧
    64 = (if (sampling true up.rd).pins.mark = true then 63 + 1 else 0) ∧
    (sampling true { up.rd with state := .flag, regs := { up.rd.regs with sample := 4 } }).rd.regs.sample < 5 ∧
    5 ≤ (sampling false { up.rd with state := .flag, regs := { up.rd.regs with sample := 5 } }).rd.regs.sample ∧
    (sampling false { up.rd with state := .blocked }).pins.mark = false ∧
    (sampling false { up.rd with state := .blocked }).rd.state = .blocked := by
  unfold advancesTo onGrid
  decide

/-- R23, R25: in DATA the 53rd bit, a stuffing mark and its sixth dark to come; in CLOSE a dark mark; and in REGISTER
short of the limit, or in RUN with no perforation. -/
theorem witness_MarkEdgeStartsFlagOrSweep_data :
    advancesTo (sampling true { up.rd with state := .data, regs := { up.rd.regs with darks := 3 } }) true false 24001 ∧
    readingAdvance (rolling []) true false 24001 ∧
    (List.replicate 52 false ++ [false]).length = 53 ∧ (List.replicate 52 false).length = 52 ∧
    ¬ 4 ≤ { up.rd.regs with darks := 0 }.darks ∧ { up.rd.regs with darks := 3 }.darks < 4 ∧
    4 ≤ { up.rd.regs with darks := 3 }.darks + 1 ∧ { up.rd.regs with darks := 4 }.darks = 4 ∧
    { up.rd.regs with darks := 4 }.darks < 5 := by
  unfold readingAdvance advancesTo noOverrun
  exact ⟨by decide, ⟨by decide, by decide, nofun, by decide⟩, by decide⟩

/-- `sampling` in FAULT. -/
def sampledInFault (mark : Bool) (r : Reader) : State := { sampling mark r with seq := (inLine .fault).seq }

/-- R27, R28: in FAULT the 64th dark sample, the 63rd and the 65th, and a blank one in BLOCKED. -/
theorem witness_MarkEdgeStartsFlagOrSweep_fault :
    advancesTo (sampledInFault true { up.rd with darkRun := 63 }) true false 24001 ∧
    onGrid (sampledInFault true { up.rd with darkRun := 63 }) 24001 ∧
    (sampledInFault true up.rd).seq.line = .fault ∧ (sampledInFault true up.rd).seq.startupComplete = true ∧
    (sampledInFault true up.rd).pins.mark = true ∧ 62 ≠ 63 ∧ 64 ≠ 63 ∧
    (sampledInFault false { up.rd with state := .blocked }).pins.mark = false ∧
    (sampledInFault false { up.rd with state := .blocked }).rd.state = .blocked := by
  unfold advancesTo onGrid
  decide

/-- `rolling` in CALIBRATE, the sweep's edge at `e`. -/
def sweeping (e : Word) (state : SweepState) : State :=
  { rolling [] with
    seq := (inLine .calibrate).seq
    rd := { (rolling []).rd with sweep := { state := state, edge := e, seekLimit := 24001, passMap := exampleMap } } }

/-- R36 to R38: the sweep ends 780 tu past its edge, or at the seek limit with no edge; it tests the phases from 1 tu to
767 tu past the edge. -/
theorem witness_MarkEdgeStartsFlagOrSweep_sweep :
    advancesTo (sweeping 23221 .sweeping) true false 24001 ∧ ShadowOk (sweeping 23221 .sweeping) ∧
    (sweeping 23221 .sweeping).seq.line = .calibrate ∧ signedDiff 24001 23221 = 780 ∧
    signedDiff 24001 23222 < 780 ∧ (sweeping 0 .seeking).rd.sweep.state = .seeking ∧
    reached 24001 (sweeping 0 .seeking).rd.sweep.seekLimit = true ∧ exampleMap.any id = true ∧
    (List.replicate 12 false).any id = false ∧ signedDiff 24001 24000 = 1 ∧ signedDiff 24001 23234 = 767 ∧
    ((sweeping 24000 .sweeping).pins.mark = true ↔ (1 : Int) / 12 % 2 = 1) ∧
    ((sweeping 23989 .sweeping).pins.mark = false) ∧ signedDiff 24001 23989 = 12 ∧ (12 : Int) / 12 % 2 = 1 := by
  unfold advancesTo ShadowOk
  decide

/-- The reader's registers with the last mark of a printed frame to come. -/
def closing : FrameRegs :=
  (feedMarks (printedMarks { tag := 1, serial := 5001, index := 0, isLast := true }).dropLast
    { up with rd := { up.rd with state := .flag } }).rd.regs

/-- R44: a frame with the job tag about to end in REGISTER. -/
theorem witness_PrintedFrameReadsBack_registers :
    advancesTo (sampling false { up.rd with state := .close, regs := closing, searching := true }) true false 24001 ∧
    onGrid (sampling false { up.rd with state := .close, regs := closing, searching := true }) 24001 ∧
    5 ≤ closing.darks ∧
    completedResult closing = .ok { tag := 1, serial := 5001, index := 0, isLast := true } ∧
    (1 : BitVec 8).setWidth 32 = up.setup 8 ∧ (sampling false up.rd).trk.queue = [] ∧
    (sampling false up.rd).col.cursor = none ∧ (sampling false up.rd).col.openSet = none ∧
    (sampling false up.rd).col.runoutNoted = false ∧ (sampling false up.rd).pins.webPresent = true ∧
    4 = up.setupN 13 / up.setupN 9 := by
  unfold advancesTo onGrid
  decide +kernel

/-- `rolling` with a sheet of anchor `a` read, the grid set so that 24,001 is a sample position, in a line state. -/
def readingAt (a : Word) (mark : Bool) (r : Reader) (l : LineState) : State :=
  { rolling [reading a] with
    seq := (inLine l).seq, pins := { Pins.quiet with mark := mark }, rd := { r with origin := 23935 }
    trk := { (rolling [reading a]).trk with nextPerf := some 24062 }
    pln := { Planner.reset with haltSheet := .sheet a, haltTarget := some (a + 23800) } }

/-- A verdict whose governing flag deviates by `d`. -/
def governedBy (d : Word) : Verdict := { governing := some { edge := 23935, d := d, result := none }, conflict := false }

theorem readingAt_advances (a : Word) (mark : Bool) (r : Reader) (l : LineState) (h : l.running = true)
    (ha : a + up.setup 13 + up.setup 14 ≠ 24001) :
    readingAdvance (readingAt a mark r l) true false 24001 ∧ onGrid (readingAt a mark r l) 24001 := by
  unfold readingAdvance advancesTo noOverrun onGrid
  refine ⟨⟨⟨rfl, rfl, rfl, ?_⟩, h, ?_, ?_⟩, ?_⟩
  · exact (by decide : ((24000 : Word) - 24001).toInt.natAbs ≤ up.setupN 21)
  · rintro p e
    cases e
    decide
  · rintro x hx
    cases List.mem_singleton.1 hx
    exact ha
  · exact (by decide : 0 ≤ signedDiff 24001 (23935 + up.setup 12) ∧ signedDiff 24001 (23935 + up.setup 12) % 12 = 0)

/-- R29: a flag that completes 60 tu past and before its expected edge counts, and 61 tu off it does not. -/
theorem witness_PrintedFrameReadsBack_flag :
    (readingAdvance (readingAt 23675 false up.rd .run) true false 24001 ∧ onGrid (readingAt 23675 false up.rd .run) 24001) ∧
    5 ≤ { up.rd.regs with sample := 5 }.sample ∧ (readingAt 23675 false up.rd .run).pins.mark = false ∧
    frontOf .readOpen (readingAt 23675 false up.rd .run).trk.queue = some (reading 23675) ∧
    (60 : Word) = (readingAt 23675 false up.rd .run).rd.origin - (23675 + up.setup 10) ∧
    (0 - 60 : Word) = (readingAt 23795 false up.rd .run).rd.origin - (23795 + up.setup 10) ∧
    (61 : Word) = (readingAt 23674 false up.rd .run).rd.origin - (23674 + up.setup 10) ∧
    up.rd.verdict.governing = none ∧ (60 : Word).toInt.natAbs ≤ up.setupN 11 ∧ (0 - 60 : Word).toInt.natAbs ≤ up.setupN 11 ∧
    up.setupN 11 < (61 : Word).toInt.natAbs ∧ (governedBy 60).governing ≠ none :=
  ⟨readingAt_advances _ _ _ _ rfl (by decide), by decide⟩

/-- R30, R31, R48, R101: a governing frame that ends with OK, with d of 60 tu either way, its sheet the halt sheet and the
gate sheet; one that ends with FORMAT or SMUDGE; and a frame that does not govern. -/
theorem witness_PrintedFrameReadsBack_governs :
    (readingAdvance (readingAt 23675 true up.rd .halting) true false 24001 ∧
      onGrid (readingAt 23675 true up.rd .halting) 24001) ∧
    endsFrame (readingAt 23675 false { up.rd with state := .close, regs := closing } .halting)
      (.ok { tag := 1, serial := 5001, index := 0, isLast := true }) ∧
    endsFrame (readingAt 23675 false { up.rd with state := .close } .halted) .format ∧
    endsFrame (readingAt 23675 true { up.rd with state := .data, regs := { up.rd.regs with darks := 5 } } .run) .smudge ∧
    onlyOne (readingAt 23675 false up.rd .halting) (reading 23675) ∧ closing.governs = false ∧
    { closing with governs := true }.governs = true ∧
    { up.rd with verdict := governedBy 60 }.verdict.governing = some { edge := 23935, d := 60, result := none } ∧
    reached 24001 ((24062 : Word) + 60) = false ∧ reached 24001 ((24062 : Word) + (0 - 60)) = false ∧
    (readingAt 23675 false up.rd .halting).pln.haltSheet = .sheet (reading 23675).anchor ∧
    isGateSheet (readingAt 23675 false up.rd .halting) (reading 23675) ∧ (reading 23675).assignment = none ∧
    (∀ x ∈ (readingAt 23675 false up.rd .halting).trk.queue, x.anchor = 23675 + 60 → x = reading 23675) ∧
    up.rd.verdict.governing = none ∧ up.rd.darkRun ≠ 63 := by
  refine ⟨readingAt_advances _ _ _ _ rfl (by decide), ?_⟩
  unfold endsFrame onlyOne isGateSheet
  decide +kernel

/-- R48: the re-anchored record, and the halt target with it. -/
theorem test_frame_end_reanchors :
    let t := after (exec (.webMotionEvent true false noGauge) (readingAt 23675 false { up.rd with
      state := .close, regs := { closing with governs := true }, verdict := governedBy 60 } .halting))
    t.trk.queue.map Sheet.anchor = [23735] ∧ t.trk.nextPerf = some 24122 ∧ t.pln.haltTarget = some 47535 := by
  decide +kernel

/-- The window of `sheet 0 .separated` runs from 7,112 to 7,712. -/
theorem witness_LeadingEdgeIsAttributed :
    running.pins.beltEdge = false ∧ running.seq.line.running = true ∧ running.seq.startupComplete = true ∧
    frontOf .separated running.trk.queue = some (sheet 0 .separated) ∧ (sheet 0 .separated).sepPos = some 1000 ∧
    reached 7112 ((1000 : Word) + running.setup 23 - running.setup 9 - running.setup 25) = true ∧
    passed 7712 ((1000 : Word) + running.setup 23 - running.setup 9 + running.setup 25) = false ∧
    reached 7111 ((1000 : Word) + running.setup 23 - running.setup 9 - running.setup 25) = false ∧
    passed 7713 ((1000 : Word) + running.setup 23 - running.setup 9 + running.setup 25) = true ∧
    reached 7713 ((1000 : Word) + running.setup 23 - running.setup 9 - running.setup 25) = true ∧
    frontOf .separated (withSheets [] running).trk.queue = none := by decide

/-- The window of `sheet 0 .leadSeen` runs from 12,700 to 13,300, and its leading edge was seen at 7,412. -/
theorem witness_TrailingEdgeMeasuresLength :
    (onBelt 12900 true running).pins.beltEdge = true ∧ running.seq.line.running = true ∧
    frontOf .leadSeen [sheet 0 .leadSeen] = some (sheet 0 .leadSeen) ∧
    (sheet 0 .leadSeen).sepPos = some 1000 ∧ (sheet 0 .leadSeen).leadPos = some 7412 ∧
    reached 12700 ((1000 : Word) + running.setup 23 - running.setup 25) = true ∧
    passed 13300 ((1000 : Word) + running.setup 23 + running.setup 25) = false ∧
    (signedDiff 12900 7412 - running.setupN 9).natAbs ≤ running.setupN 26 ∧
    signedDiff 12899 7412 + running.setupN 26 < running.setupN 9 ∧
    (running.setupN 9 : Int) + running.setupN 26 < signedDiff 13101 7412 ∧
    reached 12699 ((1000 : Word) + running.setup 23 - running.setup 25) = false ∧
    passed 13301 ((1000 : Word) + running.setup 23 + running.setup 25) = true ∧
    frontOf .leadSeen running.trk.queue = none := by decide

theorem witness_TickAdvancesClockAndSpeed :
    up.tr.due ≤ up.tr.emitted ∧
    (signedDiff { up.enc with web := 1000000 }.web ({ up.enc with web := 1000000 }.history.headD 0) = 1000000) ∧
    (signedDiff { up.enc with web := 999999 }.web ({ up.enc with web := 999999 }.history.headD 0) = 999999) ∧
    signedDiff { up.enc with web := 0xFFFFFFFF }.web ({ up.enc with web := 0xFFFFFFFF }.history.headD 0) < 0 ∧
    (withRep { up.rep with snapCount := 9 } up).rep.snapCount = 9 := by decide

/-- R105: a gate sheet that waits for its ticket, the web at its park: a tick parks it and WAITING is latched. -/
theorem witness_TickAdvancesClockAndSpeed_hold :
    (after (exec .tick (gated (rolling [unassigned 200 .readDone])))).pln.cause = .gate ∧
    (after (exec .tick (gated (rolling [unassigned 200 .readDone])))).pln.gateSheet = some 200 ∧
    findSheet 200 (after (exec .tick (gated (rolling [unassigned 200 .readDone])))).trk.queue = some (unassigned 200 .readDone) ∧
    (after (exec .tick (gated (rolling [unassigned 200 .readDone])))).pln.parked = true ∧
    (after (exec .tick (gated (rolling [unassigned 200 .readDone])))).pln.holdReason = .ticket ∧
    (gated (rolling [unassigned 200 .readDone])).pln.holdReason = .none ∧
    (after (exec .tick up)).pln.parked = false ∧ (after (exec .tick up)).pln.limited = false := by decide

/-- A ramp stop at a speed, between two ticks. -/
def ramping (v : Nat) : State :=
  withTr { (inLine .fault).tr with state := .rampStop, speed := v, driveEnable := true } (inLine .fault)

theorem witness_TickCrawlsOrRampsDown :
    ((inLine .register).tr.due ≤ (inLine .register).tr.emitted ∧ (inLine .register).pln.stop = none ∧
      (inLine .register).seq.line = .register ∧ (inLine .register).seq.stopPending = false ∧
      (inLine .register).tr.state ≠ .rampStop ∧ (inLine .register).tr.beltTicks + 1 < 500 ∧
      200 = max (min ((inLine .register).tr.speed + (inLine .register).setupN 18 / 1000)
        (max ((inLine .register).setupN 17) ((inLine .register).tr.speed - (inLine .register).setupN 19 / 1000)))
        ((inLine .register).tr.speed - (inLine .register).setupN 19 / 1000) ∧ 0 < 200) ∧
    ((inLine .calibrate).tr.due ≤ (inLine .calibrate).tr.emitted ∧ (inLine .calibrate).pln.stop = none ∧
      (inLine .calibrate).seq.line = .calibrate ∧ (inLine .calibrate).tr.state ≠ .rampStop ∧
      (inLine .calibrate).tr.beltRun = false) ∧
    ((ramping 600).tr.due ≤ (ramping 600).tr.emitted ∧ (ramping 600).seq.line = .fault ∧
      (ramping 600).tr.state = .rampStop ∧ (ramping 600).tr.beltRun = false ∧
      0 = (ramping 600).tr.speed - (ramping 600).setupN 20 / 1000 ∧
      1 = (ramping 601).tr.speed - (ramping 601).setupN 20 / 1000) := by decide

/-- HALTING with one pulse of the tick left, the last before the target. -/
def halting : State :=
  { inLine .halting with
    tr := { (inLine .halting).tr with
      state := .moving, speed := 600, due := 1, command := 99, targetW := some 100, targetC := some 100 }
    enc := { up.enc with web := 100 }
    pln := { Planner.reset with haltKind := .pause, haltTarget := some 100, stop := some 100, cause := .pause } }

/-- A ramp stop whose next pulse takes the deviation to 401, one past the slip limit. -/
def slipping : State :=
  withTr { (ramping 17400).tr with due := 17, emitted := 8, command := 400 } (ramping 17400)

theorem witness_StepPulseCountsCommand :
    (slipping.tr.emitted < slipping.tr.due ∧ slipping.tr.driveEnable = true ∧
      slipping.setupN 21 < (slipping.tr.command + 1 - slipping.enc.web).toInt.natAbs ∧
      slipping.tr.slipReported = false ∧ slipping.seq.startupComplete = true ∧ slipping.seq.line = .fault) ∧
    (halting.tr.emitted < halting.tr.due ∧ halting.tr.driveEnable = true ∧
      (withTr { halting.tr with command := 500 } halting).setupN 21
        < ((withTr { halting.tr with command := 500 } halting).tr.command + 1
            - (withTr { halting.tr with command := 500 } halting).enc.web).toInt.natAbs ∧
      halting.tr.slipReported = false ∧ halting.seq.startupComplete = true ∧ halting.seq.line ≠ .fault) ∧
    ¬ (up.tr.emitted < up.tr.due ∧ up.tr.driveEnable = true) := by decide

/-- The pulse that meets a halt target, one that meets a gate's, and one that meets a target the planner has removed. -/
def pulsing (q : List Sheet) (target : Option Word) : State :=
  withTr { (rolling q).tr with
    state := .moving, speed := 600, due := 2, emitted := 1, command := 24099, targetW := target, targetC := some 24100 }
    (gated { rolling q with enc := { (rolling q).enc with web := 24100 } })

theorem witness_StepPulseMeetsHaltTarget :
    (halting.tr.emitted < halting.tr.due ∧ halting.tr.driveEnable = true ∧ halting.seq.line = .halting ∧
      halting.tr.targetC = some 100 ∧ halting.pln.cause.halts = true ∧ reached (halting.tr.command + 1) 100 = true ∧
      (halting.tr.command + 1 - halting.enc.web).toInt.natAbs ≤ halting.setupN 21 ∧
      halting.tr.targetW = halting.pln.stop) ∧
    ((pulsing [reading 300] (some 24100)).tr.emitted < (pulsing [reading 300] (some 24100)).tr.due ∧
      (pulsing [reading 300] (some 24100)).tr.driveEnable = true ∧ reached (24099 + 1) 24100 = true ∧
      (pulsing [reading 300] (some 24100)).tr.targetW = (pulsing [reading 300] (some 24100)).pln.stop ∧
      (pulsing [reading 300] (some 24100)).pln.cause = .gate ∧
      planNow (pulsing [reading 300] (some 24100)) = (pulsing [reading 300] (some 24100)).pln) ∧
    ((pulsing [] (some 24100)).tr.targetW ≠ (pulsing [] (some 24100)).pln.stop ∧
      planNow (pulsing [] (some 24100)) = (pulsing [] (some 24100)).pln) := by decide

/-- R14, R112: the removed target still holds for the tick's pulses. -/
theorem test_step_pulse_meets_removed_target :
    (after (exec .stepPulse (pulsing [] (some 24100)))).tr.state = .still := by decide

/-- R104, R111: a PAUSE taken while parked at the gate sheet gives a stop target that is yet to be reported met. -/
theorem test_pause_at_met_gate_target :
    ((after (exec (.pause 3) { gated (rolling [unassigned 200 .readDone]) with
      tr := { (rolling []).tr with metTold := true }
      pln := { (gated (rolling [unassigned 200 .readDone])).pln with parked := true } })).seq.line,
     (after (exec (.pause 3) { gated (rolling [unassigned 200 .readDone]) with
      tr := { (rolling []).tr with metTold := true }
      pln := { (gated (rolling [unassigned 200 .readDone])).pln with parked := true } })).tr.metTold)
      = (.halting, false) := by decide

/-- A stop target 1 tu on, one met, and none. -/
theorem witness_TickCrawlsOrRampsDown_targets :
    (rolling [reading 201]).tr.due ≤ (rolling [reading 201]).tr.emitted ∧
    (rolling [reading 201]).tr.state ≠ .rampStop ∧ (rolling [reading 201]).tr.beltTicks + 1 < 500 ∧
    frontOf .readDone [reading 201] = none ∧
    planNow (gated (rolling [reading 201])) = (gated (rolling [reading 201])).pln ∧
    (gated (rolling [reading 201])).pln.stop.map (fun w => signedDiff w 24000) = some 1 ∧
    planNow (gated (rolling [reading 200])) = (gated (rolling [reading 200])).pln ∧
    (gated (rolling [reading 200])).pln.stop.map (fun w => signedDiff w 24000) = some 0 ∧
    (gated (rolling [reading 200])).tr.metTold = false ∧ (gated (rolling [reading 200])).pln.cause.halts = false ∧
    planNow (gated (rolling [])) = (gated (rolling [])).pln ∧ (gated (rolling [])).pln.stop = none ∧
    planNow halting = halting.pln ∧ halting.pln.stop.map (fun w => signedDiff w halting.enc.web) = some 0 ∧
    halting.pln.cause.halts = true ∧ (withTr { halting.tr with due := 0 } halting).tr.due ≤ halting.tr.emitted := by
  decide

/-- R50: a READ_DONE record waits at the nip: unassigned at the gate, with its park 1 tu on and met; with the gate open,
the web 1 tu short of its firing point at the speed the tick measures; and as the halt sheet of a STOP. -/
theorem witness_TickCrawlsOrRampsDown_nip :
    (frontOf .readDone [unassigned 201 .readDone] = some (unassigned 201 .readDone) ∧
      waitsAtNip { gated (rolling [unassigned 201 .readDone]) with enc := (rolling []).enc.tick } (unassigned 201 .readDone) ∧
      planNow (gated (rolling [unassigned 201 .readDone])) = (gated (rolling [unassigned 201 .readDone])).pln ∧
      (gated (rolling [unassigned 201 .readDone])).pln.stop.map (fun w => signedDiff w 24000) = some 1) ∧
    (planNow (gated (rolling [unassigned 200 .readDone])) = (gated (rolling [unassigned 200 .readDone])).pln ∧
      (gated (rolling [unassigned 200 .readDone])).pln.stop.map (fun w => signedDiff w 24000) = some 0 ∧
      (rolling []).tr.metTold = false ∧ (withTr { (rolling []).tr with metTold := true } (rolling [])).tr.speed = 0) ∧
    ((rolling []).enc.tick.vm = 3000000 ∧ frontOf .readDone [sheet 2001 .readDone] = some (sheet 2001 .readDone) ∧
      waitsAtNip { gated (rolling [sheet 2001 .readDone]) with enc := (rolling []).enc.tick } (sheet 2001 .readDone) ∧
      ¬ waitsAtNip { gated (rolling [sheet 2000 .readDone]) with enc := (rolling []).enc.tick } (sheet 2000 .readDone) ∧
      planNow (gated (rolling [sheet 2001 .readDone])) = (gated (rolling [sheet 2001 .readDone])).pln ∧
      (gated (rolling [sheet 2001 .readDone])).pln.stop = none) := by
  unfold waitsAtNip
  decide

/-- R164, R113: a stop pending in REGISTER, at 201 tu/s and at 200. -/
theorem witness_TickCrawlsOrRampsDown_pending :
    (after (exec (.stop 3) (inLine .register))).pln.stop = none ∧
    (after (exec (.stop 3) (inLine .register))).seq.line = .register ∧
    (after (exec (.stop 3) (inLine .register))).seq.stopPending = true ∧ 201 - up.setupN 19 / 1000 = 1 ∧
    200 - up.setupN 19 / 1000 = 0 ∧ (inLine .register).tr.beltTicks + 1 < 500 := by decide

/-- R120: the 500th tick of the belt, with 19 tu of travel over the last 100, and with 20. -/
theorem witness_TickCrawlsOrRampsDown_stall :
    running.tr.due ≤ running.tr.emitted ∧ running.seq.startupComplete = true ∧ running.seq.line.running = true ∧
    running.tr.beltRun = true ∧ (List.replicate 100 (0 : Word)).length = 100 ∧ 500 ≤ 499 + 1 ∧
    running.tr.stallReported = false ∧ ((19 : Word) - 0).toInt < 20 ∧ 20 ≤ ((20 : Word) - 0).toInt ∧ 498 + 1 < 500 := by
  decide

theorem witness_SnapEndLowersSnap :
    { running with trk := { running.trk with snap := true, snapTimer := due } }.trk.snapTimer
      = { running := true, left := 0 } ∧
    running.trk.snapTimer ≠ { running := true, left := 0 } := by decide

/-- The tolerance of setup words 33 and 34 is 150: of a set of one sheet, reading 50 passes and 51 fails. -/
theorem witness_JogEndPlacesSet :
    (jogged oneSet).seq.line.running = true ∧ (jogged oneSet).acc.jogTimer = { running := true, left := 0 } ∧
    (jogged oneSet).acc.set = some oneSet ∧
    (false = true ↔ ((jogged oneSet).setup 39).getLsbD 1 = true ∧ oneSet.owner ≠ .purge ∧ ¬ (true = true ∧
      (((50 : BitVec 12).toNat * 5 : Int) - oneSet.sheets.length * (jogged oneSet).setupN 33).natAbs
        ≤ (jogged oneSet).setupN 33 / 2 + (jogged oneSet).setupN 34)) ∧
    (true = true ↔ ((jogged oneSet).setup 39).getLsbD 1 = true ∧ oneSet.owner ≠ .purge ∧ ¬ (true = true ∧
      (((51 : BitVec 12).toNat * 5 : Int) - oneSet.sheets.length * (jogged oneSet).setupN 33).natAbs
        ≤ (jogged oneSet).setupN 33 / 2 + (jogged oneSet).setupN 34)) ∧
    (jogged oneSet).rel.hold = .empty ∧ (withRel (held oneSet).rel (jogged oneSet)).rel.hold ≠ .empty := by decide

theorem witness_DropEndHandsSetToHold :
    (dropped oneSet).seq.line.running = true ∧ (dropped oneSet).acc.dropTimer = { running := true, left := 0 } ∧
    (dropped oneSet).acc.set = some oneSet ∧
    (false = if oneSet.owner ≠ .purge ∧ oneSet.reasons = 0 then
        (dropped oneSet).pins.foldReady && !(dropped oneSet).rel.folding
          && decide ((dropped oneSet).rel.exitList.length < 2)
      else !(dropped oneSet).pins.rejectFull) ∧
    (dropped { oneSet with reasons := 1 }).acc.set = some { oneSet with reasons := 1 } ∧
    (true = if { oneSet with reasons := 1 }.owner ≠ .purge ∧ { oneSet with reasons := 1 }.reasons = 0 then
        (dropped { oneSet with reasons := 1 }).pins.foldReady && !(dropped { oneSet with reasons := 1 }).rel.folding
          && decide ((dropped { oneSet with reasons := 1 }).rel.exitList.length < 2)
      else !(dropped { oneSet with reasons := 1 }).pins.rejectFull) := by decide

theorem witness_ReleaseEndEmptiesHold :
    (released .good oneSet).seq.line.running = true ∧
    (released .good oneSet).rel.releaseTimer = { running := true, left := 0 } ∧
    (released .good oneSet).rel.set = some oneSet ∧ (released .good oneSet).rel.verdict = .good ∧
    (released .divert oneSet).rel.verdict = .divert ∧ oneSet.owner = .ticket 0 ∧
    findTicket 0 (released .divert oneSet).tix.table = some (ticket 0 5001 .closed) ∧
    (ticket 0 5001 .closed).state = .closed ∧
    (released .divert { oneSet with owner := .purge }).rel.set = some { oneSet with owner := .purge } ∧
    (withAcc { Accumulator.reset with state := .waitDrop, set := some oneSet } (released .good oneSet)).acc.state
      = .waitDrop ∧
    (released .good oneSet).acc.state ≠ .waitDrop := by decide

/-- R89, R90: the outcome of the last of a CLOSED ticket's sets, and of one that is not; a purge set, and a ticket that is
neither COLLATING nor CLOSED. -/
theorem witness_ReleaseEndEmptiesHold_outcome :
    findTicket 0 (withTix { running.tix with table := [{ ticket 0 5001 .closed with setsIssued := 1 }] }
      (released .divert oneSet)).tix.table = some { ticket 0 5001 .closed with setsIssued := 1 } ∧
    { ticket 0 5001 .closed with setsIssued := 1 }.setsFinal + 1 = { ticket 0 5001 .closed with setsIssued := 1 }.setsIssued ∧
    { ticket 0 5001 .closed with setsIssued := 2 }.setsFinal + 1 ≠ { ticket 0 5001 .closed with setsIssued := 2 }.setsIssued ∧
    changesNoTicket running { oneSet with owner := .purge }.owner ∧
    changesNoTicket disposing oneSet.owner ∧ oneSet.owner = .ticket 0 := by
  refine ⟨by decide, by decide, by decide, .inl rfl, .inr ⟨0, rfl, ?_⟩, rfl⟩
  rintro k h
  cases h
  decide

theorem witness_FoldDoneSendsPieceToExit :
    folding.pins.foldDone = false ∧ folding.seq.line.running = true ∧ folding.rel.folding = true ∧
    folding.rel.folder = some onePiece ∧ folding.rel.hold ≠ .holding ∧ running.rel.folding = false := by decide

theorem witness_FolderFaultsStopLine :
    (running.pins.foldFault = false ∧ running.seq.line.running = true ∧ running.seq.startupComplete = true) ∧
    (folding.seq.line.running = true ∧ folding.rel.folding = true ∧
      folding.rel.foldTimer = { running := true, left := 0 } ∧ folding.seq.startupComplete = true) ∧
    running.rel.foldTimer ≠ { running := true, left := 0 } ∧
    (exiting.seq.line.running = true ∧ (∃ e ∈ exiting.rel.exitList, e.timer = { running := true, left := 0 }) ∧
      exiting.seq.startupComplete = true) ∧
    ∀ e ∈ running.rel.exitList, e.timer ≠ { running := true, left := 0 } := by decide

theorem witness_ExitEdgeConfirmsOldestPiece :
    (exiting.pins.exitEdge = false ∧ exiting.seq.line.running = true ∧ exiting.rel.exitList = leaving :: [] ∧
      leaving.piece.owner = .ticket 0 ∧ findTicket 0 exiting.tix.table = some (ticket 0 5001 .closed) ∧
      (ticket 0 5001 .closed).state = .closed) ∧
    running.pins.exitEdge = false ∧ running.seq.line.running = true ∧ running.rel.exitList = [] ∧
    running.seq.startupComplete = true := by decide

theorem witness_ExitEdgeConfirmsOldestPiece_outcome :
    findTicket 0 (withTix { running.tix with table := [{ ticket 0 5001 .closed with setsIssued := 1 }] } exiting).tix.table
      = some { ticket 0 5001 .closed with setsIssued := 1 } ∧
    changesNoTicket exiting { leaving with piece := { onePiece with owner := .purge } }.piece.owner ∧
    (withTix { running.tix with table := [{ ticket 0 5001 .closed with setsIssued := 1 }] } exiting).rel.exitList
      = leaving :: [] :=
  ⟨by decide, .inl rfl, rfl⟩

/-- R150, R90: the last set of a CLOSED ticket confirmed at the exit: the ticket's disposition is DELIVERED. -/
theorem test_exit_delivers :
    (after (exec (.exitEdge true) (withTix { running.tix with table := [{ ticket 0 5001 .closed with setsIssued := 1 }] }
      exiting))).tix.waiting.map Disposition.outcome = [.delivered] := by decide

theorem witness_TrayAndFolderInputsRelease :
    (Instr.foldReadyChange true = .foldReadyChange true ∧ (held oneSet).rel.set = some oneSet ∧
      (held oneSet).rel.hold = .holding ∧ (held oneSet).seq.line.running = true ∧ oneSet.owner ≠ .purge ∧
      oneSet.reasons = 0 ∧ { (held oneSet).pins with foldReady := true }.foldReady = true ∧
      (held oneSet).rel.folding = false ∧
      (withRel { (held oneSet).rel with exitList := [leaving] } running).rel.exitList.length < 2 ∧
      2 ≤ (withRel { (held oneSet).rel with exitList := [leaving, leaving] } running).rel.exitList.length) ∧
    ((held { oneSet with reasons := 1 }).rel.set = some { oneSet with reasons := 1 } ∧
      (held { oneSet with reasons := 1 }).rel.hold = .holding ∧ { oneSet with reasons := 1 }.reasons ≠ 0 ∧
      { (held oneSet).pins with rejectFull := false }.rejectFull = false ∧
      { (held oneSet).pins with rejectFull := true }.rejectFull = true) ∧
    (released .good oneSet).rel.hold ≠ .holding ∧ running.rel.set = none := by decide

theorem witness_WebPresentFallTakesRunout :
    running.pins.webPresent = true ∧ running.seq.line = .run ∧ running.trk.registered = true ∧
    running.trk.runout = false := by decide

/-- R32, R60: a READ_OPEN record, and what sheet verdicts settle with; the web 1 tu short of the tail's burst point. -/
theorem witness_WebPresentFallTakesRunout_tail :
    frontOf .readOpen (rolling [reading 1]).trk.queue = some (reading 1) ∧ onlyOne (rolling [reading 1]) (reading 1) ∧
    reached (rolling [reading 1]).enc.highWater ((reading 1).anchor + (rolling []).setup 13) = false ∧
    reached (rolling [reading 0]).enc.highWater ((reading 0).anchor + (rolling []).setup 13) = true ∧
    settles (rolling []).rd.verdict .noFrame none ∧
    settles { governing := some { edge := 0, d := 5, result := none }, conflict := false } .format none ∧
    settles { governing := some { edge := 0, d := 5, result := some .smudge }, conflict := true } .conflict none ∧
    settles { governing := some { edge := 0, d := 5, result := some .smudge }, conflict := false } .smudge none ∧
    settles { governing := some { edge := 0, d := 5, result := some (.ok oneFrame) }, conflict := false } .ok
      (some oneFrame) :=
  ⟨by decide, by unfold onlyOne; decide, by decide, by decide, .inl ⟨rfl, rfl, rfl⟩,
    .inr ⟨_, rfl, .inl ⟨rfl, rfl, rfl⟩⟩, .inr ⟨_, rfl, .inr (.inl ⟨nofun, rfl, rfl, rfl⟩)⟩,
    .inr ⟨_, rfl, .inr (.inr ⟨rfl, .inr (.inr (.inr ⟨rfl, rfl, rfl⟩))⟩)⟩,
    .inr ⟨_, rfl, .inr (.inr ⟨rfl, .inl ⟨_, rfl, rfl, rfl⟩⟩)⟩⟩

/-- R60: a fall in REGISTER, and one in RUN after runout with a record waiting at the shut gate. -/
theorem witness_WebPresentFallTakesRunout_none :
    ((inLine .register).pins.webPresent = true ∧ (inLine .register).seq.line ≠ .run ∧
      (inLine .register).seq.line.running = false ∧ (inLine .register).trk.queue = []) ∧
    ∃ s r, s = refresh { rolling [r] with trk := { (rolling [r]).trk with runout := true } } ∧
      s.pins.webPresent = true ∧ s.seq.line.running = true ∧ s.trk.runout = true ∧ planNow s = s.pln ∧
      s.pln.gateOpen = false ∧ frontOf .readDone s.trk.queue = some r ∧ onlyOne s r :=
  ⟨by decide, _, { reading 1 with stage := .readDone }, rfl, by decide, by decide, by decide, by decide, by decide,
    by decide, by unfold onlyOne; decide⟩

theorem witness_PaperLowRiseHaltsRun :
    running.pins.paperLow = false ∧ running.seq.line = .run ∧ (running.setup 39).getLsbD 0 = true ∧
    running.pln.haltKind ≠ .runout ∧ (withSetup 39 6 running).setup 39 = 6 ∧
    ((withSetup 39 6 running).setup 39).getLsbD 0 = false := by decide

theorem witness_StopInputsTakeFault :
    running.pins.estopN = true ∧ running.pins.webBreakN = true ∧ running.seq.startupComplete = true ∧
    running.seq.line ≠ .idle ∧ running.seq.line ≠ .fault ∧ (inLine .fault).seq.line = .fault ∧
    halting.tr.state ≠ .still ∧ State.reset.seq.startupComplete = false := by decide

theorem witness_FirstFaultHoldsLine :
    halting.seq.startupComplete = true ∧ halting.seq.line ≠ .fault ∧ LineFault.immediate .slip = true ∧
    LineFault.immediate .strayEdge = false ∧ halting.tr.state = .moving ∧ running.tr.state = .still := by decide

theorem witness_ControllerReadSeesLatestWrite :
    (QueueOk running ∧ EntriesIn running ∧ Memory.wf running.mem = true) ∧
    (1048575 : Word).toNat < running.top ∧ running.top ≤ (1048576 : Word).toNat :=
  ⟨⟨running_store.1, running_store.2.1, running_store.2.2.1⟩, by decide⟩

theorem witness_ControllerWriteIsLatest :
    (QueueOk running ∧ EntriesIn running ∧ Memory.wf running.mem = true) ∧
    classify 160 running = .status ∧ classify 223 running = .status ∧ classify 4096 running = .event ∧
    classify 5631 running = .event ∧ classify 5632 running = .plain ∧ classify 224 running = .plain ∧
    classify 1048576 running = .outOfRange :=
  ⟨⟨running_store.1, running_store.2.1, running_store.2.2.1⟩, by decide⟩

theorem witness_TicketWriteAmendsTicket :
    (QueueOk running ∧ EntriesIn running ∧ Memory.wf running.mem = true ∧ RingOk running ∧ TableOk running) ∧
    classify 260 running = .ticket 0 1 ∧ classify 264 running = .ticket 0 2 ∧ classify 288 running = .ticket 1 0 ∧
    (15 : Lanes) ≠ 0 ∧ ticket 0 5001 .closed ∈ running.tix.table ∧
    (ticket 0 5001 .closed).ring.toNat % running.setupN 36 = 0 ∧
    (∀ k' ∈ running.tix.table, k'.ring.toNat % running.setupN 36 = 0 → k' = ticket 0 5001 .closed) ∧
    (ticket 0 5001 .closed).state = .closed ∧
    (∀ k ∈ running.tix.table, k.ring.toNat % running.setupN 36 = 1 → k.state = .disposing ∨ k.state = .disposed) :=
  ⟨⟨running_store.1, running_store.2.1, running_store.2.2.1, running_store.2.2.2.2.1, running_store.2.2.2.2.2⟩,
    by decide⟩

theorem witness_SetupWriteJudged :
    (QueueOk up ∧ EntriesIn up ∧ Memory.wf up.mem = true ∧ ShadowOk up) ∧ up.seq.line = .idle ∧
    running.seq.line ≠ .idle ∧ 8 ≤ (8 : BitVec 6).toNat ∧ (39 : BitVec 6).toNat < 40 ∧
    (255 : Word) = ((up.setup 8 &&& ~~~ laneMask 15) ||| (255 &&& laneMask 15)) &&& 0xFFFFFFFF ∧
    (0x37 : Word) = ((up.setup 5 &&& ~~~ laneMask 15) ||| (0xFF &&& laneMask 15)) &&& 0x37 ∧
    (8, 1, 255) ∈ refuseRanges ∧ (∀ x ∈ clampRanges, x.1 ≠ 8 ∧ x.1 ≠ 6) ∧ (16, 2000, 60000) ∈ clampRanges ∧
    (some 255 : Option Word) = (if 1 ≤ (255 : Word).toNat ∧ (255 : Word).toNat ≤ 255 then some 255 else none) ∧
    (none : Option Word) = (if 1 ≤ (256 : Word).toNat ∧ (256 : Word).toNat ≤ 255 then some 256 else none) ∧
    (60000 : Word) = BitVec.ofNat 32 (max 2000 (min 60000 (80000 : Word).toNat)) ∧
    (64 : Word) = BitVec.ofNat 32 (max 1 (min (up.setupN 38) (65 : Word).toNat)) ∧
    (1048544 : Word).toNat % 32 = 0 ∧ (1048544 : Word).toNat < up.top ∧ ¬ (1048576 : Word).toNat < up.top ∧
    (1024 : Word).toNat ∈ [16, 32, 64, 128, 256, 512, 1024] ∧ (1048568 : Word).toNat % 8 = 0 ∧
    up.publish = up.tix.retireIndex ∧ up.tix.fetch = .idle ∧ running.publish ≠ running.tix.retireIndex :=
  ⟨⟨up_store.1, up_store.2.1, up_store.2.2.1, up_store.2.2.2.1⟩, by decide⟩

theorem witness_TicketsLowMarkIsClamped :
    ShadowOk running ∧ (17 : Word) = (running.setup 7 &&& ~~~ laneMask 1) ||| (17 &&& laneMask 1) ∧
    { running.tix with low := false }.low = false ∧
    (running.tix.table.filter fun x => x.state = .waiting).length < min 16 (17 : Word).toNat ∧
    running.tix.fetchIndex = running.publish := ⟨running_store.2.2.2.1, by decide⟩

/-- 64 ring slots; retire 0 and fetch 1. -/
theorem witness_RingIndexWritesAreJudged :
    ShadowOk running ∧ ((64 : Index) - running.tix.retireIndex).toNat ≤ running.setupN 36 ∧
    (running.tix.fetchIndex - running.tix.retireIndex).toNat ≤ ((1 : Index) - running.tix.retireIndex).toNat ∧
    running.setupN 36 < ((65 : Index) - running.tix.retireIndex).toNat ∧
    ((0 : Index) - running.tix.retireIndex).toNat < (running.tix.fetchIndex - running.tix.retireIndex).toNat ∧
    (running.rep.writeIndex - 0).toNat ≤ (running.rep.writeIndex - running.readIndex).toNat ∧
    (running.rep.writeIndex - running.readIndex).toNat < (running.rep.writeIndex - 1).toNat :=
  ⟨running_store.2.2.2.1, by decide⟩

theorem witness_EventRingLayoutRestartsSlot :
    ShadowOk up ∧ up.seq.line = .idle ∧ running.seq.line ≠ .idle ∧
    (4096 : Word) = (up.setup 38 &&& ~~~ laneMask 15) ||| (4096 &&& laneMask 15) ∧
    (16 ≤ (4096 : Word).toNat ∧ (4096 : Word).toNat ≤ 4096) ∧
    (1048568 : Word) = (up.setup 37 &&& ~~~ laneMask 15) ||| (1048568 &&& laneMask 15) ∧
    ((1048568 : Word).toNat % 8 = 0 ∧ (1048568 : Word).toNat < up.top) := ⟨up_store.2.2.2.1, by decide⟩

theorem witness_InterruptWordsDriveIrq :
    ShadowOk up ∧ (6 : BitVec 8) = ((up.setup 1 &&& ~~~ laneMask 15) ||| (6 &&& laneMask 15)).setWidth 8 ∧
    (6 : BitVec 8) = ((up.setup 2 &&& ~~~ laneMask 15) ||| (6 &&& laneMask 15)).setWidth 8 :=
  ⟨up_store.2.2.2.1, by decide⟩

theorem witness_CommandsAreDecided :
    ShadowOk up ∧ State.reset.seq.startupComplete = false ∧ up.seq.startupComplete = true ∧
    (3 * up.setupN 9 + 2000 ≤ up.setupN 13 ∧ up.setupN 10 + 960 + up.setupN 11 ≤ up.setupN 9 ∧
      up.setupN 11 + 12 ≤ up.setupN 10 ∧ up.setupN 9 + up.setupN 25 + 400 ≤ up.setupN 23 ∧
      up.setupN 14 + 1000 ≤ up.setupN 9) ∧
    ¬ 3 * (withSetup 13 18763 up).setupN 9 + 2000 ≤ (withSetup 13 18763 up).setupN 13 ∧
    3 * (withSetup 13 18764 up).setupN 9 + 2000 ≤ (withSetup 13 18764 up).setupN 13 ∧
    (up.base + 224 ≤ up.top ∧ up.setupN 35 + up.setupN 36 * 32 ≤ up.top ∧ up.setupN 37 + up.setupN 38 * 24 ≤ up.top ∧
      up.base + 224 ≤ up.setupN 35 ∧ up.base + 224 ≤ up.setupN 37 ∧
      up.setupN 35 + up.setupN 36 * 32 ≤ up.setupN 37) ∧
    ¬ (withSetup 37 2303 up).setupN 35 + (withSetup 37 2303 up).setupN 36 * 32 ≤ (withSetup 37 2303 up).setupN 37 ∧
    running.seq.line = .run ∧ (inLine .register).seq.line = .register ∧
    (after (exec (.stop 3) (inLine .register))).seq.stopPending = true ∧ (inLine .halted).seq.line = .halted ∧
    (held oneSet).rel.hold ≠ .empty ∧ (inLine .halted).rel.hold = .empty ∧ (inLine .fault).seq.line = .fault ∧
    (inLine .fault).tr.state = .still ∧ (ramping 600).tr.state ≠ .still ∧ 8 ≤ (8 : BitVec 8).toNat :=
  ⟨up_store.2.2.2.1, by decide⟩

theorem witness_StartEntersRegister :
    up.seq.startupComplete = true ∧ up.seq.line = .idle ∧ 3 * up.setupN 9 + 2000 ≤ up.setupN 13 ∧
    up.setupN 10 + 960 + up.setupN 11 ≤ up.setupN 9 ∧ up.setupN 11 + 12 ≤ up.setupN 10 ∧
    up.setupN 9 + up.setupN 25 + 400 ≤ up.setupN 23 ∧ up.setupN 14 + 1000 ≤ up.setupN 9 ∧ regionsOk up = true ∧
    up.pins.webBreakN = true ∧ { up with pins := { Pins.quiet with webBreakN := false } }.pins.webBreakN = false := by
  decide

theorem witness_CalibrateStartsSweep :
    up.seq.startupComplete = true ∧ up.seq.line = .idle ∧ up.pins.webBreakN = true ∧
    { up with pins := { Pins.quiet with webBreakN := false } }.pins.webBreakN = false := by decide

/-- Two sheets read: the park of the first is 23,801 and of the second 29,389, and the web at 24,000. -/
theorem witness_PauseAndStopHaltRun :
    running.seq.startupComplete = true ∧ running.seq.line = .run ∧ running.pln.haltKind ≠ .runout ∧
    (withSheets [sheet 1 .readDone, sheet 5589 .readDone] (rolling [])).trk.queue.find? (fun r =>
        decide (r.stage = .readDone) && decide ((stopDistance (rolling []).tr.speed ((rolling []).setupN 19) : Int) ≤
          signedDiff (r.anchor + (rolling []).setup 13 - (rolling []).setup 14
            + ((rolling []).tr.command - (rolling []).enc.web)) (rolling []).tr.command)) = some (sheet 5589 .readDone) ∧
    (stopDistance 1000 (running.setupN 19) : Int) ≤ signedDiff 24003 24000 ∧
    ¬ (stopDistance 1000 (running.setupN 19) : Int) ≤ signedDiff 24002 24000 ∧
    (inLine .register).seq.startupComplete = true ∧ (inLine .register).seq.line = .register ∧
    (inLine .register).seq.stopPending = false := by decide

/-- HALTED at a runout, the halt target at `w`, the web at 24,000. -/
def ranOut (w : Option Word) : State :=
  { rolling [] with
    seq := { (inLine .halted).seq with haltKind := .runout }
    trk := { (rolling []).trk with runout := true }
    pln := { Planner.reset with haltKind := .runout, haltTarget := w } }

theorem witness_ResumeReturnsToRun :
    ((inLine .halted).seq.startupComplete = true ∧ (inLine .halted).seq.line = .halted ∧
      (inLine .halted).pln.haltKind ≠ .runout ∧ (inLine .halted).pins.webPresent = true) ∧
    ((ranOut (some 24000)).seq.startupComplete = true ∧ (ranOut (some 24000)).seq.line = .halted ∧
      (ranOut (some 24000)).pln.haltKind = .runout ∧ (ranOut (some 24000)).trk.runout = true ∧
      (ranOut (some 24000)).trk.queue = [] ∧
      signedDiff ((24000 : Word) + ((ranOut none).tr.command - (ranOut none).enc.web)) (ranOut none).tr.command ≤ 0 ∧
      (ranOut none).pln.haltTarget = none ∧ (ranOut (some 24001)).tr.due ≤ (ranOut (some 24001)).tr.emitted ∧
      0 < signedDiff ((24001 : Word) + ((ranOut none).tr.command - (ranOut none).enc.web)) (ranOut none).tr.command) ∧
    ((withSheets [reading 100] (inLine .halted)).seq.line = .halted ∧
      { (inLine .halted).trk with registered := true }.registered = true ∧ (inLine .halted).trk.runout = false ∧
      { Pins.quiet with webPresent := false }.webPresent = false ∧
      frontOf .readOpen [reading 100] = some (reading 100)) := by decide

theorem witness_EndEmptiesSheetPath :
    (inLine .halted).seq.startupComplete = true ∧ (inLine .halted).seq.line = .halted ∧
    (inLine .halted).rel.hold = .empty ∧ (inLine .halted).rel.folding = false ∧
    (inLine .halted).rel.exitList = [] := by decide

theorem witness_ClearLeavesFault :
    (inLine .fault).seq.startupComplete = true ∧ (inLine .fault).seq.line = .fault ∧
    (inLine .fault).tr.state = .still ∧ (inLine .fault).pins.estopN = true ∧
    { inLine .fault with pins := { Pins.quiet with estopN := false } }.pins.estopN = false := by decide

theorem witness_FetchBeginsAndReads :
    ((withSetup 3 1 up).seq.startupComplete = true ∧ (withSetup 3 1 up).tix.fetch = .idle ∧
      (withSetup 3 1 up).tix.fetchIndex ≠ (withSetup 3 1 up).publish ∧ (withSetup 3 1 up).tix.table.length < 16) ∧
    up.tix.fetchIndex = up.publish ∧
    (QueueOk up ∧ EntriesIn up ∧ Memory.wf up.mem = true ∧ ShadowOk up) ∧
    (withTix { up.tix with fetch := .due0 } up).tix.fetch = (if false = true then .due1 0 else .due0) ∧
    (withTix { up.tix with fetch := .due1 7 } up).tix.fetch = (if true = true then .due1 7 else .due0) ∧
    (slotAddr up.tix.fetchIndex (if false = true then 1 else 0) up).toNat < up.top ∧
    (withSetup 35 1048544 up).top ≤ (slotAddr 1 0 (withSetup 35 1048544 up)).toNat :=
  ⟨by decide, by decide, ⟨up_store.1, up_store.2.1, up_store.2.2.1, up_store.2.2.2.1⟩, by decide⟩

/-- Word 1 of a slot: count, style code and class of a ticket of job 1. -/
def slotWord (count style cls : Nat) : Word := BitVec.ofNat 32 (1 + count * 256 + style * 65536 + cls * 1048576)

theorem witness_FetchReturnEntersTicket :
    (withTix { up.tix with fetch := .flight0 5 } up).tix.fetch = .flight0 5 ∧
    (withTix { up.tix with fetch := .flight1 0x5C001389 0x201 } up).tix.fetch = .flight1 0x5C001389 0x201 ∧
    (withTix { up.tix with fetch := .flight1 0x5C001389 0x201 } up).publish = up.tix.fetchIndex ∧
    (withSetup 3 1 (withTix { up.tix with fetch := .flight1 0x5C001389 0x201 } up)).publish ≠ up.tix.fetchIndex := by
  decide

/-- What a fetched ticket's word 1 makes of it. -/
def enters (w1 : Word) : List (Nat × FoldStyle × DivertClass × Option InvalidReason) :=
  (after (exec (.fetchDataReturn noGauge) (withSetup 3 1 { up with
    tix := { up.tix with fetch := .flight1 0x5C001389 w1 } }))).tix.table.map fun k => (k.count, k.style, k.cls, k.invalid)

/-- R70: counts 14 and 15 and 0, the sheet limit of style ZIG, the codes, and a foreign tag. -/
theorem witness_FetchReturnEntersTicket_checks :
    (enters (slotWord 14 0 0)).map (fun x => x.2.2.2) = [none] ∧
    (enters (slotWord 15 0 0)).map (fun x => x.2.2.2) = [some .count] ∧
    (enters (slotWord 0 0 0)).map (fun x => x.2.2.2) = [some .count] ∧
    enters (slotWord 8 3 2) = [(8, .zig, .pull, none)] ∧
    (enters (slotWord 9 3 1)).map (fun x => x.2.2) = [(.sample, some .styleLimit)] ∧
    (enters (slotWord 8 4 0)).map (fun x => x.2.2.2) = [some .code] ∧
    (enters (slotWord 8 0 3)).map (fun x => x.2.2.2) = [some .code] ∧
    (enters (slotWord 8 0 0 + 1)).map (fun x => x.2.2.2) = [some .tag] := by decide

/-- The collator at a record, with a ticket table, an open set and a pending sheet. -/
def collated (r : Sheet) (table : List Ticket) (o : Option OpenSet) (pend : Option Word) : State :=
  { rolling [r] with
    tix := { running.tix with table := table }
    col := { Collator.reset with cursor := some r.anchor, openSet := o, pendingRead := pend } }

/-- An open set of ring index 0 of `n` sheets, and one of a purge. -/
def openSheets (owner : Owner) (n : Nat) : OpenSet := { number := 1, owner := owner, sheets := n, lastSheet := 100 }

/-- R71 to R86: states at a boundary, with and without a pending sheet, and with a ticket COLLATING; the ticket awaited
by its serial; a serial that is over, and one unknown with 15 tickets in the table and with 16. -/
theorem witness_FetchReturnEntersTicket_collator :
    (atBoundary (collated (sheet 200 .readDone) [ticket 0 5001 .waiting] (some (openSheets .purge 13)) none) ∧
      atBoundary (collated (sheet 200 .readDone) [ticket 0 5001 .waiting] none (some 100)) ∧
      awaits (collated (sheet 200 .readDone) [ticket 0 5001 .waiting] none none) 5001 (ticket 0 5001 .waiting) ∧
      ringsApart (collated (sheet 200 .readDone) [ticket 0 5002 .waiting, ticket 1 5001 .waiting] none none) ∧
      awaits (collated (sheet 200 .readDone) [ticket 0 5002 .waiting, ticket 1 5001 .waiting] none none) 5001
        (ticket 1 5001 .waiting)) ∧
    (collates (collated (sheet 200 .readDone) [ticket 0 5001 .collating] (some (openSheets (.ticket 0) 13)) none)
        (ticket 0 5001 .collating) ∧
      collates (collated (sheet 200 .readDone) [ticket 0 5002 .collating, ticket 1 5001 .waiting] none none)
        (ticket 0 5002 .collating) ∧
      awaits (collated (sheet 200 .readDone) [ticket 0 5002 .collating, ticket 1 5001 .waiting] none none) 5001
        (ticket 1 5001 .waiting)) := by
  unfold atBoundary awaits ringsApart collates
  refine ⟨⟨⟨by decide, by rintro o h; cases h; rfl⟩, ⟨by decide, nofun⟩, by decide⟩, ⟨by decide, ?_⟩, ⟨by decide, nofun⟩,
    by decide⟩
  rintro o h
  cases h
  rfl

theorem witness_FetchReturnEntersTicket_decisions :
    (sheet 200 .readDone).result = .ok ∧
    (sheet 200 .readDone).frame = some { tag := 1, serial := 5001, index := 0, isLast := true } ∧
    (1 : BitVec 8).setWidth 32 = up.setup 8 ∧ (2 : BitVec 8).setWidth 32 ≠ up.setup 8 ∧
    (rolling []).seq.startupComplete = true ∧ (rolling []).seq.line = .run ∧
    { sheet 200 .readDone with result := .leadIn }.result = .leadIn ∧
    { sheet 200 .readDone with result := .smudge }.result = .smudge ∧
    (∀ x ∈ [ticket 0 5001 .closed], (x.state = .collating ∨ x.state = .waiting) → x.serial ≠ 5001) ∧
    (∀ x ∈ List.replicate 15 (ticket 0 5002 .waiting), (x.state = .collating ∨ x.state = .waiting) → x.serial ≠ 5001) ∧
    (List.replicate 15 (ticket 0 5002 .waiting)).length < 16 ∧
    16 ≤ (List.replicate 16 (ticket 0 5002 .waiting)).length ∧ (5001 : Serial) ∉ running.tix.retired ∧
    (collated (sheet 200 .readDone) [] none none).col.cursor = some 200 ∧
    findSheet 200 (collated (sheet 200 .readDone) [] none none).trk.queue = some (sheet 200 .readDone) ∧
    (sheetsAfter 200 (after (exec .tick (collated (sheet 200 .readDone) [] none none))).trk.queue).head? = none ∧
    (rolling []).col.cursor = none ∧ (rolling []).col.pendingRead = none ∧ (rolling []).col.runoutNoted = false ∧
    { ticket 0 5001 .waiting with count := 3 }.assigned + 1 ≠ 3 := by decide

/-- R86: a pending sheet at a boundary, met by the serial of a CLOSED ticket, of a retired piece, and of none with 16
tickets in the table; and by index 1 of a piece of one sheet. -/
theorem witness_FetchReturnEntersTicket_pending :
    atBoundary (collated (sheet 200 .readDone) [ticket 0 5001 .closed] (some (openSheets .purge 13)) (some 100)) ∧
    (∀ x ∈ [ticket 0 5001 .closed], x.state = .waiting → x.serial ≠ 5001) ∧
    (∃ x ∈ [ticket 0 5001 .closed], x.serial = 5001 ∧
      (x.state = .closed ∨ x.state = .disposing ∨ x.state = .disposed)) ∧
    (5001 : Serial) ∈ { TicketUnit.reset with retired := [5001] }.retired ∧
    (∀ x ∈ List.replicate 16 (ticket 0 5002 .waiting), x.state = .waiting → x.serial ≠ 5001) ∧
    16 ≤ (List.replicate 16 (ticket 0 5002 .waiting)).length ∧
    awaits (collated (sheet 200 .readDone) [ticket 0 5001 .waiting] none (some 100)) 5001 (ticket 0 5001 .waiting) ∧
    (ticket 0 5001 .waiting).assigned + 1 = (ticket 0 5001 .waiting).count ∧
    (∀ x ∈ [ticket 0 5001 .waiting], x.serial = 5001 → x = ticket 0 5001 .waiting) := by
  unfold atBoundary awaits
  exact ⟨⟨by decide, by rintro o h; cases h; rfl⟩, by decide⟩

/-- R75, R88: the cursor at the first of two READ_DONE records, and at the last of a runout; and at runout a pending sheet
with no record left. -/
theorem witness_FetchReturnEntersTicket_cursor :
    ((collated (sheet 200 .readDone) [] none none).col.cursor = some 200 ∧
      (sheetsAfter 200 [unassigned 200 .readDone, unassigned 5788 .readDone]).head? = some (unassigned 5788 .readDone) ∧
      (unassigned 5788 .readDone).stage = .readDone ∧
      ([unassigned 200 .readDone, unassigned 5788 .readDone].map Sheet.anchor).Nodup) ∧
    { (collated (sheet 200 .readDone) [] none none).col with runoutNoted := true }.runoutNoted = true ∧
    ({ (rolling []).col with pendingRead := some 100 }.cursor = none ∧
      { (rolling []).col with pendingRead := some 100 }.pendingRead = some 100 ∧
      atBoundary { rolling [] with col := { (rolling []).col with pendingRead := some 100 } }) := by
  unfold atBoundary
  exact ⟨by decide, by decide, by decide, by decide, by decide, nofun⟩

theorem witness_QueueGrantDrainsOldest :
    (QueueOk running ∧ EntriesIn running ∧ Memory.wf running.mem = true) ∧
    running.path.queue = { addr := 160, data := 3 } :: [] :=
  ⟨⟨running_store.1, running_store.2.1, running_store.2.2.1⟩, rfl⟩

/-- The start-up writer about to place its last word. -/
def almostUp : State := { State.reset with path := { State.reset.path with startPos := 55 } }

theorem witness_StartupWritePlacesInOrder :
    (StartupOk almostUp ∧ StartupOk State.reset) ∧ almostUp.path.startPos = 55 ∧ State.reset.path.startPos = 0 ∧
    almostUp.path.queue.length < 16 ∧ almostUp.pins.estopN = true ∧ almostUp.seq.line = .idle ∧
    { almostUp with pins := { Pins.quiet with estopN := false } }.pins.estopN = false ∧ State.reset.path.written.getD 0 true = false ∧
    { State.reset.path with written := List.replicate 40 true }.written.getD 39 false = true := by
  unfold StartupOk
  decide

/-- The ticket disposed of is the oldest, the next is DISPOSED and the third is CLOSED: two retire. -/
theorem witness_DispositionIsPlacedAndRetired :
    disposing.tix.waiting = delivered 0 :: [] ∧ disposing.seq.startupComplete = true ∧
    disposing.path.queue.length < 16 ∧ (slotAddr (delivered 0).ring 7 disposing).toNat < disposing.top ∧
    (withSetup 35 1048544 disposing).top ≤ (slotAddr (delivered 1).ring 7 (withSetup 35 1048544 disposing)).toNat ∧
    [ticket 0 5001 .disposed, ticket 1 5002 .disposed, ticket 2 5003 .closed]
      = [ticket 0 5001 .disposing, ticket 1 5002 .disposed, ticket 2 5003 .closed].map (fun k =>
          if k.ring = (delivered 0).ring then { k with state := .disposed } else k) ∧
    (∀ k ∈ [ticket 0 5001 .disposed, ticket 1 5002 .disposed, ticket 2 5003 .closed].take 2, k.state = .disposed) ∧
    ([ticket 0 5001 .disposed, ticket 1 5002 .disposed, ticket 2 5003 .closed].drop 2).head?
      = some (ticket 2 5003 .closed) ∧
    (ticket 2 5003 .closed).state ≠ .disposed ∧ ([ticket 0 5001 .disposed].drop 1).head? = none := by decide

/-- A staged record, and an occupancy one below the threshold of 8. -/
def staged : State :=
  withRep { up.rep with writeIndex := 7, writeSlot := 7, staging := [{ seq := some 1, time := 5, event := .darkClear 3 4 }] }
    up

theorem witness_EventRecordMovesWhole :
    ShadowOk staged ∧ staged.rep.staging = { seq := some 1, time := 5, event := .darkClear 3 4 } :: [] ∧
    staged.seq.startupComplete = true ∧ staged.path.queue.length + 6 ≤ 16 ∧
    (staged.rep.writeIndex - staged.readIndex).toNat < staged.setupN 38 ∧
    staged.setupN 37 + staged.rep.writeSlot * 24 + 24 ≤ staged.top ∧
    (staged.rep.writeIndex - staged.readIndex).toNat < staged.setupN 6 ∧
    staged.setupN 6 ≤ (staged.rep.writeIndex + 1 - staged.readIndex).toNat ∧
    staged.setupN 6 ≤ (withRep { staged.rep with writeIndex := 8 } staged).occupancy :=
  ⟨up_store.2.2.2.1, by decide⟩

theorem witness_StatusAndPhaseArePlaced :
    ((withRep { up.rep with due := (List.replicate 16 false).set 15 true } up).seq.startupComplete = true ∧
      (withRep { up.rep with due := (List.replicate 16 false).set 15 true } up).path.queue.length < 16 ∧
      (withRep { up.rep with due := (List.replicate 16 false).set 15 true } up).rep.due.length = 16 ∧
      (withRep { up.rep with due := (List.replicate 16 false).set 15 true } up).rep.due.getD 15 false = true ∧
      ∀ k, k < 15 →
        (withRep { up.rep with due := (List.replicate 16 false).set 15 true } up).rep.due.getD k false = false) ∧
    ({ up with path := { up.path with phaseReport := true } }.path.phaseReport = true ∧
      up.seq.startupComplete = true ∧ up.path.queue.length < 16) ∧ up.path.phaseReport = false := by decide

theorem witness_SnapshotHandsOverFiveWords :
    (withRep { up.rep with snapDue := true } up).rep.due.length = 16 ∧
    (withRep { up.rep with snapDue := true } up).rep.snapDue = true ∧ up.rep.snapDue = false := by decide

end Sys2Proof.Tests
end

/-! PROOFS. R13 and R15: the integer square root found bit by bit, the stop distance as the least distance whose
2ar reaches v², and the halt target the planner takes from one candidate. -/

namespace Sys2Proof.Machine

/-! ### The integer square root -/

/-- The bits already found are a lower bound and one more at bit `b` is too much: what every bit of the search keeps,
down to a window of one. -/
theorem isqrtFrom_brackets (n b r : Nat) (lower : r * r ≤ n) (upper : n < (r + 2 ^ b) * (r + 2 ^ b)) :
    isqrtFrom n b r * isqrtFrom n b r ≤ n ∧ n < (isqrtFrom n b r + 1) * (isqrtFrom n b r + 1) := by
  induction b generalizing r with
  | zero => exact ⟨lower, upper⟩
  | succ b ih =>
    rw [isqrtFrom]
    split
    case isTrue fits =>
      have window : r + 2 ^ b + 2 ^ b = r + 2 ^ (b + 1) := by omega
      exact ih _ fits (window ▸ upper)
    case isFalse large => exact ih r lower (Nat.lt_of_not_le large)

theorem isqrt_brackets {n : Nat} (h : n < 18446744073709551616) :
    isqrt n * isqrt n ≤ n ∧ n < (isqrt n + 1) * (isqrt n + 1) :=
  isqrtFrom_brackets n 32 0 (Nat.zero_le n) h

theorem le_isqrt {m n : Nat} (h : n < 18446744073709551616) (square : m * m ≤ n) : m ≤ isqrt n :=
  have below : m * m < (isqrt n + 1) * (isqrt n + 1) := Nat.lt_of_le_of_lt square (isqrt_brackets h).2
  Nat.le_of_lt_succ (Nat.mul_self_lt_mul_self_iff.mp below)

/-! ### The stop distance -/

theorem ceilDiv_le_iff {d : Nat} (hd : 0 < d) (n c : Nat) : ceilDiv n d ≤ c ↔ n ≤ d * c := by
  rw [ceilDiv, Nat.div_le_iff_le_mul_add_pred hd]
  omega

/-- R13: a distance is enough exactly when the curve of R15 allows `v` there. -/
theorem stopDistance_le_iff {a : Nat} (ha : 0 < a) (v r : Nat) : stopDistance v a ≤ r ↔ v * v ≤ 2 * a * r :=
  ceilDiv_le_iff (by omega) _ _

theorem sq_le_mul_stopDistance {a : Nat} (ha : 0 < a) (v : Nat) : v * v ≤ 2 * a * stopDistance v a :=
  (stopDistance_le_iff ha v _).mp (Nat.le_refl _)

/-- Rounding up adds less than one divisor. -/
theorem mul_stopDistance_lt {a : Nat} (ha : 0 < a) (v : Nat) : 2 * a * stopDistance v a < v * v + 2 * a := by
  have quotient : 2 * a * stopDistance v a ≤ v * v + 2 * a - 1 := Nat.mul_div_le _ _
  omega

theorem stopDistance_zero {a : Nat} (ha : 0 < a) : stopDistance 0 a = 0 :=
  Nat.le_zero.mp ((stopDistance_le_iff ha 0 0).mpr (Nat.zero_le _))

/-- R13, R15: at a reachable distance the permitted speed is not below the commanded speed. -/
theorem le_permittedSpeed {v a r : Nat} (ha : 0 < a) (enough : stopDistance v a ≤ r)
    (h : 2 * a * r < 18446744073709551616) : v ≤ permittedSpeed a r := by
  have square : v * v ≤ 2 * a * r := (stopDistance_le_iff ha v r).mp enough
  rw [permittedSpeed]
  split
  case isTrue stopped =>
    obtain rfl : r = 0 := by omega
    exact Nat.mul_self_le_mul_self_iff.mp square
  case isFalse => exact le_isqrt h square

/-! ### Reachable targets -/

theorem reachable_iff (t : Word) (s : State) :
    reachable t s = true ↔ (stopDistance s.tr.speed (s.setupN 19) : Int) ≤ s.remaining t :=
  decide_eq_true_iff

/-- R13: a distance is never negative, so a target behind the command counter is out of reach at every speed. -/
theorem reachable_of_behind {t : Word} {s : State} (behind : s.remaining t < 0) : reachable t s = false := by
  rw [← Bool.not_eq_true, reachable_iff]
  omega

/-- R100, R102: with one candidate, its park is the halt target when reachable, and none is set otherwise. -/
theorem chooseHalt_singleton_haltTarget (s : State) (x : Sheet) :
    (chooseHalt [x] s).pln.haltTarget = if reachable (s.park x) s = true then some (s.park x) else none := by
  cases h : reachable (s.park x) s <;> simp [chooseHalt, h]

/-- Settles O13: the square root from `isqrt_brackets`, the distance and the permitted speed from
`stopDistance_le_iff`. -/
theorem stopDistanceAndSquareRoot : Obligations.StopDistanceAndSquareRoot := by
  unfold Obligations.StopDistanceAndSquareRoot
  refine ⟨fun n => isqrt_brackets, fun v a ha => ⟨sq_le_mul_stopDistance ha v, mul_stopDistance_lt ha v,
    stopDistance_zero ha, ?reach, chooseHalt_singleton_haltTarget, ?curve⟩⟩
  case reach =>
    rintro s t rfl rfl
    exact ⟨reachable_iff t s, reachable_of_behind⟩
  case curve =>
    intro r enough h
    exact ⟨(stopDistance_le_iff ha v r).mp enough, le_permittedSpeed ha enough h⟩

end Sys2Proof.Machine

/-! PROOFS. R39: the circular runs of passing phases, what the model's count and its search find of them, and the
phase chosen. -/

namespace Sys2Proof.Machine

/-! ### Circular runs -/

/-- R39: a circular run, as `Obligations.ChosenPhaseIsRunCentre` has it: the phases `p` to `p + n - 1` counted round
pass, and the ones before and after them fail. -/
structure CircularRun (m : List Bool) (p n : Nat) : Prop where
  start_lt : p < 12
  pos : 0 < n
  lt : n < 12
  passes : ∀ i, i < n → m.getD ((p + i) % 12) false = true
  before : m.getD ((p + 11) % 12) false = false
  after : m.getD ((p + n) % 12) false = false

/-! ### What `runStart` and `runLength` find -/

theorem runStart_iff (m : List Bool) (p : Nat) :
    runStart m p = true ↔ m.getD p false = true ∧ m.getD ((p + 11) % 12) false = false := by
  simp only [runStart, Bool.and_eq_true, Bool.not_eq_true']

theorem runLength_succ_of_pass {m : List Bool} {p : Nat} (n : Nat) (h : m.getD (p % 12) false = true) :
    runLength m (n + 1) p = runLength m n (p + 1) + 1 := by
  rw [runLength, if_pos h, Nat.add_comm]

theorem runLength_succ_of_fail {m : List Bool} {p : Nat} (n : Nat) (h : m.getD (p % 12) false = false) :
    runLength m (n + 1) p = 0 := by
  rw [runLength, if_neg (Bool.eq_false_iff.mp h)]

/-- The count stops at the first failing phase: `k` phases pass and the next one fails. -/
theorem runLength_eq_of_passes {m : List Bool} {n p k : Nat} (hk : k ≤ n)
    (passes : ∀ i, i < k → m.getD ((p + i) % 12) false = true) (after : m.getD ((p + k) % 12) false = false) :
    runLength m n p = k := by
  induction n generalizing p k with
  | zero => exact (Nat.le_zero.mp hk).symm
  | succ n ih =>
    cases k with
    | zero => exact runLength_succ_of_fail n after
    | succ k =>
      have first : m.getD (p % 12) false = true := passes 0 k.succ_pos
      rw [runLength_succ_of_pass n first, ih (Nat.le_of_succ_le_succ hk)]
      · intro i hi
        rw [Nat.add_assoc, Nat.add_comm 1]
        exact passes (i + 1) (Nat.succ_lt_succ hi)
      · rwa [Nat.add_assoc, Nat.add_comm 1]

theorem CircularRun.runStart_eq_true {m : List Bool} {p n : Nat} (r : CircularRun m p n) : runStart m p = true := by
  have first := r.passes 0 r.pos
  rw [Nat.add_zero, Nat.mod_eq_of_lt r.start_lt] at first
  exact (runStart_iff m p).mpr ⟨first, r.before⟩

theorem CircularRun.runLength_eq {m : List Bool} {p n : Nat} (r : CircularRun m p n) : runLength m 12 p = n :=
  runLength_eq_of_passes (Nat.le_of_lt r.lt) r.passes r.after

/-- A start begins a run: counting on from it, some phase fails, the start's own predecessor at the latest. -/
theorem exists_circularRun_of_runStart {m : List Bool} {q : Nat} (hq : q < 12) (start : runStart m q = true) :
    ∃ k, CircularRun m q k := by
  obtain ⟨first, before⟩ := (runStart_iff m q).mp start
  have fails : ∃ k, m.getD ((q + k) % 12) false = false := ⟨11, before⟩
  refine ⟨Nat.find fails, hq, ?pos, ?lt, ?passes, before, Nat.find_spec fails⟩
  case pos =>
    rw [Nat.find_pos, Nat.add_zero, Nat.mod_eq_of_lt hq, first]
    decide
  case lt => exact Nat.lt_succ_of_le (Nat.find_min' fails before)
  case passes => exact fun i hi => eq_true_of_ne_false (Nat.find_min fails hi)

/-! ### What `longestRun` keeps -/

/-- R39: the longest run among the starts below `j`, as `longestRun` has it after `j` phases. -/
def longestRunBelow (m : List Bool) (j : Nat) : Nat × Nat :=
  (List.range j).foldl (fun best p =>
    if runStart m p ∧ best.2 < runLength m 12 p then (p, runLength m 12 p) else best) (0, 0)

theorem longestRun_eq_longestRunBelow (m : List Bool) : longestRun m = longestRunBelow m 12 := rfl

theorem longestRunBelow_succ (m : List Bool) (j : Nat) :
    longestRunBelow m (j + 1) =
      if runStart m j ∧ (longestRunBelow m j).2 < runLength m 12 j then (j, runLength m 12 j)
      else longestRunBelow m j := by
  rw [longestRunBelow, List.range_succ, List.foldl_append]
  rfl

theorem longestRunBelow_length_lt {m : List Bool} {j n : Nat} (pos : 0 < n)
    (shorter : ∀ q, q < j → runStart m q = true → runLength m 12 q < n) : (longestRunBelow m j).2 < n := by
  induction j with
  | zero => exact pos
  | succ j ih =>
    rw [longestRunBelow_succ]
    split
    case isTrue taken => exact shorter j j.lt_succ_self taken.1
    case isFalse => exact ih fun q hq => shorter q (Nat.lt_succ_of_lt hq)

/-- A start whose run is longer than every earlier one and not shorter than any later one is taken at its own phase
and never replaced. -/
theorem longestRunBelow_eq {m : List Bool} {p j : Nat} (hj : p + 1 ≤ j) (start : runStart m p = true)
    (pos : 0 < runLength m 12 p)
    (earlier : ∀ q, q < p → runStart m q = true → runLength m 12 q < runLength m 12 p)
    (later : ∀ q, p < q → q < j → runStart m q = true → runLength m 12 q ≤ runLength m 12 p) :
    longestRunBelow m j = (p, runLength m 12 p) := by
  induction j, hj using Nat.le_induction with
  | base => rw [longestRunBelow_succ, if_pos ⟨start, longestRunBelow_length_lt pos earlier⟩]
  | succ j hj ih =>
    rw [longestRunBelow_succ, ih fun q hpq hq => later q hpq (Nat.lt_succ_of_lt hq)]
    exact if_neg fun ⟨other, longer⟩ => Nat.not_lt.mpr (later j hj j.lt_succ_self other) longer

/-- R39: the run found is the longest one, of the lowest start among the longest. -/
theorem longestRun_eq_of_longest {m : List Bool} {p n : Nat} (r : CircularRun m p n)
    (longest : ∀ q k, CircularRun m q k → k < n ∨ k = n ∧ p ≤ q) : longestRun m = (p, n) := by
  have bound : ∀ q, q < 12 → runStart m q = true → runLength m 12 q < n ∨ runLength m 12 q = n ∧ p ≤ q := by
    intro q hq start
    obtain ⟨k, other⟩ := exists_circularRun_of_runStart hq start
    rw [other.runLength_eq]
    exact longest q k other
  have below := longestRunBelow_eq (j := 12) r.start_lt r.runStart_eq_true
  rw [r.runLength_eq, ← longestRun_eq_longestRunBelow] at below
  refine below r.pos ?earlier ?later
  case earlier =>
    intro q hq start
    have atMost := bound q (hq.trans r.start_lt) start
    omega
  case later =>
    intro q _ hq start
    have atMost := bound q hq start
    omega

/-- Settles O15: the run of the statement is the one `longestRun_eq_of_longest` finds. -/
theorem chosenPhaseIsRunCentre : Obligations.ChosenPhaseIsRunCentre := by
  unfold Obligations.ChosenPhaseIsRunCentre
  refine fun m _ => ⟨fun all => if_pos all, ?centre⟩
  intro someFail p n hp hn0 hn passes before after longest
  have found : longestRun m = (p, n) := longestRun_eq_of_longest ⟨hp, hn0, hn, passes, before, after⟩
    fun q k r => longest q k r.start_lt r.pos r.lt r.passes r.before r.after
  rw [chosenPhase, if_neg (Bool.eq_false_iff.mp someFail), found]

end Sys2Proof.Machine

/-! PROOFS. R182: a setup write reaches its own word, words 3 and 4 are judged by the ring indexes alone, and a write
to either leaves the rings and the line as they are. -/

namespace Sys2Proof.Machine

/-! ### The setup words' addresses -/

/-- R177: the whole setup page lies in the memory fitted. -/
theorem base_page_le_top (s : State) : s.base + 65536 ≤ s.top := by
  rw [State.base, State.top, setupBaseOf]
  have pages : memTopOf s.path.straps = memTopOf s.path.straps / 65536 * 65536 := by
    rw [memTopOf]
    omega
  have hpos : 0 < memTopOf s.path.straps / 65536 := by
    have := Nat.one_le_two_pow (n := min s.path.straps.memSize.toNat 4)
    rw [memTopOf]
    omega
  have page := Nat.mod_lt s.path.straps.setupPage.toNat hpos
  omega

theorem top_le (s : State) : s.top ≤ 16777216 := by
  have := Nat.pow_le_pow_right (n := 2) (by decide) (Nat.min_le_right s.path.straps.memSize.toNat 4)
  rw [State.top, memTopOf]
  omega

theorem setupAddr_toNat {n : Nat} (hn : n < 40) (s : State) : (setupAddr n s).toNat = s.base + 4 * n := by
  have page := base_page_le_top s
  have top := top_le s
  rw [setupAddr, word, BitVec.toNat_ofNat]
  omega

/-- R178: the address of a setup word is of its word's class. -/
theorem classify_setupAddr {n : Nat} (hn : n < 40) (s : State) : classify (setupAddr n s) s = .setup n := by
  have inBlock : s.base ≤ s.base + 4 * n ∧ s.base + 4 * n < s.base + 160 := by omega
  have index : (s.base + 4 * n - s.base) / 4 = n := by omega
  rw [classify, setupAddr_toNat hn]
  simp only [if_pos inBlock, index]

/-- R176, R178: a write to a setup word is that word's write at its grant. -/
theorem setupWrites_eq {n : Nat} (hn : n < 40) (lanes : Lanes) (data : Word) (s : State) :
    setupWrites n lanes data s = setupWriteAt n lanes data (granted .controller s) := by
  have sameAddr : setupAddr n s = setupAddr n (granted .controller s) := by
    rw [setupAddr, setupAddr, (granted_granted .controller s).base]
  rw [setupWrites, controllerWrites, portWrite, sameAddr, classify_setupAddr hn]

/-! ### The judgment of words 3 and 4 -/

/-- R182: neither the line state nor the ranges judge an index, only the ring indexes. -/
theorem judgeSetup_index {n : Nat} (hn : n = 3 ∨ n = 4) (m : Word) (s : State) :
    judgeSetup n m s = if indexRefused n m s then .error .index else .ok m := by
  obtain rfl | rfl := hn <;> rfl

/-- R212: the index written is the low half of the merged word. -/
theorem mergedSetup_index {n : Nat} (hn : n = 3 ∨ n = 4) (lanes : Lanes) (data : Word) (s : State) :
    (mergedSetup n lanes data s).setWidth 16 = (mergeLanes lanes (s.setup n) data).setWidth 16 := by
  have fields : setupFields n = 0x0000FFFF := by obtain rfl | rfl := hn <;> rfl
  rw [mergedSetup, fields, BitVec.setWidth_and]
  exact BitVec.and_allOnes

theorem publishRefused_iff (v : Index) (s : State) :
    publishRefused v s = true ↔ s.setupN 36 < (v - s.tix.retireIndex).toNat
      ∨ (v - s.tix.retireIndex).toNat < (s.tix.fetchIndex - s.tix.retireIndex).toNat := by
  rw [publishRefused, Bool.or_eq_true, decide_eq_true_iff, decide_eq_true_iff]

theorem readRefused_iff (v : Index) (s : State) :
    readRefused v s = true ↔ (s.rep.writeIndex - s.readIndex).toNat < (s.rep.writeIndex - v).toNat := by
  rw [readRefused, Bool.not_eq_true', decide_eq_false_iff_not, Nat.not_le]

theorem indexRefused_publish (m : Word) (s : State) : indexRefused 3 m s = publishRefused (m.setWidth 16) s :=
  Bool.or_false _

theorem indexRefused_read (m : Word) (s : State) : indexRefused 4 m s = readRefused (m.setWidth 16) s := rfl

/-- The grants before a write change nothing that it is merged with. -/
theorem Granted.mergedSetup_eq {s t : State} (h : Granted s t) (n : Nat) (lanes : Lanes) (data : Word) :
    mergedSetup n lanes data t = mergedSetup n lanes data s := by
  rw [mergedSetup, mergedSetup, h.setup]

/-- Nor anything that judges an index. -/
theorem Granted.indexRefused_eq {s t : State} (h : Granted s t) (n : Nat) (m : Word) :
    indexRefused n m t = indexRefused n m s := by
  have publish (v : Index) : publishRefused v t = publishRefused v s := by
    rw [Bool.eq_iff_iff, publishRefused_iff, publishRefused_iff, h.setupN, h.fetchIndex, h.retireIndex]
  have read (v : Index) : readRefused v t = readRefused v s := by
    rw [Bool.eq_iff_iff, readRefused_iff, readRefused_iff, State.readIndex, State.readIndex, h.setup, h.writeIndex]
  rw [indexRefused, indexRefused, publish, read]

/-! ### The frame of an index write -/

/-- What a write to setup word `n`, 3 or 4, leaves alone: the other working values, the ring indexes, the tickets and
the line. -/
structure IndexFrame (n : Nat) (s t : State) : Prop where
  setup : ∀ k, k ≠ n → t.setup k = s.setup k
  fetchIndex : t.tix.fetchIndex = s.tix.fetchIndex
  retireIndex : t.tix.retireIndex = s.tix.retireIndex
  table : t.tix.table = s.tix.table
  writeIndex : t.rep.writeIndex = s.rep.writeIndex
  writeSlot : t.rep.writeSlot = s.rep.writeSlot
  line : sameLine s t
  pending : t.pending = s.pending

theorem sameLine_refl (s : State) : sameLine s s := (Granted.refl s).line

theorem sameLine_trans {s t u : State} (h : sameLine s t) (k : sameLine t u) : sameLine s u := by
  obtain ⟨p1, p2, p3, ⟨p4, p5, p6, p7, p8⟩, p9, p10⟩ := h
  obtain ⟨q1, q2, q3, ⟨q4, q5, q6, q7, q8⟩, q9, q10⟩ := k
  exact ⟨q1.trans p1, q2.trans p2, q3.trans p3, ⟨q4.trans p4, q5.trans p5, q6.trans p6, q7.trans p7, q8.trans p8⟩,
    q9.trans p9, q10.trans p10⟩

theorem IndexFrame.trans {n : Nat} {s t u : State} (h : IndexFrame n s t) (k : IndexFrame n t u) :
    IndexFrame n s u where
  setup i hi := (k.setup i hi).trans (h.setup i hi)
  fetchIndex := k.fetchIndex.trans h.fetchIndex
  retireIndex := k.retireIndex.trans h.retireIndex
  table := k.table.trans h.table
  writeIndex := k.writeIndex.trans h.writeIndex
  writeSlot := k.writeSlot.trans h.writeSlot
  line := sameLine_trans h.line k.line
  pending := k.pending.trans h.pending

theorem Granted.indexFrame {s t : State} (h : Granted s t) (n : Nat) : IndexFrame n s t :=
  ⟨fun k _ => h.setup k, h.fetchIndex, h.retireIndex, h.table, h.writeIndex, h.writeSlot, h.line, h.pending⟩

/-- R181: a refused write is reported, and touches nothing besides. -/
theorem refuseSetup_indexFrame (n : Nat) (m : Word) (reason : SetupRefusal) (s : State) :
    IndexFrame n s (refuseSetup n m reason s) := by
  obtain ⟨r, e, writeIndex, writeSlot, -⟩ := offer_cases (.setupRefused n m reason) { s with port := .busError }
  rw [refuseSetup, e]
  exact ⟨fun _ _ => rfl, rfl, rfl, rfl, writeIndex, writeSlot, sameLine_refl s, rfl⟩

theorem refuseSetup_setup (n : Nat) (m : Word) (reason : SetupRefusal) (s : State) (k : Nat) :
    (refuseSetup n m reason s).setup k = s.setup k :=
  setup_congr (by rw [refuseSetup, offer_path]) k

theorem refuseSetup_port (n : Nat) (m : Word) (reason : SetupRefusal) (s : State) :
    (refuseSetup n m reason s).port = .busError := offer_port _ _

theorem storeSetup_setup_same {n : Nat} {s : State} (h : n < s.path.shadow.length) (v : Word) :
    (storeSetup n v s).setup n = v := by
  change (s.path.shadow.set n v).getD n 0 = v
  rw [List.getD_eq_getElem?_getD, List.getElem?_set_self h, Option.getD_some]

theorem storeSetup_setup_other {n k : Nat} (hk : k ≠ n) (v : Word) (s : State) :
    (storeSetup n v s).setup k = s.setup k := by
  change (s.path.shadow.set n v).getD k 0 = s.path.shadow.getD k 0
  rw [List.getD_eq_getElem?_getD, List.getElem?_set_ne hk.symm, List.getD_eq_getElem?_getD]

theorem storeSetup_indexFrame (n : Nat) (v : Word) (s : State) : IndexFrame n s (storeSetup n v s) :=
  ⟨fun _ hk => storeSetup_setup_other hk v s, rfl, rfl, rfl, rfl, rfl, sameLine_refl s, rfl⟩

/-- R91: all that the test of TICKETS_LOW can do is note the condition and latch its cause. -/
theorem ticketsLowTest_cases (s : State) :
    ∃ t, t = { s with tix := { s.tix with low := ticketsLowNow s } } ∧
      (ticketsLowTest s = t ∨ ticketsLowTest s = latch .ticketsLow t) := by
  refine ⟨_, rfl, ?_⟩
  rw [ticketsLowTest]
  split
  · exact .inr rfl
  · exact .inl rfl

theorem ticketsLowTest_indexFrame (n : Nat) (s : State) : IndexFrame n s (ticketsLowTest s) := by
  obtain ⟨t, rfl, e | e⟩ := ticketsLowTest_cases s
  all_goals
    rw [e]
    exact ⟨fun _ _ => rfl, rfl, rfl, rfl, rfl, rfl, sameLine_refl s, rfl⟩

theorem ticketsLowTest_port (s : State) : (ticketsLowTest s).port = s.port :=
  congrArg Fixed.port (ticketsLowTest_keeps s).fixed

/-- R183: a publish index goes on to the test of TICKETS_LOW, a read index to no block. -/
theorem handSetup_index {n : Nat} (hn : n = 3 ∨ n = 4) (v : Word) (s : State) :
    handSetup n v s = ticketsLowTest s ∨ handSetup n v s = s := by
  obtain rfl | rfl := hn
  · exact .inl rfl
  · exact .inr rfl

/-- R180: an accepted index becomes the working value and is answered. -/
theorem acceptSetup_index {n : Nat} (hn : n = 3 ∨ n = 4) {s : State} (h : n < s.path.shadow.length) (v : Word) :
    (acceptSetup n v s).port = .done ∧ (acceptSetup n v s).setup n = v ∧ IndexFrame n s (acceptSetup n v s) := by
  have stored : (storeSetup n v s).setup n = v := storeSetup_setup_same h v
  have frame : IndexFrame n s (storeSetup n v s) := storeSetup_indexFrame n v s
  rw [acceptSetup]
  obtain e | e := handSetup_index hn v (storeSetup n v s) <;> rw [e]
  · exact ⟨ticketsLowTest_port _, (setup_congr (ticketsLowTest_keeps _).shadow n).trans stored,
      frame.trans (ticketsLowTest_indexFrame n _)⟩
  · exact ⟨rfl, stored, frame⟩

/-! ### A write to word 3 or 4, from its presentation on -/

/-- R180 to R182: what the judgment of an index answers decides the write, and either way its frame holds. -/
theorem setupWrites_index {n : Nat} (hn : n = 3 ∨ n = 4) (lanes : Lanes) (data : Word) {s : State} (h : ShadowOk s) :
    IndexFrame n s (setupWrites n lanes data s) ∧
    (indexRefused n (mergedSetup n lanes data s) s = false →
      (setupWrites n lanes data s).port = .done ∧
      (setupWrites n lanes data s).setup n = mergedSetup n lanes data s) ∧
    (indexRefused n (mergedSetup n lanes data s) s = true →
      (setupWrites n lanes data s).port = .busError ∧ (setupWrites n lanes data s).setup n = s.setup n ∧
      judgeSetup n (mergedSetup n lanes data s) s = .error .index) := by
  have hn40 : n < 40 := by omega
  have g := granted_granted .controller s
  have hlen : n < (granted .controller s).path.shadow.length := by
    rw [g.shadow, h.1]
    exact hn40
  rw [setupWrites_eq hn40, setupWriteAt, judgeSetup_index hn, judgeSetup_index hn, g.mergedSetup_eq, g.indexRefused_eq]
  cases indexRefused n (mergedSetup n lanes data s) s with
  | false =>
    obtain ⟨port, value, frame⟩ := acceptSetup_index hn hlen (mergedSetup n lanes data s)
    exact ⟨(g.indexFrame n).trans frame, fun _ => ⟨port, value⟩, nofun⟩
  | true =>
    exact ⟨(g.indexFrame n).trans (refuseSetup_indexFrame n _ _ _), nofun,
      fun _ => ⟨refuseSetup_port _ _ _ _, (refuseSetup_setup _ _ _ _ n).trans (g.setup n), rfl⟩⟩

/-- Settles O43: `setupWrites_index` for word 3 and for word 4, with the bounds `publishRefused` and `readRefused`
stand for. -/
theorem ringIndexWritesAreJudged : Obligations.RingIndexWritesAreJudged := by
  unfold Obligations.RingIndexWritesAreJudged
  constructor
  case left =>
    rintro s lanes data v h rfl
    obtain ⟨frame, accepted, refused⟩ := setupWrites_index (.inl rfl) lanes data h
    have index := mergedSetup_index (.inl rfl) lanes data s
    rw [indexRefused_publish, index] at accepted refused
    refine ⟨_, rfl, fun atMost atLeast => ?_, fun outside => ?_, frame.setup, frame.fetchIndex, frame.retireIndex,
      frame.table, frame.line, frame.pending⟩
    · have passes := (publishRefused_iff _ s).not.mpr (not_or.mpr ⟨Nat.not_lt.mpr atMost, Nat.not_lt.mpr atLeast⟩)
      obtain ⟨port, value⟩ := accepted (Bool.eq_false_iff.mpr passes)
      exact ⟨port, (congrArg (BitVec.setWidth 16) value).trans index⟩
    · obtain ⟨port, value, judged⟩ := refused ((publishRefused_iff _ s).mpr outside)
      exact ⟨port, congrArg (BitVec.setWidth 16) value, judged⟩
  case right =>
    rintro s lanes data v h rfl
    obtain ⟨frame, accepted, refused⟩ := setupWrites_index (.inr rfl) lanes data h
    have index := mergedSetup_index (.inr rfl) lanes data s
    rw [indexRefused_read, index] at accepted refused
    refine ⟨_, rfl, fun noFarther => ?_, fun farther => ?_, frame.setup, frame.writeIndex, frame.writeSlot,
      frame.table, frame.line, frame.pending⟩
    · have passes := (readRefused_iff _ s).not.mpr (Nat.not_lt.mpr noFarther)
      obtain ⟨port, value⟩ := accepted (Bool.eq_false_iff.mpr passes)
      exact ⟨port, (congrArg (BitVec.setWidth 16) value).trans index⟩
    · obtain ⟨port, value, judged⟩ := refused ((readRefused_iff _ s).mpr farther)
      exact ⟨port, congrArg (BitVec.setWidth 16) value, judged⟩

end Sys2Proof.Machine

/-! PROOFS. R42, R94, R104, R121, R138, R149: what every operation of the line does to the pockets, the hold planner and
the length of the sheet queue. -/

namespace Sys2Proof.Machine

/-! ### The relation -/

/-- What the hold planner and the transport aim at: the fields PlannerOk speaks of. -/
def State.aims (s : State) :
    Option Word × Option Word × HaltKind × HaltSheet × Option Word × Option Word × Bool × Option Word × Option Word :=
  (s.pln.gateSheet, s.pln.gateTarget, s.pln.haltKind, s.pln.haltSheet, s.pln.haltTarget, s.pln.stop, s.pln.parked,
    s.tr.targetW, s.tr.targetC)

theorem plannerOk_iff (s : State) :
    PlannerOk s ↔ (s.seq.line.running = false →
      s.aims = (none, none, .none, .none, none, none, false, none, none)) := by
  simp only [PlannerOk, State.aims, Prod.mk.injEq]

/-- The part of a state that PlannerOk, PocketOk and SheetsOk speak of. -/
def State.works (s : State) :=
  (s.seq.line, s.aims, s.trk.queue.length, s.acc, s.rel)

/-- The pockets and the planner stay consistent, no record is created, and the line stays, goes on running or enters
FAULT. -/
structure Steady (s t : State) : Prop where
  pockets : PocketOk s → PocketOk t
  planner : PlannerOk s → PlannerOk t
  sheets : t.trk.queue.length ≤ s.trk.queue.length
  line : t.seq.line = s.seq.line ∨ t.seq.line = .fault ∨ s.seq.line.running = true ∧ t.seq.line.running = true

theorem pocketOk_congr {s t : State} (ha : t.acc = s.acc) (hr : t.rel = s.rel) (h : PocketOk s) : PocketOk t := by
  unfold PocketOk BuildOk HoldOk FolderOk foldReleasing at h ⊢
  rwa [ha, hr]

theorem Steady.same {s t : State} (h : t.works = s.works) : Steady s t := by
  simp only [State.works, Prod.mk.injEq] at h
  obtain ⟨line, aims, queue, acc, rel⟩ := h
  refine ⟨pocketOk_congr acc rel, fun p => ?_, queue.le, .inl line⟩
  rw [plannerOk_iff] at p ⊢
  rwa [line, aims]

theorem Steady.refl (s : State) : Steady s s := .same rfl

theorem Steady.trans {s t u : State} (h : Steady s t) (k : Steady t u) : Steady s u := by
  refine ⟨k.pockets ∘ h.pockets, k.planner ∘ h.planner, k.sheets.trans h.sheets, ?_⟩
  obtain e | e | ⟨e, e'⟩ := k.line
  · rw [e]; exact h.line
  · exact .inr (.inl e)
  · obtain d | d | ⟨d, -⟩ := h.line
    · exact .inr (.inr ⟨d ▸ e, e'⟩)
    · rw [d] at e; cases e
    · exact .inr (.inr ⟨d, e'⟩)

/-- The same, the later operation first. -/
theorem Steady.after {s t u : State} (k : Steady t u) (h : Steady s t) : Steady s u := h.trans k

theorem hand_steady {s t : State} (ws : List Nat) (a : State) (h : Steady s t) : Steady s (hand ws a t) :=
  h.trans (.same rfl)

theorem offer_steady (e : Event) (s : State) : Steady s (offer e s) := by
  obtain ⟨r, h, -⟩ := offer_cases e s
  rw [h]
  exact .same rfl

theorem latch_steady (c : Cause) (s : State) : Steady s (latch c s) := .same rfl

/-! ### What the pockets leave alone -/

/-- All of a state but the pockets, the tickets and the reports. -/
structure OffPockets where
  pins : Pins
  enc : Encoder
  rd : Reader
  trk : Tracking
  col : Collator
  pln : Planner
  tr : Transport
  seq : Sequencer
  path : MemoryPath
  port : PortAnswer
  mem : Memory
  pending : List Instr

/-- The part of a state that the pockets' operations leave alone. -/
def State.offPockets (s : State) : OffPockets :=
  { pins := s.pins, enc := s.enc, rd := s.rd, trk := s.trk, col := s.col, pln := s.pln, tr := s.tr, seq := s.seq
    path := s.path, port := s.port, mem := s.mem, pending := s.pending }

@[simp] theorem offer_offPockets (e : Event) (s : State) : (offer e s).offPockets = s.offPockets := by
  obtain ⟨r, h, -⟩ := offer_cases e s
  rw [h]
  rfl

/-- A step of the pockets alone. -/
theorem Steady.ofPockets {s t : State} (h : t.offPockets = s.offPockets) (pockets : PocketOk s → PocketOk t) :
    Steady s t := by
  have hl : t.seq = s.seq := congrArg OffPockets.seq h
  have hp : t.pln = s.pln := congrArg OffPockets.pln h
  have ht : t.tr = s.tr := congrArg OffPockets.tr h
  have hq : t.trk = s.trk := congrArg OffPockets.trk h
  refine ⟨pockets, fun p => ?_, by rw [hq], .inl (by rw [hl])⟩
  rw [plannerOk_iff, State.aims] at p ⊢
  rwa [hl, hp, ht]

/-! ### The pockets -/

/-- R141 to R143: what the test of the release conditions can do. -/
theorem releaseTest_cases (s : State) :
    releaseTest s = s ∧ releaseReady s = false ∨
    s.rel.hold = .holding ∧ s.seq.line.running = true ∧ ∃ r, s.rel.set = some r ∧
      (r.verdict = .divert ∧ s.pins.rejectFull = false ∧ releaseTest s = startDivert s ∨
        r.verdict = .good ∧ s.pins.foldReady = true ∧ s.rel.folding = false ∧ s.rel.exitList.length < 2 ∧
          releaseTest s = startFold r s) := by
  cases ready : releaseReady s with
  | false => exact .inl ⟨by rw [releaseTest, ready]; rfl, rfl⟩
  | true =>
    refine .inr ?_
    have conds := ready
    simp only [releaseReady, Bool.and_eq_true, decide_eq_true_eq] at conds
    obtain ⟨⟨hold, running⟩, conds⟩ := conds
    refine ⟨hold, running, ?_⟩
    cases set : s.rel.set with
    | none => rw [set] at conds; cases conds
    | some r =>
      refine ⟨r, rfl, ?_⟩
      rw [set] at conds
      rw [releaseTest, if_pos ready, set]
      cases verdict : r.verdict with
      | divert => simpa [verdict] using conds
      | good => simpa [verdict, Config.exitCapacity, and_assoc] using conds


theorem startDivert_pocketOk {s : State} (hold : s.rel.hold = .holding) (h : PocketOk s) : PocketOk (startDivert s) := by
  unfold PocketOk BuildOk HoldOk FolderOk foldReleasing at h ⊢
  grind [startDivert, Config.exitCapacity, Timer.start, hand_acc, hand_rel]

theorem startFold_pocketOk {s : State} (r : SetRecord) (hold : s.rel.hold = .holding) (idle : s.rel.folding = false)
    (room : s.rel.exitList.length < 2) (h : PocketOk s) : PocketOk (startFold r s) := by
  unfold PocketOk BuildOk HoldOk FolderOk foldReleasing at h ⊢
  grind [startFold, Config.exitCapacity, Timer.start, hand_acc, hand_rel]

theorem releaseTest_steady (s : State) : Steady s (releaseTest s) := by
  obtain ⟨e, -⟩ | ⟨hold, -, r, -, ⟨-, -, e⟩ | ⟨-, -, idle, room, e⟩⟩ := releaseTest_cases s <;> rw [e]
  · exact .refl s
  · exact .ofPockets rfl (startDivert_pocketOk hold)
  · exact .ofPockets rfl (startFold_pocketOk r hold idle room)

@[simp] theorem releaseTest_offPockets (s : State) : (releaseTest s).offPockets = s.offPockets := by
  obtain ⟨e, -⟩ | ⟨-, -, r, -, ⟨-, -, e⟩ | ⟨-, -, -, -, e⟩⟩ := releaseTest_cases s <;> rw [e] <;> rfl

@[simp] theorem releaseTest_seq (s : State) : (releaseTest s).seq = s.seq :=
  congrArg OffPockets.seq (releaseTest_offPockets s)

@[simp] theorem holdReasonFor_offPockets (ring : Index) (reason : Reason) (s : State) :
    (holdReasonFor ring reason s).offPockets = s.offPockets := by
  rw [holdReasonFor]
  split
  · exact releaseTest_offPockets _
  · rfl

theorem holdReasonFor_steady (ring : Index) (reason : Reason) (s : State) :
    Steady s (holdReasonFor ring reason s) := by
  rw [holdReasonFor]
  split
  · refine (releaseTest_steady _).after (.ofPockets rfl fun h => ?_)
    unfold PocketOk BuildOk HoldOk FolderOk foldReleasing at h ⊢
    grind [hand_acc, hand_rel, Option.map_eq_none_iff]
  · exact .refl s

theorem holdReasonFor_of_not_holding {s : State} (h : s.rel.hold ≠ .holding) (ring : Index) (reason : Reason) :
    holdReasonFor ring reason s = s := if_neg h

theorem startDrop_pocketOk {s : State} (hold : s.rel.hold = .empty) (full : s.acc.state ≠ .empty)
    (noJog : s.acc.jog = false ∧ s.acc.jogTimer.running = false) (h : PocketOk s) : PocketOk (startDrop s) := by
  unfold PocketOk BuildOk HoldOk FolderOk foldReleasing at h ⊢
  grind [startDrop, Timer.start, hand_acc, hand_rel]

theorem placeSet_steady {s : State} (jogging : s.acc.state = .jogging)
    (noJog : s.acc.jog = false ∧ s.acc.jogTimer.running = false) : Steady s (placeSet s) := by
  rw [placeSet]
  split
  · next hold => exact .ofPockets rfl (startDrop_pocketOk hold (by rw [jogging]; nofun) noJog)
  · refine .ofPockets rfl fun h => ?_
    unfold PocketOk BuildOk HoldOk FolderOk foldReleasing at h ⊢
    grind [hand_acc, hand_rel]

/-- R131: the height check adds HEIGHT to the set's reasons at most. -/
theorem heightCheck_cases (s : State) :
    heightCheck s = s ∨ ∃ r, s.acc.set = some r ∧ heightFails r s = true ∧
      heightCheck s = { s with acc := { s.acc with set := some (r.add .height) } } := by
  rw [heightCheck]
  split
  · exact .inl rfl
  · next r set =>
    split
    · next fails => exact .inr ⟨r, set, fails, rfl⟩
    · exact .inl rfl

@[simp] theorem placeSet_offPockets (s : State) : (placeSet s).offPockets = s.offPockets := by
  rw [placeSet]
  split <;> rfl

@[simp] theorem heightCheck_offPockets (s : State) : (heightCheck s).offPockets = s.offPockets := by
  obtain e | ⟨r, -, -, e⟩ := heightCheck_cases s <;> rw [e]
  rfl

@[simp] theorem endJog_offPockets (s : State) : (endJog s).offPockets = s.offPockets := by
  rw [endJog, placeSet_offPockets, heightCheck_offPockets]
  rfl

theorem endJog_steady {s : State} (jogging : PocketOk s → s.acc.state = .jogging) : Steady s (endJog s) := by
  refine .ofPockets (endJog_offPockets s) fun ok => ?_
  have stopped : PocketOk { s with acc := { s.acc with jog := false, jogTimer := Timer.stopped } } := by
    unfold PocketOk BuildOk HoldOk FolderOk foldReleasing at ok ⊢
    grind [Timer.stopped]
  rw [endJog]
  obtain e | ⟨r, set, -, e⟩ := heightCheck_cases { s with acc := { s.acc with jog := false, jogTimer := Timer.stopped } }
    <;> rw [e]
  · refine Steady.pockets (placeSet_steady ?_ ⟨rfl, rfl⟩) stopped
    exact jogging ok
  · refine Steady.pockets (placeSet_steady ?_ ⟨rfl, rfl⟩) ?_
    · exact jogging ok
    unfold PocketOk BuildOk HoldOk FolderOk foldReleasing at stopped ⊢
    grind

@[simp] theorem closeSet_offPockets (s : State) : (closeSet s).offPockets = s.offPockets := by
  rw [closeSet]
  dsimp only
  split
  · exact endJog_offPockets _
  · rfl

theorem closeSet_steady {s : State} (collecting : s.acc.state = .collecting) : Steady s (closeSet s) := by
  rw [closeSet]
  dsimp only
  split
  · refine Steady.after (endJog_steady fun _ => rfl) (.ofPockets rfl fun h => ?_)
    unfold PocketOk BuildOk HoldOk FolderOk foldReleasing at h ⊢
    grind [hand_acc, hand_rel]
  · refine .ofPockets rfl fun h => ?_
    unfold PocketOk BuildOk HoldOk FolderOk foldReleasing at h ⊢
    grind [hand_acc, hand_rel, Timer.start]

theorem closeRequest_steady (n : Index) (s : State) : Steady s (closeRequest n s) := by
  rw [closeRequest]
  split
  · next h => exact closeSet_steady h.1
  · exact .refl s

theorem landSheet_steady (r : Sheet) (s : State) : Steady s (landSheet r s) := by
  rw [landSheet]
  split
  · exact .refl s
  · next a _ =>
    split
    · next set =>
      have begun : Steady s (hand [6] s { s with acc := { s.acc with
          state := .collecting, set := some ((newRecord a s).land r s) } }) :=
        .ofPockets rfl fun h => by
          unfold PocketOk BuildOk HoldOk FolderOk foldReleasing at h ⊢
          grind [hand_acc, hand_rel]
      dsimp only
      split
      · exact begun.trans (closeSet_steady rfl)
      · exact begun
    · next x set =>
      have landed : Steady s { s with acc := { s.acc with set := some (x.land r s) } } :=
        .ofPockets rfl fun h => by
          unfold PocketOk BuildOk HoldOk FolderOk foldReleasing at h ⊢
          grind
      dsimp only
      split
      · next h => exact landed.trans (closeSet_steady h.2)
      · exact landed

@[simp] theorem endDrop_offPockets (s : State) : (endDrop s).offPockets = s.offPockets := by
  rw [endDrop]
  dsimp only
  split
  · rfl
  · exact releaseTest_offPockets _

/-- R133: a set that drops reaches an EMPTY hold pocket. -/
theorem endDrop_steady {s : State} (dropping : PocketOk s → s.acc.state = .dropping) : Steady s (endDrop s) := by
  refine .ofPockets (endDrop_offPockets s) fun ok => ?_
  have dropping := dropping ok
  rw [endDrop]
  dsimp only
  split
  · unfold PocketOk BuildOk HoldOk FolderOk foldReleasing at ok ⊢
    grind [hand_acc, hand_rel, Timer.stopped]
  · refine (releaseTest_steady _).pockets ?_
    unfold PocketOk BuildOk HoldOk FolderOk foldReleasing at ok ⊢
    grind [hand_acc, hand_rel, Timer.stopped]

theorem holdEmptied_steady {s : State} (hold : s.rel.hold = .empty) : Steady s (holdEmptied s) := by
  rw [holdEmptied]
  split
  · next wait =>
    refine .ofPockets rfl fun h => startDrop_pocketOk hold (by rw [wait]; nofun) ?_ h
    unfold PocketOk BuildOk at h
    grind
  · exact .refl s

theorem emptyHold_steady (s : State) : Steady s (emptyHold s) := .ofPockets rfl fun h => by
  unfold PocketOk BuildOk HoldOk FolderOk foldReleasing at h ⊢
  grind [emptyHold, hand_acc, hand_rel, Timer.stopped]

theorem enterFolder_steady {s : State} (r : SetRecord) (hold : PocketOk s → s.rel.hold = .releasing)
    (good : s.rel.verdict = .good) : Steady s (enterFolder r (emptyHold s)) := .ofPockets rfl fun h => by
  have hold := hold h
  unfold PocketOk BuildOk HoldOk FolderOk foldReleasing at h ⊢
  grind [enterFolder, emptyHold, hand_acc, hand_rel, Timer.stopped, Timer.start]

theorem completeFold_steady {s : State} (p : Piece) (folding : s.rel.folding = true) : Steady s (completeFold p s) := by
  refine (releaseTest_steady _).after (.ofPockets rfl fun h => ?_)
  unfold PocketOk BuildOk HoldOk FolderOk foldReleasing at h ⊢
  grind [hand_acc, hand_rel, Timer.stopped]

theorem buildReasonFor_steady (ring : Index) (reason : Reason) (s : State) : Steady s (buildReasonFor ring reason s) :=
  .ofPockets rfl fun h => by
    unfold PocketOk BuildOk HoldOk FolderOk foldReleasing at h ⊢
    grind [buildReasonFor, Option.map_eq_none_iff]

/-! ### Reasons and outcomes -/

@[simp] theorem addTicketReason_offPockets (ring : Index) (reason : Reason) (s : State) :
    (addTicketReason ring reason s).offPockets = s.offPockets := holdReasonFor_offPockets _ _ _

theorem addTicketReason_steady (ring : Index) (reason : Reason) (s : State) :
    Steady s (addTicketReason ring reason s) :=
  (holdReasonFor_steady _ _ _).after ((buildReasonFor_steady _ _ _).after (.same rfl))

/-- R140: a hold pocket that holds no set yet to be judged takes no reason. -/
theorem addTicketReason_rel {s : State} (h : s.rel.hold ≠ .holding) (ring : Index) (reason : Reason) :
    (addTicketReason ring reason s).rel = s.rel := by
  rw [addTicketReason, holdReasonFor_of_not_holding]
  · rfl
  · exact h

theorem foldl_steady {α : Type} (f : State → α → State) (h : ∀ s x, Steady s (f s x)) (l : List α) (s : State) :
    Steady s (l.foldl f s) := by
  induction l generalizing s with
  | nil => exact .refl s
  | cons x l ih => exact (h s x).trans (ih _)

theorem foldl_offPockets {α : Type} (f : State → α → State) (h : ∀ s x, (f s x).offPockets = s.offPockets) (l : List α)
    (s : State) : (l.foldl f s).offPockets = s.offPockets := by
  induction l generalizing s with
  | nil => rfl
  | cons x l ih => exact (ih _).trans (h s x)

@[simp] theorem addReasons_offPockets (ring : Index) (reasons : BitVec 12) (s : State) :
    (addReasons ring reasons s).offPockets = s.offPockets := by
  refine foldl_offPockets _ (fun s r => ?_) _ _
  split
  · rfl
  · exact addTicketReason_offPockets _ _ _

theorem addReasons_steady (ring : Index) (reasons : BitVec 12) (s : State) : Steady s (addReasons ring reasons s) := by
  refine foldl_steady _ (fun s r => ?_) _ _
  split
  · exact .refl s
  · exact addTicketReason_steady _ _ _

theorem addReasons_rel {s : State} (h : s.rel.hold ≠ .holding) (ring : Index) (reasons : BitVec 12) :
    (addReasons ring reasons s).rel = s.rel := by
  rw [addReasons]
  induction allReasons generalizing s with
  | nil => rfl
  | cons r l ih =>
    rw [List.foldl_cons]
    split
    · exact ih h
    · have kept := addTicketReason_rel h ring r
      rw [ih (by rwa [kept]), kept]

theorem makeDisposition_steady (o : PieceOutcome) (t : Ticket) (s : State) : Steady s (makeDisposition o t s) := .same rfl

/-- R90: a disposition is a matter of the ticket unit alone. -/
theorem disposeIfFinal_cases (ring : Index) (s : State) :
    disposeIfFinal ring s = s ∨ ∃ o t, disposeIfFinal ring s = makeDisposition o t s := by
  rw [disposeIfFinal]
  split
  · exact .inl rfl
  · split
    · exact .inr ⟨_, _, rfl⟩
    · exact .inl rfl

@[simp] theorem disposeIfFinal_offPockets (ring : Index) (s : State) :
    (disposeIfFinal ring s).offPockets = s.offPockets := by
  obtain e | ⟨o, t, e⟩ := disposeIfFinal_cases ring s <;> rw [e]
  rfl

@[simp] theorem disposeIfFinal_rel (ring : Index) (s : State) : (disposeIfFinal ring s).rel = s.rel := by
  obtain e | ⟨o, t, e⟩ := disposeIfFinal_cases ring s <;> rw [e]
  rfl

theorem disposeIfFinal_steady (ring : Index) (s : State) : Steady s (disposeIfFinal ring s) := by
  obtain e | ⟨o, t, e⟩ := disposeIfFinal_cases ring s <;> rw [e]
  · exact .refl s
  · exact .same rfl

/-- R89: an outcome that changes no ticket leaves the state; any other adds the reasons, marks the ticket and disposes of
it where it was the last. -/
theorem reportOutcome_cases (owner : Owner) (reasons : BitVec 12) (diverted : Bool) (s : State) :
    reportOutcome owner reasons diverted s = s ∧ changesNoTicket s owner ∨
    ∃ ring k, owner = .ticket ring ∧ findTicket ring s.tix.table = some k ∧ (k.state = .collating ∨ k.state = .closed) ∧
      reportOutcome owner reasons diverted s = disposeIfFinal ring ((addReasons ring reasons s).editTicket ring fun x =>
        { x with diverted := x.diverted || diverted, setsFinal := x.setsFinal + 1 }) := by
  cases owner with
  | purge => exact .inl ⟨rfl, .inl rfl⟩
  | ticket ring =>
    cases found : findTicket ring s.tix.table with
    | none =>
      refine .inl ⟨?_, .inr ⟨ring, rfl, fun k hk => ?_⟩⟩
      · rw [reportOutcome, found]
      · rw [found] at hk
        cases hk
    | some k =>
      by_cases live : k.state = .collating ∨ k.state = .closed
      · exact .inr ⟨ring, k, rfl, found, live, by simp only [reportOutcome, found, if_pos live]⟩
      · refine .inl ⟨by simp only [reportOutcome, found, if_neg live], .inr ⟨ring, rfl, fun x hx => ?_⟩⟩
        obtain rfl := Option.some.inj (found.symm.trans hx)
        exact not_or.mp live

@[simp] theorem reportOutcome_offPockets (owner : Owner) (reasons : BitVec 12) (diverted : Bool) (s : State) :
    (reportOutcome owner reasons diverted s).offPockets = s.offPockets := by
  obtain ⟨e, -⟩ | ⟨ring, k, -, -, -, e⟩ := reportOutcome_cases owner reasons diverted s <;> rw [e]
  rw [disposeIfFinal_offPockets]
  exact addReasons_offPockets _ _ _

theorem reportOutcome_steady (owner : Owner) (reasons : BitVec 12) (diverted : Bool) (s : State) :
    Steady s (reportOutcome owner reasons diverted s) := by
  obtain ⟨e, -⟩ | ⟨ring, k, -, -, -, e⟩ := reportOutcome_cases owner reasons diverted s <;> rw [e]
  · exact .refl s
  · exact (disposeIfFinal_steady _ _).after ((addReasons_steady _ _ _).trans (.same rfl))

theorem reportOutcome_rel {s : State} (h : s.rel.hold ≠ .holding) (owner : Owner) (reasons : BitVec 12)
    (diverted : Bool) : (reportOutcome owner reasons diverted s).rel = s.rel := by
  obtain ⟨e, -⟩ | ⟨ring, k, -, -, -, e⟩ := reportOutcome_cases owner reasons diverted s <;> rw [e]
  rw [disposeIfFinal_rel]
  exact addReasons_rel h _ _

/-! ### The end of a release -/

theorem divertOutcome_steady (r : SetRecord) (s : State) : Steady s (divertOutcome r s) := by
  rw [divertOutcome]
  split
  · exact offer_steady _ _
  · exact reportOutcome_steady _ _ _ _

@[simp] theorem divertOutcome_offPockets (r : SetRecord) (s : State) : (divertOutcome r s).offPockets = s.offPockets := by
  rw [divertOutcome]
  split
  · exact offer_offPockets _ _
  · exact reportOutcome_offPockets _ _ _ _

theorem divertOutcome_rel {s : State} (h : s.rel.hold ≠ .holding) (r : SetRecord) :
    (divertOutcome r s).rel = s.rel := by
  rw [divertOutcome]
  split
  · exact offer_rel _ _
  · exact reportOutcome_rel h _ _ _

theorem endRelease_steady {s : State} (hold : PocketOk s → s.rel.hold = .releasing) : Steady s (endRelease s) := by
  rw [endRelease]
  split
  · exact (emptyHold_steady s).trans (holdEmptied_steady rfl)
  · next r _ =>
    split
    · refine .after (holdEmptied_steady ?_) ((emptyHold_steady s).trans (divertOutcome_steady r _))
      rw [divertOutcome_rel (by simp [emptyHold])]
      rfl
    · next good => exact .after (holdEmptied_steady rfl) (enterFolder_steady r hold good)

/-! ### The line and its faults -/

/-- A step that keeps the pockets and the queue and ends on the run, wherever the planner's condition holds. -/
theorem Steady.ofRunning {s t : State} (ha : t.acc = s.acc) (hr : t.rel = s.rel)
    (hq : t.trk.queue.length ≤ s.trk.queue.length) (run : PlannerOk s → t.seq.line.running = true)
    (hl : t.seq.line = s.seq.line ∨ t.seq.line = .fault ∨ s.seq.line.running = true ∧ t.seq.line.running = true) :
    Steady s t := by
  refine ⟨pocketOk_congr ha hr, fun p => ?_, hq, hl⟩
  rw [plannerOk_iff, run p]
  nofun

/-- A step that keeps the line, the pockets and the queue, and aims at nothing new. -/
theorem Steady.ofAims {s t : State} (hl : t.seq.line = s.seq.line) (ha : t.acc = s.acc) (hr : t.rel = s.rel)
    (hq : t.trk.queue.length = s.trk.queue.length)
    (aims : s.aims = (none, none, .none, .none, none, none, false, none, none) →
      t.aims = (none, none, .none, .none, none, none, false, none, none)) : Steady s t := by
  refine ⟨pocketOk_congr ha hr, fun p => ?_, hq.le, .inl hl⟩
  rw [plannerOk_iff] at p ⊢
  rw [hl]
  exact aims ∘ p

/-- A step that empties the planner. -/
theorem Steady.ofCleared {s t : State} (hl : t.seq.line = s.seq.line ∨ t.seq.line = .fault)
    (hp : PocketOk s → PocketOk t) (hq : t.trk.queue.length = s.trk.queue.length)
    (aims : t.aims = (none, none, .none, .none, none, none, false, none, none)) : Steady s t :=
  ⟨hp, fun _ => (plannerOk_iff t).mpr fun _ => aims, hq.le, hl.imp_right .inl⟩

/-- A line on the run stays so, but for a fault. -/
theorem Steady.running {s t : State} (h : Steady s t) (run : s.seq.line.running = true) :
    t.seq.line.running = true ∨ t.seq.line = .fault := by
  obtain e | e | e := h.line
  · exact .inl (e ▸ run)
  · exact .inr e
  · exact .inl e.2

theorem changeLine_steady {s : State} {new : LineState} (kind : HaltKind) (run : s.seq.line.running = true)
    (hn : new.running = true) : Steady s (changeLine new kind s) := by
  have entered : Steady s (s.setLine new kind) :=
    .ofRunning rfl rfl le_rfl (fun _ => hn) (.inr (.inr ⟨run, hn⟩))
  rw [changeLine, if_pos hn]
  exact (releaseTest_steady _).after ((offer_steady _ _).after (hand_steady _ _ entered))

/-- R156: besides the pockets and the reports a change of line state changes the sequencer alone. -/
theorem changeLine_offPockets (new : LineState) (kind : HaltKind) (s : State) :
    (changeLine new kind s).offPockets = (s.setLine new kind).offPockets := by
  rw [changeLine]
  split <;> simp only [releaseTest_offPockets, offer_offPockets] <;> rfl

@[simp] theorem changeLine_seq (new : LineState) (kind : HaltKind) (s : State) :
    (changeLine new kind s).seq = { s.seq with line := new, haltKind := kind } :=
  congrArg OffPockets.seq (changeLine_offPockets new kind s)

@[simp] theorem changeLine_trk (new : LineState) (kind : HaltKind) (s : State) : (changeLine new kind s).trk = s.trk :=
  congrArg OffPockets.trk (changeLine_offPockets new kind s)

@[simp] theorem changeLine_pln (new : LineState) (kind : HaltKind) (s : State) : (changeLine new kind s).pln = s.pln :=
  congrArg OffPockets.pln (changeLine_offPockets new kind s)

@[simp] theorem changeLine_tr (new : LineState) (kind : HaltKind) (s : State) : (changeLine new kind s).tr = s.tr :=
  congrArg OffPockets.tr (changeLine_offPockets new kind s)

theorem holdReasonTest_steady (s : State) : Steady s (holdReasonTest s) := by
  rw [holdReasonTest]
  split <;> exact .same rfl

theorem parkTest_steady (s : State) : Steady s (parkTest s) := by
  rw [parkTest]
  split
  · exact (latch_steady _ _).after (holdReasonTest_steady s)
  · exact holdReasonTest_steady s

theorem haltComplete_steady {s : State} (run : s.seq.line.running = true) : Steady s (haltComplete s) :=
  (latch_steady _ _).after (changeLine_steady _ run rfl)

@[simp] theorem holdReasonTest_seq (s : State) : (holdReasonTest s).seq = s.seq := by
  rw [holdReasonTest]
  split <;> rfl

@[simp] theorem parkTest_seq (s : State) : (parkTest s).seq = s.seq := by
  rw [parkTest]
  split <;> simp only [latch_seq, holdReasonTest_seq]

theorem haltComplete_line (s : State) : (haltComplete s).seq.line = .halted := by
  rw [haltComplete, latch_seq, changeLine_seq]

/-- R99, R104: a target reported met, in a state whose planner may hold one. -/
theorem reportMet_steady {s : State} (run : PlannerOk s → s.seq.line.running = true) : Steady s (reportMet s) := by
  have told : Steady s { s with tr := { s.tr with metTold := true }, pln := { s.pln with parked := true } } :=
    .ofRunning rfl rfl le_rfl run (.inl rfl)
  have completed : Steady s (if (s.pln.cause.halts && decide (s.seq.line = .halting)) = true then
      haltComplete { s with tr := { s.tr with metTold := true }, pln := { s.pln with parked := true } }
      else { s with tr := { s.tr with metTold := true }, pln := { s.pln with parked := true } }) := by
    split
    · next h =>
      obtain ⟨-, halting⟩ := Bool.and_eq_true_iff.mp h
      rw [decide_eq_true_eq] at halting
      exact told.trans (haltComplete_steady (by rw [halting]; rfl))
    · exact told
  rw [reportMet]
  split
  · exact completed
  · exact (parkTest_steady _).after completed

theorem targetMet_steady {s : State} (run : PlannerOk s → s.seq.line.running = true) : Steady s (targetMet s) := by
  have stopped : Steady s (hand [0] s { s with
      tr := { s.tr with state := .still, speed := 0, remainder := 0, due := s.tr.emitted } }) := .same rfl
  rw [targetMet]
  split
  · exact stopped.trans (reportMet_steady run)
  · exact stopped

theorem orderImmediate_steady (s : State) : Steady s (orderImmediate s) := by
  have stopped : Steady s (immediateStop s) := .ofAims rfl rfl rfl rfl fun h => by
    simp only [State.aims, Prod.mk.injEq] at h ⊢
    exact ⟨h.1, h.2.1, h.2.2.1, h.2.2.2.1, h.2.2.2.2.1, h.2.2.2.2.2.1, h.2.2.2.2.2.2.1, rfl, rfl⟩
  rw [orderImmediate]
  split
  · exact .same rfl
  · exact stopped.trans (.same rfl)

theorem orderRamp_steady (s : State) : Steady s (orderRamp s) := by
  rw [orderRamp]
  split
  · refine .ofAims rfl rfl rfl rfl fun h => ?_
    simp only [State.aims, Prod.mk.injEq] at h ⊢
    exact ⟨h.1, h.2.1, h.2.2.1, h.2.2.2.1, h.2.2.2.2.1, h.2.2.2.2.2.1, h.2.2.2.2.2.2.1, rfl, rfl⟩
  · exact .refl s
  · exact .same rfl

/-- R173 steps 1 to 3: the line in FAULT with every block told. -/
theorem faultBlocks_steady (f : LineFault) (s : State) : Steady s (faultBlocks (faultSequencer f s)) := by
  refine .ofCleared (.inr rfl) (fun h => ?_) rfl rfl
  unfold PocketOk BuildOk HoldOk FolderOk foldReleasing at h ⊢
  grind [faultBlocks, faultSequencer, clearPlanner, Accumulator.fault, ReleaseUnit.fault, Timer.hold, hand_acc,
    hand_rel, List.length_map]

theorem firstFault_steady (f : LineFault) (flag : Bool) (detail : Word) (s : State) :
    Steady s (firstFault f flag detail s) := by
  refine (offer_steady _ _).after ((latch_steady _ _).after ((offer_steady _ _).after ((faultBlocks_steady f s).trans ?_)))
  split
  · exact orderImmediate_steady _
  · exact orderRamp_steady _

theorem addedFault_steady (f : LineFault) (flag : Bool) (detail : Word) (s : State) :
    Steady s (addedFault f flag detail s) := by
  have counted : Steady s (offer (.faultAdded f (min 255 (s.seq.added + 1)) flag s.enc.web detail)
      (hand [1] s { s with seq := { s.seq with added := min 255 (s.seq.added + 1) } })) :=
    (offer_steady _ _).after (.same rfl)
  rw [addedFault]
  split
  · exact counted.trans (orderImmediate_steady _)
  · exact counted

theorem takeFault_steady (f : LineFault) (flag : Bool) (detail : Word) (s : State) :
    Steady s (takeFault f flag detail s) := by
  rw [takeFault]
  split
  · exact .refl s
  · split
    · exact addedFault_steady f flag detail s
    · exact firstFault_steady f flag detail s

/-! ### The hold planner and the nip -/

theorem chooseHalt_steady (c : List Sheet) {s : State} (run : s.seq.line.running = true) :
    Steady s (chooseHalt c s) := by
  rw [chooseHalt]
  split <;> exact .ofRunning rfl rfl le_rfl (fun _ => run) (.inl rfl)

theorem requestHalt_steady (kind : HaltKind) {s : State} (run : s.seq.line.running = true) :
    Steady s (requestHalt kind s) := by
  rw [requestHalt]
  split
  · exact .refl s
  · have asked : Steady s { s with pln := { s.pln with haltKind := kind } } :=
      .ofRunning rfl rfl le_rfl (fun _ => run) (.inl rfl)
    dsimp only
    split <;> exact asked.trans (chooseHalt_steady _ run)

/-- R94: the planner works on a halt request in HALTING alone. -/
theorem chooses_running {s : State} (h : s.chooses = true) : s.seq.line.running = true := by
  rw [State.chooses, decide_eq_true_eq] at h
  rw [h]
  rfl

theorem haltAtCreation_steady (r : Sheet) (s : State) : Steady s (haltAtCreation r s) := by
  rw [haltAtCreation]
  split
  · next h => exact chooseHalt_steady _ (chooses_running h.1)
  · exact .refl s

theorem haltAtSettle_steady (a : Word) (s : State) : Steady s (haltAtSettle a s) := by
  rw [haltAtSettle]
  split
  · next h =>
    split
    · exact chooseHalt_steady _ (chooses_running h.1)
    · exact .refl s
  · exact .refl s

theorem haltAtAssignment_steady (a : Word) (p : Nat) (s : State) : Steady s (haltAtAssignment a p s) := by
  rw [haltAtAssignment]
  split
  · next h => exact chooseHalt_steady _ (chooses_running h.1)
  · exact .refl s

theorem haltAtReanchor_steady (a d : Word) (s : State) : Steady s (haltAtReanchor a d s) := by
  obtain ⟨e, -⟩ | ⟨named, e⟩ := haltAtReanchor_cases a d s <;> rw [e]
  · exact .refl s
  · refine .ofRunning rfl rfl le_rfl (fun p => ?_) (.inl rfl)
    by_contra h
    have none := (p (Bool.eq_false_iff.mpr h)).2.2.2.1
    rw [named] at none
    cases none

theorem taking_steady (o : Option Word) {s : State} (run : s.seq.line.running = true) : Steady s (s.taking o) :=
  .ofRunning rfl rfl le_rfl (fun _ => run) (.inl rfl)

theorem takeTarget_steady (old new : Option Word) {s : State} (run : s.seq.line.running = true) :
    Steady s (takeTarget old new s) := by
  have untold : Steady s { s with tr := { s.tr with metTold := false } } := .same rfl
  unfold takeTarget
  dsimp only
  split
  · exact untold
  · split
    · split
      · exact (untold.trans (taking_steady _ run)).trans (targetMet_steady fun _ => run)
      · exact untold.trans (taking_steady _ run)
    · exact untold

theorem setPlanner_steady (p : Planner) {s : State} (run : s.seq.line.running = true) : Steady s (s.setPlanner p) :=
  .ofRunning rfl rfl le_rfl (fun _ => run) (.inl rfl)

theorem retell_steady (c : StopCause) (s : State) : Steady s (retell c s) := by
  rw [retell]
  split <;> exact .same rfl

theorem refreshOnce_steady (s : State) : Steady s (refreshOnce s) := by
  rw [refreshOnce]
  split
  · next run =>
    have run' : (retell (planNow s).cause s).seq.line.running = true := by rw [retell_line, run]
    have named := (retell_steady (planNow s).cause s).trans (setPlanner_steady (planNow s) run')
    dsimp only
    split
    · exact named
    · exact named.trans (takeTarget_steady _ _ run')
  · exact .refl s

theorem refresh_steady (s : State) : Steady s (refresh s) := (refreshOnce_steady s).trans (refreshOnce_steady _)

theorem editSheet_steady (s : State) (a : Word) (f : Sheet → Sheet) : Steady s (s.editSheet a f) :=
  .ofAims rfl rfl rfl (List.length_map _) id

theorem separateFired_steady (n : Nat) (s : State) : Steady s (separateFired n s) := by
  induction n generalizing s with
  | zero => exact .refl s
  | succ n ih =>
    rw [separateFired]
    split
    · exact .refl s
    · split
      · exact (editSheet_steady ..).trans (ih _)
      · exact .refl s

theorem goSheet_steady (r : Sheet) (s : State) : Steady s (goSheet r s) := by
  have snapped : Steady s { s with trk := { s.trk with
      queue := editSheet r.anchor (fun x => { x with stage := .fired }) s.trk.queue
      snap := true, snapTimer := Timer.start Config.snapTime } } := (editSheet_steady _ _ _).trans (.same rfl)
  rw [goSheet]
  split
  · exact editSheet_steady ..
  · exact snapped.trans (separateFired_steady _ _)
  · exact snapped.trans (separateFired_steady _ _)

theorem fireFor_steady (n : Nat) (s : State) : Steady s (fireFor n s) := by
  induction n generalizing s with
  | zero => exact .refl s
  | succ n ih =>
    rw [fireFor]
    split
    · exact .refl s
    · split
      · exact ((goSheet_steady _ s).trans (refresh_steady _)).trans (ih _)
      · exact .refl s

theorem settle_steady (s : State) : Steady s (settle s) := (refresh_steady s).trans (fireFor_steady _ _)

theorem settleSince_steady (old s : State) : Steady s (settleSince old s) := by
  obtain ⟨e, -⟩ | ⟨e, -⟩ := settleSince_cases old s <;> rw [e]
  · exact settle_steady s
  · exact refresh_steady s

theorem ticketsLowTest_steady (s : State) : Steady s (ticketsLowTest s) := by
  obtain ⟨t, rfl, e | e⟩ := ticketsLowTest_cases s <;> rw [e] <;> exact .same rfl

theorem endStep_steady (s : State) : Steady s (endStep s) := (ticketsLowTest_steady s).trans (holdReasonTest_steady _)

theorem settleEnd_steady (old s : State) : Steady s (settleEnd old s) :=
  (settleSince_steady old s).trans (endStep_steady _)

theorem endMoved_steady (s : State) : Steady s (endMoved s) := (refresh_steady s).trans (endStep_steady _)

/-! ### The collator -/

theorem assign_steady (a : Word) (x : Assignment) (e : Bool) (s : State) : Steady s (assign a x e s) :=
  (haltAtAssignment_steady _ _ _).after (editSheet_steady _ _ _)

theorem endSetAt_steady (o : OpenSet) (s : State) : Steady s (endSetAt o s) := by
  rw [endSetAt]
  split
  · exact editSheet_steady _ _ _
  · exact closeRequest_steady _ _

theorem forgetOpen_steady (s : State) : Steady s (forgetOpen s) := .same rfl

theorem endPurgeSet_steady (s : State) : Steady s (endPurgeSet s) := by
  rw [endPurgeSet]
  split
  · split
    · exact (forgetOpen_steady _).after (endSetAt_steady _ _)
    · exact .refl s
  · exact .refl s

theorem endTicketSet_steady (ring : Index) (s : State) : Steady s (endTicketSet ring s) := by
  rw [endTicketSet]
  split
  · split
    · exact (forgetOpen_steady _).after (endSetAt_steady _ _)
    · exact .refl s
  · exact .refl s

theorem closePiece_steady (ring : Index) (s : State) : Steady s (closePiece ring s) :=
  (disposeIfFinal_steady _ _).after
    (((addTicketReason_steady _ _ s).trans (endTicketSet_steady _ _)).trans (.same rfl))

theorem closeCollating_steady (s : State) : Steady s (closeCollating s) := by
  rw [closeCollating]
  split
  · exact .refl s
  · exact closePiece_steady _ _

theorem openFor_steady (ring : Index) (s : State) : Steady s (openFor ring s) := by
  rw [openFor]
  split
  · exact .refl s
  · exact (endPurgeSet_steady s).trans (.same rfl)

theorem joinTicket_steady (ring : Index) (a : Word) (lastFlag : Bool) (s : State) :
    Steady s (joinTicket ring a lastFlag s) := by
  have opened := openFor_steady ring s
  rw [joinTicket]
  dsimp only
  split
  · split
    · exact (addTicketReason_steady _ _ _).after ((assign_steady _ _ _ _).after (opened.trans (.same rfl)))
    · exact (assign_steady _ _ _ _).after (opened.trans (.same rfl))
  · exact opened

theorem openPurge_steady (s : State) : Steady s (openPurge s) := by
  rw [openPurge]
  split
  · exact .refl s
  · exact .same rfl

theorem joinPurge_steady (a : Word) (s : State) : Steady s (joinPurge a s) := by
  rw [joinPurge]
  dsimp only
  split
  · exact openPurge_steady s
  · exact (assign_steady _ _ _ _).after ((openPurge_steady s).trans (.same rfl))

theorem orphanSheet_steady (a : Word) (s : State) : Steady s (orphanSheet a s) :=
  (closeCollating_steady s).trans (joinPurge_steady _ _)

theorem checkSheet_steady (t : Ticket) (f : Frame) (s : State) : Steady s (checkSheet t f s) := by
  have index : Steady s (if f.index.toNat = t.expected then s else addTicketReason t.ring .sequence s) := by
    split
    · exact .refl s
    · exact addTicketReason_steady _ _ _
  have checked := index.trans (.same (t := State.editTicket _ t.ring fun x => { x with expected := f.index.toNat + 1 }) rfl)
  rw [checkSheet]
  split
  · exact checked
  · exact checked.trans (addTicketReason_steady _ _ _)

theorem decideCurrent_steady (t : Ticket) (a : Word) (f : Frame) (s : State) : Steady s (decideCurrent t a f s) :=
  (checkSheet_steady t f s).trans (joinTicket_steady _ _ _ _)

theorem passOver_steady (ring : Index) (s : State) : Steady s (passOver ring s) :=
  foldl_steady _ (fun _ _ => makeDisposition_steady _ _ _) _ _

theorem stallAt_steady (a : Word) (x : Serial) (s : State) : Steady s (stallAt a x s) := by
  rw [stallAt]
  split
  · exact .refl s
  · exact (offer_steady _ _).after (.same rfl)

theorem decideFrame_steady (a : Word) (f : Frame) (s : State) : Steady s (decideFrame a f s).1 := by
  rw [decideFrame]
  split
  · exact orphanSheet_steady _ _
  · exact takeFault_steady _ _ _ _
  · exact decideCurrent_steady _ _ _ _
  · exact ((closeCollating_steady s).trans (passOver_steady _ _)).trans (decideCurrent_steady _ _ _ _)
  · exact orphanSheet_steady _ _
  · split
    · exact orphanSheet_steady _ _
    · exact stallAt_steady _ _ _

theorem setPending_steady (p : Option Word) (s : State) : Steady s (setPending p s) := .same rfl

theorem pendingJoins_steady (t : Ticket) (p : Word) (s : State) : Steady s (pendingJoins t p s) :=
  (addTicketReason_steady _ _ _).after (((passOver_steady _ s).trans (joinTicket_steady _ _ _ _)).trans (.same rfl))

theorem decidePending_steady (f : Frame) (s : State) : Steady s (decidePending f s) := by
  rw [decidePending]
  split
  · exact .refl s
  · split
    · exact .refl s
    · split
      · exact (setPending_steady none s).trans (pendingJoins_steady _ _ _)
      · exact (setPending_steady none s).trans (joinPurge_steady _ _)

theorem unreadJoins_steady (t : Ticket) (a : Word) (s : State) : Steady s (unreadJoins t a s) :=
  (addTicketReason_steady _ _ _).after ((joinTicket_steady _ _ _ s).trans (.same rfl))

theorem decideUnread_steady (a : Word) (s : State) : Steady s (decideUnread a s) := by
  rw [decideUnread]
  split
  · exact unreadJoins_steady _ _ _
  · split
    · exact (joinPurge_steady _ s).trans (setPending_steady _ _)
    · exact setPending_steady _ _

theorem decideSheet_steady (r : Sheet) (s : State) : Steady s (decideSheet r s).1 := by
  rw [decideSheet]
  split
  · exact joinPurge_steady _ _
  · exact (decidePending_steady _ s).trans (decideFrame_steady _ _ _)
  · exact decideUnread_steady _ _

theorem advanceCursor_steady (a : Word) (s : State) : Steady s (advanceCursor a s) := .same rfl

theorem collateFor_steady (n : Nat) (s : State) : Steady s (collateFor n s) := by
  induction n generalizing s with
  | zero => exact .refl s
  | succ n ih =>
    rw [collateFor]
    split
    · exact .refl s
    · split
      · exact .refl s
      · next r _ =>
        dsimp only
        split
        · exact ((decideSheet_steady r s).trans (advanceCursor_steady _ _)).trans (ih _)
        · exact decideSheet_steady r s

theorem orphanPending_steady (s : State) : Steady s (orphanPending s) := by
  rw [orphanPending]
  split
  · exact .refl s
  · exact (setPending_steady _ s).trans (joinPurge_steady _ _)

theorem runoutClose_steady (s : State) : Steady s (runoutClose s) := by
  rw [runoutClose]
  split
  · exact ((orphanPending_steady s).trans (closeCollating_steady _)).trans (endPurgeSet_steady _)
  · exact .refl s

theorem collate_steady (s : State) : Steady s (collate s) := (collateFor_steady _ s).trans (runoutClose_steady _)

theorem offerSheet_steady (a : Word) (s : State) : Steady s (offerSheet a s) := by
  rw [offerSheet]
  split
  · exact .refl s
  · exact (collate_steady _).after (.same rfl)

theorem noteRunout_steady (s : State) : Steady s (noteRunout s) := (runoutClose_steady _).after (.same rfl)

/-! ### Settles, runout, windows and landings -/

theorem settleRecord_steady (r : Sheet) (o : SheetOrigin) (s : State) : Steady s (settleRecord r o s) :=
  (offerSheet_steady _ _).after ((haltAtSettle_steady _ _).after ((editSheet_steady _ _ _).after
    ((offer_steady _ _).after (.same rfl))))

theorem settleOpen_steady (s : State) : Steady s (settleOpen s) := by
  rw [settleOpen]
  split
  · exact .refl s
  · exact settleRecord_steady _ _ _

theorem reanchor_steady (d : Word) (s : State) : Steady s (reanchor d s) := by
  rw [reanchor]
  split
  · exact .refl s
  · exact (offer_steady _ _).after ((haltAtReanchor_steady _ _ _).after ((editSheet_steady s _ _).trans (.same rfl)))

theorem runoutHalt_steady (b : Option Word) (s : State) : Steady s (runoutHalt b s) := by
  have noted := noteRunout_steady s
  rw [runoutHalt]
  generalize noteRunout s = u at noted ⊢
  dsimp only
  split
  · next run =>
    have run : u.seq.line.running = true := by rw [run]; rfl
    exact .after (changeLine_steady _ run rfl) (noted.trans (.ofRunning rfl rfl le_rfl (fun _ => run) (.inl rfl)))
  · exact noted

theorem takeRunout_steady (s : State) : Steady s (takeRunout s) := by
  rw [takeRunout]
  dsimp only
  split
  · exact (runoutHalt_steady _ _).after (.same rfl)
  · exact (runoutHalt_steady _ _).after ((settleRecord_steady _ _ _).after (.same rfl))

theorem runoutTest_steady (s : State) : Steady s (runoutTest s) := by
  rw [runoutTest]
  split
  · exact takeRunout_steady s
  · exact .refl s

theorem overrunTest_steady (h : Word) (s : State) : Steady s (overrunTest h s) := by
  rw [overrunTest]
  split
  · split
    · exact takeFault_steady _ _ _ _
    · exact .refl s
  · exact .refl s

theorem separationTest_steady (s : State) : Steady s (separationTest s) := by
  rw [separationTest]
  split
  · exact separateFired_steady _ _
  · exact .refl s

theorem attributeEdge_steady (lead : Bool) (c : Option Sheet) (take : Sheet → State → State)
    (h : ∀ r s, Steady s (take r s)) (s : State) : Steady s (attributeEdge lead c take s) := by
  unfold attributeEdge
  split
  · exact takeFault_steady _ _ _ _
  · split
    · exact takeFault_steady _ _ _ _
    · split
      · exact takeFault_steady _ _ _ _
      · exact h _ _

theorem takeLeading_steady (r : Sheet) (s : State) : Steady s (takeLeading r s) := editSheet_steady _ _ _

theorem takeTrailing_steady (r : Sheet) (s : State) : Steady s (takeTrailing r s) := by
  rw [takeTrailing]
  split
  · exact editSheet_steady _ _ _
  · exact (offer_steady _ _).after (editSheet_steady _ _ _)

theorem windowEndTest_steady (lead : Bool) (st : Stage) (s : State) : Steady s (windowEndTest lead st s) := by
  rw [windowEndTest]
  split
  · split
    · split
      · exact takeFault_steady _ _ _ _
      · exact .refl s
    · exact .refl s
  · exact .refl s

theorem dropSheet_steady (a : Word) (s : State) : Steady s (dropSheet a s) :=
  ⟨pocketOk_congr rfl rfl, id, List.length_filter_le _ _, .inl rfl⟩

theorem landFor_steady (n : Nat) (s : State) : Steady s (landFor n s) := by
  induction n generalizing s with
  | zero => exact .refl s
  | succ n ih =>
    rw [landFor]
    split
    · exact .refl s
    · split
      · exact ((dropSheet_steady _ s).trans (landSheet_steady _ _)).trans (ih _)
      · exact .refl s

theorem landings_steady (s : State) : Steady s (landings s) := by
  rw [landings]
  split
  · exact landFor_steady _ _
  · exact .refl s

theorem trackBelt_steady (s : State) : Steady s (trackBelt s) :=
  ((windowEndTest_steady _ _ s).trans (windowEndTest_steady _ _ _)).trans (landings_steady _)

/-! ### Records created, and the line at rest -/

/-- The pockets, the planner and the sheet queue stay consistent. -/
structure Calm (s t : State) : Prop where
  pockets : PocketOk s → PocketOk t
  planner : PlannerOk s → PlannerOk t
  sheets : SheetsOk s → SheetsOk t

theorem Calm.trans {s t u : State} (h : Calm s t) (k : Calm t u) : Calm s u :=
  ⟨k.pockets ∘ h.pockets, k.planner ∘ h.planner, k.sheets ∘ h.sheets⟩

theorem Calm.after {s t u : State} (k : Calm t u) (h : Calm s t) : Calm s u := h.trans k

theorem Steady.calm {s t : State} (h : Steady s t) : Calm s t := by
  refine ⟨h.pockets, h.planner, fun ⟨bound, rest⟩ => ⟨h.sheets.trans bound, fun at_rest => ?_⟩⟩
  have same : t.seq.line = s.seq.line := by
    obtain e | e | ⟨-, e⟩ := h.line
    · exact e
    · rw [e] at at_rest
      simp at at_rest
    · obtain d | d | d := at_rest <;> rw [d] at e <;> cases e
  exact List.eq_nil_of_length_eq_zero (by simpa [rest (same ▸ at_rest)] using h.sheets)

theorem Calm.same {s t : State} (h : t.works = s.works) : Calm s t := (Steady.same h).calm

theorem createAtPerf_calm (p settled : Word) {s : State} (run : s.seq.line.running = true) :
    Calm s (createAtPerf p settled s) := by
  rw [createAtPerf]
  split
  · next room =>
    refine (haltAtCreation_steady _ _).calm.after ⟨pocketOk_congr rfl rfl, id, fun _ => ⟨?_, fun at_rest => ?_⟩⟩
    · simpa [pushSheet] using room
    · change s.seq.line = .idle ∨ s.seq.line = .calibrate ∨ s.seq.line = .register at at_rest
      obtain d | d | d := at_rest <;> rw [d] at run <;> cases run
  · exact (takeFault_steady _ _ _ _).calm.after (.same rfl)

theorem takePerforation_calm (p : Word) (s : State) : Calm s (takePerforation p s) := by
  rw [takePerforation]
  split
  · next run => exact (settleOpen_steady s).calm.trans (createAtPerf_calm _ _ run)
  · exact (settleOpen_steady s).calm

theorem perforationTest_calm (h : Word) (s : State) : Calm s (perforationTest h s) := by
  rw [perforationTest]
  split
  · split
    · split
      · exact takePerforation_calm _ _
      · exact (Steady.refl s).calm
    · exact (Steady.refl s).calm
  · exact (Steady.refl s).calm

theorem trackAdvance_calm (h : Word) (s : State) : Calm s (trackAdvance h s) :=
  (perforationTest_calm h s).trans
    (((separationTest_steady _).trans (settle_steady _)).trans (overrunTest_steady _ _)).calm

theorem changeLine_pocketOk (new : LineState) (kind : HaltKind) {s : State} (h : PocketOk s) :
    PocketOk (changeLine new kind s) := by
  have told : PocketOk (offer (.lineState new (some s.seq.line) kind) (hand [0] s (s.setLine new kind))) :=
    (offer_steady _ _).pockets h
  rw [changeLine]
  split
  · exact (releaseTest_steady _).pockets told
  · exact told

/-- The line comes to a state off the run from one, with no record in the queue. -/
theorem changeLine_calm {s : State} {new : LineState} (kind : HaltKind) (rest : new.running = false)
    (old : PlannerOk s → s.aims = (none, none, .none, .none, none, none, false, none, none))
    (empty : SheetsOk s → s.trk.queue = []) : Calm s (changeLine new kind s) := by
  rw [changeLine_at_rest rest]
  refine (offer_steady _ _).calm.after ⟨pocketOk_congr rfl rfl, fun p => ?_, fun q => ⟨q.1, fun _ => empty q⟩⟩
  exact (plannerOk_iff _).mpr fun _ => old p

theorem immediateStop_steady (s : State) : Steady s (immediateStop s) := .ofAims rfl rfl rfl rfl fun h => by
  simp only [State.aims, Prod.mk.injEq] at h ⊢
  exact ⟨h.1, h.2.1, h.2.2.1, h.2.2.2.1, h.2.2.2.2.1, h.2.2.2.2.2.1, h.2.2.2.2.2.2.1, rfl, rfl⟩

/-- R113: IDLE is entered with the sheet path empty. -/
theorem enterIdle_calm {s : State} (empty : SheetsOk s → s.trk.queue = []) : Calm s (enterIdle s) := by
  have stopped : Steady s (if s.tr.state = .still then s else immediateStop s) ∧
      (if s.tr.state = .still then s else immediateStop s).trk = s.trk ∧
      (if s.tr.state = .still then s else immediateStop s).seq = s.seq := by
    split
    · exact ⟨.refl s, rfl, rfl⟩
    · exact ⟨immediateStop_steady s, rfl, rfl⟩
  obtain ⟨stopped, trk, seq⟩ := stopped
  rw [enterIdle]
  generalize (if s.tr.state = .still then s else immediateStop s) = u at stopped trk seq ⊢
  refine .after (changeLine_calm .none rfl (fun _ => rfl) fun q => ?_)
    (stopped.calm.trans ⟨pocketOk_congr rfl rfl, fun _ => (plannerOk_iff _).mpr fun _ => rfl, id⟩)
  have same : SheetsOk s := by
    have q : SheetsOk u := q
    rwa [SheetsOk, trk, seq] at q
  exact (congrArg Tracking.queue trk).trans (empty same)

/-! ### Registration -/

/-- At most `n` records are created, in an order of operations that leaves the rest steady. -/
structure Grows (n : Nat) (s t : State) : Prop where
  pockets : PocketOk s → PocketOk t
  planner : PlannerOk s → PlannerOk t
  sheets : t.trk.queue.length ≤ s.trk.queue.length + n
  line : t.seq.line = s.seq.line ∨ t.seq.line = .fault ∨ s.seq.line.running = true ∧ t.seq.line.running = true

theorem Grows.steady {n : Nat} {s t u : State} (h : Grows n s t) (k : Steady t u) : Grows n s u := by
  refine ⟨k.pockets ∘ h.pockets, k.planner ∘ h.planner, k.sheets.trans h.sheets, ?_⟩
  obtain e | e | ⟨e, e'⟩ := k.line
  · rw [e]; exact h.line
  · exact .inr (.inl e)
  · obtain d | d | ⟨d, -⟩ := h.line
    · exact .inr (.inr ⟨d ▸ e, e'⟩)
    · rw [d] at e; cases e
    · exact .inr (.inr ⟨d, e'⟩)

theorem Grows.push {n : Nat} {s t : State} (h : Grows n s t) (r : Sheet) : Grows (n + 1) s (pushSheet r t) :=
  ⟨h.pockets, h.planner, by have := h.sheets; simp only [pushSheet, List.length_append, List.length_singleton]; omega,
    h.line⟩

theorem addLeadIns_grows (a : Word) (i n : Nat) {s t : State} (h : Grows n s t) :
    Grows (n + i) s (addLeadIns a i t) := by
  induction i generalizing n t with
  | zero => exact h
  | succ i ih =>
    have next := ih (n + 1) ((h.push (newSheet (a - word ((i + 1) * t.setupN 9)) .leadIn)).steady
      (offerSheet_steady (a - word ((i + 1) * t.setupN 9)) _))
    rw [Nat.add_assoc, Nat.add_comm 1] at next
    exact next

/-- R44: registration makes no more lead-in records than the queue takes with the registered one. -/
def LeadInsFit (s : State) : Prop := s.setupN 13 / s.setupN 9 < 48

theorem leadInsFit_of_shadowOk {s : State} (h : ShadowOk s) : LeadInsFit s := by
  have burst : (s.setup 13).toNat ≤ 60000 := by
    have := h.2 13 (by decide)
    simp [setupInRange, setupRow, setupRows] at this
    exact this.2
  have form : 1500 ≤ (s.setup 9).toNat := by
    have := h.2 9 (by decide)
    simp [setupInRange, setupRow, setupRows] at this
    exact this.1
  rw [LeadInsFit, State.setupN, State.setupN, Nat.div_lt_iff_lt_mul (by omega)]
  omega

/-- The same as Calm, where the lead-in records of a registration fit the queue. -/
structure CalmWeb (s t : State) : Prop where
  pockets : PocketOk s → PocketOk t
  planner : PlannerOk s → PlannerOk t
  sheets : LeadInsFit s → SheetsOk s → SheetsOk t

theorem Calm.web {s t : State} (h : Calm s t) : CalmWeb s t := ⟨h.pockets, h.planner, fun _ => h.sheets⟩

theorem Steady.web {s t : State} (h : Steady s t) : CalmWeb s t := h.calm.web

theorem CalmWeb.same {s t : State} (h : t.works = s.works) : CalmWeb s t := (Steady.same h).web

theorem CalmWeb.trans {s t u : State} (h : CalmWeb s t) (k : Calm t u) : CalmWeb s u :=
  ⟨k.pockets ∘ h.pockets, k.planner ∘ h.planner, fun fit => k.sheets ∘ h.sheets fit⟩

/-- What comes before a registration leaves the setup words as they are. -/
theorem CalmWeb.after {s t u : State} (k : CalmWeb t u) (shadow : t.path.shadow = s.path.shadow) (h : Steady s t) :
    CalmWeb s u := by
  refine ⟨k.pockets ∘ h.pockets, k.planner ∘ h.planner, fun fit => k.sheets ?_ ∘ h.calm.sheets⟩
  rwa [LeadInsFit, setupN_congr shadow, setupN_congr shadow]

theorem registerWeb_calm (edge : Word) (f : Frame) {s : State} (register : s.seq.line = .register) :
    CalmWeb s (registerWeb edge f s) := by
  have found : Grows 0 s { s with rd := { s.rd with
      searching := false
      verdict := { governing := some { edge := edge, d := 0, result := some (.ok f) }, conflict := false } } } :=
    ⟨pocketOk_congr rfl rfl, id, Nat.le_refl _, .inl rfl⟩
  have grown := (addLeadIns_grows (edge - s.setup 10) (s.setupN 13 / s.setupN 9) 0 found).push
    (newSheet (edge - s.setup 10) .read)
  have queued : LeadInsFit s → SheetsOk s → (pushSheet (newSheet (edge - s.setup 10) .read) (addLeadIns
      (edge - s.setup 10) (s.setupN 13 / s.setupN 9) { s with rd := { s.rd with
        searching := false
        verdict := { governing := some { edge := edge, d := 0, result := some (.ok f) }, conflict := false } } })
      ).trk.queue.length ≤ 48 := fun fit q => by
    have := grown.sheets
    rw [q.2 (.inr (.inr register)), List.length_nil] at this
    rw [LeadInsFit] at fit
    omega
  rw [registerWeb]
  generalize pushSheet _ _ = u at grown queued ⊢
  dsimp only
  split
  · refine .trans ?_ (runoutTest_steady _).calm
    refine ⟨fun p => ?_, fun _ => ?_, fun fit q => ?_⟩
    · exact changeLine_pocketOk _ _ (grown.pockets p)
    · rw [PlannerOk, changeLine_seq]
      nofun
    · rw [SheetsOk, changeLine_seq, changeLine_trk]
      exact ⟨queued fit q, by simp⟩
  · next left =>
    refine ⟨grown.pockets, grown.planner, fun fit q => ⟨queued fit q, fun at_rest => ?_⟩⟩
    change u.seq.line = .idle ∨ u.seq.line = .calibrate ∨ u.seq.line = .register at at_rest
    obtain e | e | ⟨e, -⟩ := grown.line
    · exact absurd (e.trans register) left
    · rw [e] at at_rest
      simp at at_rest
    · rw [register] at e
      cases e

/-! ### The reader -/

theorem searchFrame_calm (r : FrameResult) (e : Word) {s : State} (register : s.seq.line = .register) :
    CalmWeb s (searchFrame r e s) := by
  rw [searchFrame.eq_def]
  split
  · split
    · exact registerWeb_calm _ _ register
    · split
      · exact (Steady.refl s).web
      · exact (takeFault_steady _ _ _ _).web
  · exact (Steady.refl s).web

theorem governingEnds_steady (r : FrameResult) (g : Governing) (s : State) : Steady s (governingEnds r g s) := by
  rw [governingEnds.eq_def]
  dsimp only
  split
  · exact (reanchor_steady _ _).after (.same rfl)
  · exact .same rfl

theorem sheetFrame_steady (r : FrameResult) (g : Bool) (s : State) : Steady s (sheetFrame r g s) := by
  rw [sheetFrame]
  split
  · split
    · exact governingEnds_steady _ _ _
    · split
      · exact .same rfl
      · exact .refl s
  · exact .refl s

theorem frameEnds_calm (r : FrameResult) (s : State) : CalmWeb s (frameEnds r s) := by
  have hunted : Steady s { s with rd := s.rd.toHunt } := .same rfl
  rw [frameEnds]
  split
  · next register =>
    split
    · exact .after (searchFrame_calm _ _ register) rfl hunted
    · exact hunted.web
  · exact .after (sheetFrame_steady _ _ _).web rfl hunted

theorem setRegs_steady (st : ReaderState) (g : FrameRegs) (s : State) : Steady s (setRegs st g s) := .same rfl

theorem flagCompletes_steady (s : State) : Steady s (flagCompletes s) := by
  rw [flagCompletes]
  dsimp only
  split
  · split <;> exact .same rfl
  · exact .same rfl

theorem flagSample_steady (dark : Bool) (s : State) : Steady s (flagSample dark s) := by
  rw [flagSample]
  split
  · split <;> exact .same rfl
  · split
    · exact .same rfl
    · exact flagCompletes_steady s

theorem dataSample_calm (dark : Bool) (s : State) : CalmWeb s (dataSample dark s) := by
  rw [dataSample]
  dsimp only
  split
  · split <;> exact (setRegs_steady _ _ s).web
  · split
    · split
      · exact (setRegs_steady _ _ s).web
      · split <;> exact (setRegs_steady _ _ s).web
    · exact frameEnds_calm _ _

theorem closeSample_calm (dark : Bool) (s : State) : CalmWeb s (closeSample dark s) := by
  rw [closeSample]
  split
  · split
    · exact (setRegs_steady _ _ s).web
    · exact frameEnds_calm _ _
  · split <;> exact frameEnds_calm _ _

theorem frameSample_calm (dark : Bool) (s : State) : CalmWeb s (frameSample dark s) := by
  rw [frameSample]
  split
  · exact (flagSample_steady _ _).web
  · exact dataSample_calm _ _
  · exact closeSample_calm _ _
  · exact (Steady.refl s).web
  · exact (Steady.refl s).web

theorem darkSample_steady (s : State) : Steady s (darkSample s) := by
  rw [darkSample]
  dsimp only
  split
  · exact (takeFault_steady _ _ _ _).after (.same rfl)
  · exact .same rfl

theorem blankSample_steady (h : Word) (s : State) : Steady s (blankSample h s) := by
  rw [blankSample]
  dsimp only
  split
  · exact (offer_steady _ _).after (.same rfl)
  · exact .same rfl

theorem watchSample_steady (dark : Bool) (h : Word) (s : State) : Steady s (watchSample dark h s) := by
  rw [watchSample]
  split
  · split
    · exact darkSample_steady s
    · exact blankSample_steady h s
  · exact .refl s

theorem takeSample_calm (dark : Bool) (h : Word) (s : State) : CalmWeb s (takeSample dark h s) := by
  have watched := watchSample_steady dark h s
  rw [takeSample]
  split
  · exact (frameSample_calm _ _).after (watchSample_keeps dark h s).shadow watched
  · exact watched.web

/-- R38, R163: CALIBRATE has no sheet in the queue. -/
theorem sweepEnds_calm (edge : Word) {s : State} (calibrate : s.seq.line = .calibrate) : Calm s (sweepEnds edge s) := by
  have idle (u : State) (trk : u.trk = s.trk) (seq : u.seq = s.seq) : Calm u (enterIdle u) :=
    enterIdle_calm fun q => q.2 (.inr (.inl (by rw [seq, calibrate])))
  rw [sweepEnds]
  refine (offer_steady _ _).calm.after ((latch_steady _ _).calm.after ?_)
  split
  · refine Calm.after (idle _ ?_ ?_) (.same rfl) <;> rfl
  · refine Calm.after (idle _ ?_ ?_) (.same rfl) <;> rfl

theorem sweepAdvance_calm (h : Word) {s : State} (calibrate : s.seq.line = .calibrate) :
    Calm s (sweepAdvance h s) := by
  rw [sweepAdvance]
  split
  · exact .same rfl
  · split
    · exact sweepEnds_calm _ calibrate
    · exact .same rfl
  · dsimp only
    split
    · exact sweepEnds_calm _ calibrate
    · split <;> exact .same rfl

theorem readerAdvance_calm (h : Word) (s : State) : CalmWeb s (readerAdvance h s) := by
  rw [readerAdvance]
  split
  · next calibrate => exact (sweepAdvance_calm h calibrate).web
  · split
    · exact takeSample_calm _ _ _
    · exact (Steady.refl s).web

theorem usableEdge_calm (s : State) : CalmWeb s (usableEdge s) := by
  rw [usableEdge]
  split
  · split
    · exact .same rfl
    · exact (Steady.refl s).web
  · split
    · rw [startFlag]
      dsimp only
      split
      · exact (takeSample_calm _ _ _).after rfl (.same rfl)
      · exact .same rfl
    · exact (Steady.refl s).web

/-! ### The commands of the encoders, the sensors and the tick -/

theorem slipTest_steady (drive : Bool) (s : State) : Steady s (slipTest drive s) := by
  rw [slipTest]
  split
  · split
    · split
      · exact .refl s
      · exact (takeFault_steady _ _ _ _).after (.same rfl)
    · exact .same rfl
  · exact .refl s

theorem reverseTest_steady (s : State) : Steady s (reverseTest s) := by
  rw [reverseTest]
  split
  · split
    · split
      · exact .refl s
      · exact (takeFault_steady _ _ _ _).after (.same rfl)
    · exact .same rfl
  · exact .refl s

theorem regLimitTest_steady (h : Word) (s : State) : Steady s (regLimitTest h s) := by
  rw [regLimitTest]
  split
  · exact .refl s
  · split
    · exact takeFault_steady _ _ _ _
    · exact .refl s

theorem highWaterAdvance_calm (h : Word) (s : State) : CalmWeb s (highWaterAdvance h s) := by
  have read := (readerAdvance_calm h s).trans (regLimitTest_steady h _).calm
  rw [highWaterAdvance]
  split
  · exact read.trans (trackAdvance_calm _ _)
  · exact read

theorem webStep_calm (d : Word) (s : State) : CalmWeb s (webStep d s) := by
  rw [webStep]
  refine .trans ?_ ((reverseTest_steady _).trans (slipTest_steady _ _)).calm
  rw [highWaterTest]
  split
  · exact (highWaterAdvance_calm _ _).after rfl (.same rfl)
  · exact .same rfl

theorem webChannels_calm (a b : Bool) (s : State) : CalmWeb s (webChannels a b s) := by
  have pinned : Steady s { s with pins := { s.pins with webA := a, webB := b } } := .same rfl
  have moved (d : Word) : CalmWeb s (endMoved (webStep d { s with pins := { s.pins with webA := a, webB := b } })) := by
    refine .trans (.after (webStep_calm d _) ?_ pinned) (endMoved_steady _).calm
    rfl
  rw [webChannels]
  split
  · exact pinned.web
  · exact moved 1
  · exact moved (-1)
  · exact ((endStep_steady _).after (.after (takeFault_steady _ _ _ _) pinned)).web

theorem beltChannels_steady (a b : Bool) (s : State) : Steady s (beltChannels a b s) := by
  have pinned : Steady s { s with pins := { s.pins with beltA := a, beltB := b } } := .same rfl
  have moved (d : Word) : Steady s (beltMoved d { s with pins := { s.pins with beltA := a, beltB := b } }) :=
    (trackBelt_steady _).after (.same rfl)
  rw [beltChannels]
  split
  · exact pinned
  · exact (settleEnd_steady _ _).after (moved _)
  · exact (settleEnd_steady _ _).after (moved _)
  · exact (endStep_steady _).after (.after (takeFault_steady _ _ _ _) pinned)

theorem markChange_calm (dark : Bool) (s : State) : CalmWeb s (markChange dark s) := by
  rw [markChange]
  dsimp only
  split
  · exact (usableEdge_calm _).after rfl (.same rfl)
  · exact .same rfl

theorem beltEdgeRises_steady (s : State) : Steady s (beltEdgeRises s) := by
  rw [beltEdgeRises]
  dsimp only
  split
  · exact (attributeEdge_steady _ _ _ takeLeading_steady _).after (.same rfl)
  · exact .same rfl

theorem beltEdgeFalls_steady (s : State) : Steady s (beltEdgeFalls s) := by
  rw [beltEdgeFalls]
  dsimp only
  split
  · exact (attributeEdge_steady _ _ _ takeTrailing_steady _).after (.same rfl)
  · exact .same rfl

/-- R94, R111: a target reached is one of a line on the run. -/
theorem running_of_atTarget {s : State} (h : atTarget s = true) (p : PlannerOk s) : s.seq.line.running = true := by
  by_contra rest
  obtain ⟨-, -, -, -, -, -, -, -, noTarget⟩ := p (Bool.eq_false_iff.mpr rest)
  rw [atTarget, noTarget] at h
  cases h

theorem emitPulse_steady (s : State) : Steady s (emitPulse s) := by
  rw [emitPulse]
  split
  · have slipped : Steady s (slipTest true { s with tr := { s.tr with
        command := s.tr.command + 1, emitted := s.tr.emitted + 1, stepOut := true } }) :=
      (slipTest_steady _ _).after (.same rfl)
    dsimp only
    split
    · next reached => exact slipped.trans (targetMet_steady (running_of_atTarget reached))
    · exact slipped
  · exact .same rfl

theorem pulse_steady (s : State) : Steady s (pulse s) := (emitPulse_steady s).trans (settleEnd_steady _ _)

theorem emitRest_steady (n : Nat) (s : State) : Steady s (emitRest n s) := by
  induction n generalizing s with
  | zero => exact .refl s
  | succ n ih => exact (pulse_steady s).trans (ih _)

theorem tickClocks_steady (s : State) : Steady s (tickClocks s) := by
  refine ⟨fun h => ?_, id, Nat.le_refl _, .inl rfl⟩
  unfold PocketOk BuildOk HoldOk FolderOk foldReleasing at h ⊢
  grind [tickClocks, Timer.tick, List.length_map]

theorem tickProfile_steady (s : State) : Steady s (tickProfile s) := .ofAims rfl rfl rfl rfl fun h => by
  simp only [State.aims, Prod.mk.injEq] at h
  obtain ⟨h1, h2, h3, h4, h5, noStop, h7, h8, h9⟩ := h
  simp [State.aims, tickProfile, noStop, h1, h2, h3, h4, h5, h7]

theorem tickTarget_steady (s : State) : Steady s (tickTarget s) := by
  rw [tickTarget]
  split
  · next met =>
    refine targetMet_steady fun p => ?_
    by_contra rest
    obtain ⟨-, -, -, -, -, noStop, -⟩ := p (Bool.eq_false_iff.mpr rest)
    rw [noStop] at met
    cases met
  · exact .refl s

theorem tickStopPending_calm (s : State) : Calm s (tickStopPending s) := by
  rw [tickStopPending]
  split
  · next h =>
    refine .after (enterIdle_calm fun q => ?_) (.same (t := { s with rd := s.rd.clear }) rfl)
    exact q.2 (.inr (.inr h.1))
  · exact .same rfl

theorem tickRamp_steady (s : State) : Steady s (tickRamp s) := by
  rw [tickRamp]
  dsimp only
  split <;> exact .same rfl

theorem tickTransport_calm (s : State) : Calm s (tickTransport s) := by
  rw [tickTransport]
  split
  · exact ((tickProfile_steady s).trans (tickTarget_steady _)).calm.trans (tickStopPending_calm _)
  · split
    · exact (tickRamp_steady s).calm
    · exact .same rfl

theorem tickBelt_steady (s : State) : Steady s (tickBelt s) := by
  rw [tickBelt]
  split
  · dsimp only
    split
    · exact (takeFault_steady _ _ _ _).after (.same rfl)
    · exact .same rfl
  · exact .refl s

theorem tickNow_calm (s : State) : Calm s (tickNow s) :=
  ((tickClocks_steady s).calm.trans (tickTransport_calm _)).trans
    (((tickBelt_steady _).trans (settle_steady _)).trans (endStep_steady _)).calm

/-! ### The commands of the pockets and the line's inputs -/

theorem running_of_expired {t : Timer} (h : t.expired = true) : t.running = true := (Bool.and_eq_true_iff.mp h).1

theorem jogEnds_steady (s : State) : Steady s (jogEnds s) := by
  rw [jogEnds]
  split
  · next h =>
    obtain ⟨-, expired⟩ := Bool.and_eq_true_iff.mp h
    refine (endStep_steady _).after (endJog_steady fun ok => ?_)
    obtain ⟨⟨-, -, -, jogging, -, -⟩, -, -⟩ := ok
    exact jogging (running_of_expired expired)
  · exact .refl s

theorem dropEnds_steady (s : State) : Steady s (dropEnds s) := by
  rw [dropEnds]
  split
  · next h =>
    obtain ⟨-, expired⟩ := Bool.and_eq_true_iff.mp h
    refine (settleEnd_steady _ _).after (endDrop_steady fun ok => ?_)
    obtain ⟨⟨-, -, -, -, dropping, -⟩, -, -⟩ := ok
    exact dropping (running_of_expired expired)
  · exact .refl s

theorem releaseEnds_steady (s : State) : Steady s (releaseEnds s) := by
  rw [releaseEnds]
  split
  · next h =>
    obtain ⟨-, expired⟩ := Bool.and_eq_true_iff.mp h
    refine (endStep_steady _).after (endRelease_steady fun ok => ?_)
    obtain ⟨-, ⟨-, -, releasing, -, -⟩, -⟩ := ok
    exact releasing (running_of_expired expired)
  · exact .refl s

theorem foldTimesOut_steady (s : State) : Steady s (foldTimesOut s) := by
  rw [foldTimesOut]
  split
  · exact takeFault_steady _ _ _ _
  · exact .refl s

theorem exitTimesOut_steady (s : State) : Steady s (exitTimesOut s) := by
  rw [exitTimesOut]
  split
  · split
    · exact takeFault_steady _ _ _ _
    · exact .refl s
  · exact .refl s

theorem foldDoneLevel_steady (level : Bool) (s : State) : Steady s (foldDoneLevel level s) := by
  have pinned : Steady s { s with pins := { s.pins with foldDone := level } } := .same rfl
  rw [foldDoneLevel]
  dsimp only
  split
  · next h =>
    obtain ⟨-, folding⟩ := Bool.and_eq_true_iff.mp h
    split
    · exact (endStep_steady _).after (.after (completeFold_steady _ folding) pinned)
    · exact pinned
  · exact pinned

theorem foldFaultLevel_steady (level : Bool) (s : State) : Steady s (foldFaultLevel level s) := by
  rw [foldFaultLevel]
  dsimp only
  split
  · exact (takeFault_steady _ _ _ _).after (.same rfl)
  · exact .same rfl

theorem exitRise_steady (s : State) : Steady s (exitRise s) := by
  rw [exitRise]
  split
  · exact takeFault_steady _ _ _ _
  · next e es entries =>
    have left : Steady s (hand [8] s { s with rel := { s.rel with exitList := es } }) := .ofPockets rfl fun h => by
      unfold PocketOk BuildOk HoldOk FolderOk foldReleasing at h ⊢
      grind [hand_acc, hand_rel, List.length_cons]
    exact (endStep_steady _).after ((releaseTest_steady _).after ((reportOutcome_steady _ _ _ _).after left))

theorem exitEdgeLevel_steady (level : Bool) (s : State) : Steady s (exitEdgeLevel level s) := by
  rw [exitEdgeLevel]
  dsimp only
  split
  · exact (exitRise_steady _).after (.same rfl)
  · exact .same rfl

theorem rejectFullLevel_steady (level : Bool) (s : State) : Steady s (rejectFullLevel level s) :=
  (endStep_steady _).after ((releaseTest_steady _).after (.same rfl))

theorem foldReadyLevel_steady (level : Bool) (s : State) : Steady s (foldReadyLevel level s) :=
  (endStep_steady _).after ((releaseTest_steady _).after (.same rfl))

theorem webPresentLevel_steady (level : Bool) (s : State) : Steady s (webPresentLevel level s) := by
  rw [webPresentLevel]
  dsimp only
  split
  · exact (settleEnd_steady _ _).after ((runoutTest_steady _).after (.same rfl))
  · exact .same rfl

theorem enterHalting_steady (kind : HaltKind) {s : State} (run : s.seq.line = .run) :
    Steady s (enterHalting kind s) := by
  have run : s.seq.line.running = true := by rw [run]; rfl
  exact (settleEnd_steady _ _).after ((requestHalt_steady _ (by rw [changeLine_seq]; rfl)).after
    (changeLine_steady _ run rfl))

theorem paperLowLevel_steady (level : Bool) (s : State) : Steady s (paperLowLevel level s) := by
  rw [paperLowLevel]
  dsimp only
  split
  · next h =>
    simp only [Bool.and_eq_true, decide_eq_true_eq] at h
    exact .after (enterHalting_steady _ h.1.2) (.same rfl)
  · exact .same rfl

theorem estopLevel_steady (level : Bool) (s : State) : Steady s (estopLevel level s) := by
  rw [estopLevel]
  dsimp only
  split
  · exact (takeFault_steady _ _ _ _).after (.same rfl)
  · exact .same rfl

theorem webBreakLevel_steady (level : Bool) (s : State) : Steady s (webBreakLevel level s) := by
  rw [webBreakLevel]
  dsimp only
  split
  · exact (takeFault_steady _ _ _ _).after (.same rfl)
  · exact .same rfl

/-! ### The commands of software -/

theorem Granted.works_eq {s t : State} (g : Granted s t) : t.works = s.works := by
  obtain ⟨-, -, -, ⟨trk, -, pln, acc, rel⟩, tr, seq⟩ := g.line
  rw [State.works, State.aims, trk, pln, acc, rel, tr, seq]
  rfl

theorem place_works (a d : Word) (s : State) : (place a d s).works = s.works := by
  obtain ⟨-, e⟩ | ⟨-, e⟩ := place_cases a d s <;> rw [e] <;> rfl

theorem placeIfReady_works (n : Nat) (s : State) : (placeIfReady n s).works = s.works := by
  rw [placeIfReady]
  split
  · exact place_works _ _ _
  · rfl

theorem recordOutcome_steady (o : CommandOutcome) (line : LineState) (s : State) :
    Steady s (recordOutcome o line s) := by
  refine (offer_steady _ _).after ((latch_steady _ _).after ?_)
  have placed (u : State) : Steady u (placeResult u) :=
    .same ((placeIfReady_works _ _).trans ((placeIfReady_works _ _).trans (placeIfReady_works _ _)))
  exact (placed _).after (.same rfl)

theorem webBreakCheck_steady (s : State) : Steady s (webBreakCheck s) := by
  rw [webBreakCheck]
  split
  · exact .refl s
  · exact takeFault_steady _ _ _ _

theorem estopCheck_steady (s : State) : Steady s (estopCheck s) := by
  rw [estopCheck]
  split
  · exact takeFault_steady _ _ _ _
  · exact .refl s

/-- R175: the path reset leaves the sheet path empty. -/
theorem pathReset_calm (s : State) : Calm s (pathReset s) := by
  have abandoned : Steady s (abandonTickets s) := foldl_steady _ (fun _ _ => makeDisposition_steady _ _ _) _ _
  refine .after (t := abandonTickets s) ⟨fun _ => ?_, id, fun _ => ⟨Nat.zero_le _, fun _ => rfl⟩⟩ abandoned.calm
  unfold PocketOk BuildOk HoldOk FolderOk foldReleasing
  simp [pathReset, Accumulator.emptied, ReleaseUnit.emptied, Timer.stopped]

theorem pathReset_queue (s : State) : (pathReset s).trk.queue = [] := rfl

theorem startRun_calm {s : State} (idle : s.seq.line = .idle) : Calm s (startRun s) := by
  have begun : Calm s (raiseBelt (align (startBlocks s))) :=
    ⟨pocketOk_congr rfl rfl, id, fun _ => ⟨Nat.zero_le _, fun _ => rfl⟩⟩
  refine (webBreakCheck_steady _).calm.after (.after (changeLine_calm _ rfl (fun p => ?_) fun _ => rfl) begun)
  exact (plannerOk_iff s).mp p (by rw [idle]; rfl)

theorem calibrateRun_calm {s : State} (idle : s.seq.line = .idle) : Calm s (calibrateRun s) := by
  have begun : Calm s (align (calibrateBlocks s)) := .same rfl
  refine (webBreakCheck_steady _).calm.after (.after (changeLine_calm _ rfl (fun p => ?_) fun q => ?_) begun)
  · exact (plannerOk_iff s).mp p (by rw [idle]; rfl)
  · exact q.2 (.inl idle)

theorem stopRun_steady {s : State} (admitted : s.seq.line = .run ∨ s.seq.line = .register) :
    Steady s (stopRun s) := by
  rw [stopRun]
  split
  · exact .same rfl
  · next other => exact enterHalting_steady _ (admitted.resolve_right other)

theorem clearHalt_steady {s : State} (run : s.seq.line.running = true) : Steady s (clearHalt s) := by
  rw [clearHalt]
  split
  · exact .refl s
  · exact .ofRunning rfl rfl le_rfl (fun _ => run) (.inl rfl)

theorem clearHalt_seq (s : State) : (clearHalt s).seq = s.seq := by
  rw [clearHalt]
  split <;> rfl

/-- R103: a stop target reported met is one of a line on the run. -/
theorem runoutMet_steady (s : State) : Steady s (runoutMet s) := by
  rw [runoutMet]
  split
  · next h =>
    obtain ⟨-, met⟩ := h
    have run (p : PlannerOk s) : s.seq.line.running = true := by
      by_contra rest
      obtain ⟨-, -, -, -, -, noStop, -⟩ := p (Bool.eq_false_iff.mpr rest)
      rw [noStop] at met
      exact absurd met (by simp)
    refine .after (targetMet_steady fun p => ?_) (.ofRunning rfl rfl le_rfl run (.inl rfl))
    by_contra rest
    obtain ⟨-, -, -, -, -, noStop, -⟩ := p (Bool.eq_false_iff.mpr rest)
    have noStop : s.pln.stop = none := noStop
    rw [noStop] at met
    exact absurd met (by simp)
  · exact .refl s

theorem askRunout_steady (s : State) : Steady s (askRunout s) := by
  rw [askRunout]
  split
  · next h =>
    have run : s.seq.line.running = true := by rw [h.2]; rfl
    exact (runoutMet_steady _).after ((refresh_steady _).after (changeLine_steady _ run rfl))
  · exact .refl s

theorem resumeRun_steady {s : State} (halted : s.seq.line = .halted) : Steady s (resumeRun s) := by
  have run : s.seq.line.running = true := by rw [halted]; rfl
  have run' : (clearHalt s).seq.line.running = true := by rw [clearHalt_seq, run]
  exact (settleEnd_steady _ _).after ((askRunout_steady _).after ((runoutTest_steady _).after
    ((changeLine_steady _ run' rfl).after (clearHalt_steady run))))

theorem endTheRun_calm (s : State) : Calm s (endTheRun s) :=
  (enterIdle_calm fun _ => pathReset_queue s).after (pathReset_calm s)

theorem clearLine_calm (s : State) : Calm s (clearLine s) :=
  (estopCheck_steady _).calm.after ((enterIdle_calm fun _ => pathReset_queue _).after
    ((pathReset_calm _).after (.same rfl)))

/-- R157, R158: a command that is judged well is admitted in the line state, and its own checks pass. -/
theorem judgeCommand_none {code : BitVec 8} {s : State} (h : judgeCommand code s = none) :
    s.seq.startupComplete = true ∧
      ∃ c, commandOf code = some c ∧ c.admitted s.seq.line = true ∧ c.check s = none := by
  rw [judgeCommand] at h
  split at h
  · cases h
  · next up =>
    rw [Bool.not_eq_true, Bool.not_eq_false'] at up
    split at h
    · cases h
    · next c named =>
      split at h
      · next admitted => exact ⟨up, c, named, admitted, h⟩
      · cases h

/-- R158: what an accepted command takes effect in; a refused one has none. -/
theorem commandEffect_cases (code : BitVec 8) (s : State) :
    commandEffect code s = s ∧ (judgeCommand code s ≠ none) ∨
      judgeCommand code s = none ∧ s.seq.startupComplete = true ∧ ∃ c, commandOf code = some c ∧
        c.admitted s.seq.line = true ∧ c.check s = none ∧ commandEffect code s = c.effect s := by
  cases judged : judgeCommand code s with
  | some r => exact .inl ⟨by simp only [commandEffect, judged], nofun⟩
  | none =>
    obtain ⟨up, c, named, admitted, passes⟩ := judgeCommand_none judged
    exact .inr ⟨rfl, up, c, named, admitted, passes, by simp only [commandEffect, judged, named]⟩

theorem effect_calm {c : Command} {s : State} (admitted : c.admitted s.seq.line = true) : Calm s (c.effect s) := by
  cases c with
  | start => exact startRun_calm (of_decide_eq_true admitted)
  | calibrate => exact calibrateRun_calm (of_decide_eq_true admitted)
  | pause => exact (enterHalting_steady _ (of_decide_eq_true admitted)).calm
  | stop => exact (stopRun_steady (by simpa [Command.admitted] using admitted)).calm
  | resume => exact (resumeRun_steady (of_decide_eq_true admitted)).calm
  | endRun => exact endTheRun_calm s
  | clear => exact clearLine_calm s

theorem decideCommand_calm (code : BitVec 8) (tag : Index) (s : State) : Calm s (decideCommand code tag s) := by
  rw [decideCommand]
  split
  · exact .same rfl
  · refine (recordOutcome_steady _ _ _).calm.after ?_
    obtain ⟨e, -⟩ | ⟨-, -, c, -, admitted, -, e⟩ := commandEffect_cases code s <;> rw [e]
    · exact .same rfl
    · exact effect_calm admitted

/-! ### The controller's accesses -/

theorem handSetup_calm (n : Nat) (v : Word) (s : State) : Calm s (handSetup n v s) := by
  rw [handSetup]
  split
  · exact decideCommand_calm _ _ _
  · split
    · exact .same rfl
    · split
      · exact (ticketsLowTest_steady s).calm
      · split <;> exact .same rfl

theorem setupWriteAt_calm (n : Nat) (lanes : Lanes) (data : Word) (s : State) :
    Calm s (setupWriteAt n lanes data s) := by
  rw [setupWriteAt]
  split
  · exact (offer_steady _ _).calm.after (.same rfl)
  · exact (handSetup_calm _ _ _).after (.same rfl)

theorem writeThrough_works (addr : Word) (lanes : Lanes) (data : Word) (s : State) :
    (writeThrough addr lanes data s).works = s.works := by
  rw [writeThrough]
  split <;> rfl

theorem amendTicket_steady (t : Ticket) (one : Bool) (s : State) : Steady s (amendTicket t one s) := by
  rw [amendTicket]
  split
  · exact .refl s
  · exact (offer_steady _ _).after ((addTicketReason_steady _ _ _).after (.same rfl))

theorem amendSlot_steady (slot : Nat) (one : Bool) (s : State) : Steady s (amendSlot slot one s) := by
  rw [amendSlot]
  split
  · exact amendTicket_steady _ _ _
  · exact .refl s

theorem amendFetch_steady (slot : Nat) (one : Bool) (s : State) : Steady s (amendFetch slot one s) := by
  rw [amendFetch]
  split <;> exact .same rfl

theorem handTicketWrite_steady (slot w : Nat) (lanes : Lanes) (s : State) :
    Steady s (handTicketWrite slot w lanes s) := by
  rw [handTicketWrite]
  split
  · exact (amendFetch_steady _ _ _).after (amendSlot_steady _ _ s)
  · exact .refl s

theorem portWrite_calm (addr : Word) (lanes : Lanes) (data : Word) (s : State) :
    Calm s (portWrite addr lanes data s) := by
  have written : Steady s (writeThrough addr lanes data s) := .same (writeThrough_works _ _ _ _)
  rw [portWrite]
  split
  · exact setupWriteAt_calm _ _ _ _
  · exact ((endStep_steady _).after ((handTicketWrite_steady _ _ _ _).after written)).calm
  · exact written.calm
  · exact written.calm
  · exact written.calm
  · exact (offer_steady _ _).calm.after (.same rfl)

theorem portRead_calm (addr : Word) (lanes : Lanes) (s : State) : Calm s (portRead addr lanes s) := by
  rw [portRead]
  split
  · exact (offer_steady _ _).calm.after (.same rfl)
  all_goals exact .same rfl

/-! ### The part's own traffic -/

theorem completeFetch_steady (w0 w1 : Word) (s : State) : Steady s (completeFetch w0 w1 s) := by
  have entered (t : Ticket) (one : Option Bool) (u : State) : Steady u (offerAmended t one (offerInvalid t u)) := by
    have first : Steady u (offerInvalid t u) := by
      rw [offerInvalid]
      split
      · exact offer_steady _ _
      · exact .refl u
    refine .after ?_ first
    rw [offerAmended.eq_def]
    split
    · exact offer_steady _ _
    · exact .refl _
  have decided (u : State) : Steady u (ticketEntered u) := by
    rw [ticketEntered]
    split
    · exact collate_steady u
    · exact .refl u
  rw [completeFetch]
  split
  · exact .same rfl
  · exact (settleEnd_steady _ _).after ((decided _).after ((entered _ _ _).after (.same rfl)))

theorem returnData_steady (s : State) : Steady s (returnData s) := by
  rw [returnData]
  split
  · exact .same rfl
  · exact completeFetch_steady _ _ _
  all_goals exact .refl s

theorem completeStartup_steady (s : State) : Steady s (completeStartup s) :=
  (estopCheck_steady _).after (.same rfl)

theorem advanceStartup_steady (s : State) : Steady s (advanceStartup s) := by
  rw [advanceStartup]
  dsimp only
  split
  · exact (completeStartup_steady _).after (.same rfl)
  · exact .same rfl

theorem notePlaced_works (n : Nat) (v : Word) (s : State) : (notePlaced n v s).works = s.works := by
  rw [notePlaced]
  split <;> rfl

theorem startupStep_steady (s : State) : Steady s (startupStep s) := by
  rw [startupStep]
  split
  · rw [startupSetup]
    split
    · exact advanceStartup_steady s
    · split
      · exact (advanceStartup_steady _).after (.same (place_works _ _ _))
      · exact .refl s
  · split
    · rw [startupStatus]
      split
      · exact (advanceStartup_steady _).after (.same ((notePlaced_works _ _ _).trans (place_works _ _ _)))
      · exact .refl s
    · exact .refl s

theorem placeWords_works (i : Nat) (ws : List Word) (s : State) : (placeWords i ws s).works = s.works := by
  induction ws generalizing i s with
  | nil => rfl
  | cons w ws ih => exact (ih _ _).trans (place_works _ _ _)

theorem retire_steady (s : State) : Steady s (retire s) := .same rfl

theorem placeDisposition_steady (d : Disposition) (rest : List Disposition) (s : State) :
    Steady s (placeDisposition d rest s) := by
  have placed : Steady s (place (slotAddr d.ring 7 s) d.word s) := .same (place_works _ _ _)
  rw [placeDisposition]
  generalize place (slotAddr d.ring 7 s) d.word s = u at placed ⊢
  exact (retire_steady _).after ((offer_steady _ _).after (placed.trans (.same rfl)))

theorem dispose_steady (s : State) : Steady s (dispose s) := by
  rw [dispose]
  split
  · exact .refl s
  · split
    · exact placeDisposition_steady _ _ _
    · exact .refl s

theorem advanceRing_steady (rest : List Staged) (s : State) : Steady s (advanceRing rest s) := .same rfl

theorem moveRecord_steady (s : State) : Steady s (moveRecord s) := by
  rw [moveRecord]
  split
  · exact .refl s
  · next r rest _ =>
    split
    · have moved : Steady s (advanceRing rest (placeWords 0 r.words s)) :=
        (advanceRing_steady rest _).after (.same (placeWords_works _ _ _))
      rw [eventsTest]
      split
      · exact (latch_steady _ _).after moved
      · exact moved
    · exact .refl s

theorem placeDue_steady (s : State) : Steady s (placeDue s) := by
  rw [placeDue]
  split
  · exact .same (place_works _ _ _)
  · exact .refl s

theorem reportPhase_steady (s : State) : Steady s (reportPhase s) := by
  rw [reportPhase]
  split
  · exact .same (place_works _ _ _)
  · exact .refl s

/-! ### Steps of the line -/

/-- What an event of the line leaves of the fixed part: the inputs, the counters, the clock and the snapshot count are
masked. -/
def Fixed.outer (f : Fixed) : Fixed :=
  { f with pins := Pins.quiet, web := 0, belt := 0, msClock := 0, history := [], vm := 0, command := 0, snapCount := 0
           snapDue := false }

/-- What holds of every effect on the line, a command's too: the bus side, the ticket ring and the report indexes stay,
and the line's outputs and the staging FIFO stay within their rules. -/
structure OffBus (s t : State) : Prop where
  outer : t.fixed.outer = s.fixed.outer
  shadow : t.path.shadow = s.path.shadow ∨ ∃ p, p < 12 ∧ t.path.shadow = s.path.shadow.set 12 (word p)
  line : LineOk s → LineOk t
  stage : StageOk s → StageOk t

/-- The same, and FAULT is not left. -/
structure LineStep (s t : State) : Prop extends OffBus s t where
  fault : s.seq.line = .fault → t.seq.line = .fault

theorem OffBus.trans {s t u : State} (h : OffBus s t) (k : OffBus t u) : OffBus s u := by
  refine ⟨k.outer.trans h.outer, ?_, k.line ∘ h.line, k.stage ∘ h.stage⟩
  obtain e | ⟨p, hp, e⟩ := k.shadow
  · rw [e]; exact h.shadow
  · refine .inr ⟨p, hp, ?_⟩
    obtain d | ⟨q, -, d⟩ := h.shadow <;> rw [e, d]
    exact List.set_set ..

theorem LineStep.trans {s t u : State} (h : LineStep s t) (k : LineStep t u) : LineStep s u :=
  ⟨h.toOffBus.trans k.toOffBus, k.fault ∘ h.fault⟩

theorem LineStep.after {s t u : State} (k : LineStep t u) (h : LineStep s t) : LineStep s u := h.trans k

theorem KeepsWeb.step {s t : State} (h : KeepsWeb s t) : LineStep s t :=
  ⟨⟨congrArg Fixed.outer h.fixed, h.shadow, h.line, h.stage⟩, h.fault⟩

theorem Keeps.step {s t : State} (h : Keeps s t) : LineStep s t := h.web.step

/-- Inputs and counters taken up. -/
theorem LineStep.presented {s t : State} (ho : t.fixed.outer = s.fixed.outer) (hs : t.path.shadow = s.path.shadow)
    (hm : t.moving = s.moving) (hg : t.rep.staging = s.rep.staging) : LineStep s t := by
  have line : t.seq.line = s.seq.line := congrArg Prod.fst hm
  have up : t.seq.startupComplete = s.seq.startupComplete := congrArg Fixed.startup ho
  exact ⟨⟨ho, .inl hs, LineOk_congr hm, fun k => by simpa only [StageOk, hg, up] using k⟩, fun e => line.trans e⟩

theorem LineStep.refl (s : State) : LineStep s s := .presented rfl rfl rfl rfl

theorem stepped_step (s : State) : LineStep s s.stepped := by
  have same : s.stepped.fixed.outer = s.fixed.outer ∧ s.stepped.path = s.path ∧ s.stepped.rep = s.rep ∧
      s.stepped.seq = s.seq := by
    rw [State.stepped]
    split <;> exact ⟨rfl, rfl, rfl, rfl⟩
  obtain ⟨outer, path, rep, seq⟩ := same
  refine ⟨⟨outer, .inl (by rw [path]), stepped_line s, fun h => ?_⟩, fun h => by rwa [seq]⟩
  rwa [StageOk, rep, seq]

theorem emitRest_step (n : Nat) (s : State) : LineStep s (emitRest n s) := by
  induction n generalizing s with
  | zero => exact .refl s
  | succ n ih => exact ((stepped_step s).trans (pulse_keeps s).step).trans (ih _)

theorem tickClocks_step (s : State) : LineStep s (tickClocks s) := by
  have tick : s.rep.tick.staging = s.rep.staging ∧ s.rep.tick.writeIndex = s.rep.writeIndex ∧
      s.rep.tick.writeSlot = s.rep.writeSlot ∧ s.rep.tick.snapValues = s.rep.snapValues ∧
      s.rep.tick.snapPlaced = s.rep.snapPlaced := by
    rw [Reporter.tick]
    split <;> exact ⟨rfl, rfl, rfl, rfl, rfl⟩
  obtain ⟨staging, writeIndex, writeSlot, snapValues, snapPlaced⟩ := tick
  refine .presented ?_ rfl rfl staging
  simp only [Fixed.outer, State.fixed, tickClocks, writeIndex, writeSlot, snapValues, snapPlaced]

theorem webStep_step (d : Word) (s : State) : LineStep s (webStep d s) :=
  (webStep_keeps d s).step.after (.presented rfl rfl rfl rfl)

theorem beltMoved_step (d : Word) (s : State) : LineStep s (beltMoved d s) :=
  (beltMoved_keeps d s).step.after (.presented rfl rfl rfl rfl)

theorem webChannels_step (a b : Bool) (s : State) : LineStep s (webChannels a b s) := by
  have moved (d : Word) : LineStep s (endMoved (webStep d { s with pins := { s.pins with webA := a, webB := b } })) :=
    (endMoved_keeps _).step.after ((webStep_step d _).after (.presented rfl rfl rfl rfl))
  rw [webChannels]
  split
  · exact .presented rfl rfl rfl rfl
  · exact moved 1
  · exact moved (-1)
  · exact ((takeFault_keeps _ _ _ _).trans (endStep_keeps _)).step.after (.presented rfl rfl rfl rfl)

theorem beltChannels_step (a b : Bool) (s : State) : LineStep s (beltChannels a b s) := by
  have moved (d : Word) :
      LineStep s (settleEnd s (beltMoved d { s with pins := { s.pins with beltA := a, beltB := b } })) :=
    (settleEnd_keeps _ _).step.after ((beltMoved_step d _).after (.presented rfl rfl rfl rfl))
  rw [beltChannels]
  split
  · exact .presented rfl rfl rfl rfl
  · exact moved 1
  · exact moved (-1)
  · exact ((takeFault_keeps _ _ _ _).trans (endStep_keeps _)).step.after (.presented rfl rfl rfl rfl)

/-- An input takes a level, and the line acts on it. -/
theorem LineStep.ofPins {s t : State} (p : Pins) (h : Keeps { s with pins := p } t) : LineStep s t :=
  h.step.after (.presented rfl rfl rfl rfl)

theorem setGauge_step (g : Gauge) (s : State) : LineStep s (setGauge g s) := .presented rfl rfl rfl rfl

/-! ### The rows -/

/-- A step of the part's own traffic. -/
inductive OwnStep (s : State) : State → Prop where
  | startFetch : OwnStep s (startFetch s)
  | readFetch : OwnStep s (readFetch s)
  | returnData (g : Gauge) : OwnStep s (returnData (setGauge g s))
  | grantQueue : OwnStep s (grantTheQueue s)
  | startup : OwnStep s (startupStep s)
  | dispose : OwnStep s (dispose s)
  | moveRecord : OwnStep s (moveRecord s)
  | placeDue : OwnStep s (placeDue s)
  | snapshot : OwnStep s (takeSnapshot s)
  | reportPhase : OwnStep s (reportPhase s)

/-- What a command can be: a pin reset, an event of the line, an access of the controller or a step of the part's own
traffic. -/
inductive RowStep (s : State) (c : Instr) : State → Prop where
  | reset (st : Straps) (p : Pins) (h : c = .pinReset st p) : RowStep s c (State.afterPinReset st p s.mem s.pending)
  | line {t : State} (h : LineStep s t) (k : CalmWeb s t) : RowStep s c t
  | read (addr : Word) (lanes : Lanes) : RowStep s c (controllerReads addr lanes s)
  | write (addr : Word) (lanes : Lanes) (data : Word) : RowStep s c (controllerWrites addr lanes data s)
  | own {t : State} (h : OwnStep s t) : RowStep s c t

theorem exec_row (c : Instr) (s : State) : ∃ t, exec c s = .next t ∧ RowStep s c t := by
  cases c with
  | pinReset st p => exact ⟨_, rfl, .reset st p rfl⟩
  | webMotionEvent a b g =>
    exact ⟨_, rfl, .line ((webChannels_step a b _).after (setGauge_step g s)) ((webChannels_calm a b _).after rfl (.same rfl))⟩
  | beltStep a b g =>
    exact ⟨_, rfl, .line ((beltChannels_step a b _).after (setGauge_step g s)) (.after (beltChannels_steady a b _).web rfl (.same rfl))⟩
  | markEdge dark => exact ⟨_, rfl, .line (.ofPins _ (markChange_keeps dark s)) (markChange_calm dark s)⟩
  | leadingEdge => exact ⟨_, rfl, .line (.ofPins _ (beltEdgeRises_keeps s)) (beltEdgeRises_steady s).web⟩
  | trailingEdge => exact ⟨_, rfl, .line (.ofPins _ (beltEdgeFalls_keeps s)) (beltEdgeFalls_steady s).web⟩
  | tick =>
    exact ⟨_, rfl, .line ((tickNow_keeps _).step.after ((tickClocks_step _).after (emitRest_step _ s)))
      ((emitRest_steady _ s).calm.trans (tickNow_calm _)).web⟩
  | stepPulse => exact ⟨_, rfl, .line ((pulse_keeps s).step.after (stepped_step s)) (pulse_steady s).web⟩
  | snapEnd =>
    refine ⟨_, rfl, .line (snapEnds_keeps s).step (.same ?_)⟩
    rw [snapEnds]
    split <;> rfl
  | jogEnd g => exact ⟨_, rfl, .line ((jogEnds_keeps _).step.after (setGauge_step g s)) (.after (jogEnds_steady _).web rfl (.same rfl))⟩
  | dropEnd => exact ⟨_, rfl, .line (dropEnds_keeps s).step (dropEnds_steady s).web⟩
  | releaseEnd => exact ⟨_, rfl, .line (releaseEnds_keeps s).step (releaseEnds_steady s).web⟩
  | foldTimeout => exact ⟨_, rfl, .line (foldTimesOut_keeps s).step (foldTimesOut_steady s).web⟩
  | exitMissing => exact ⟨_, rfl, .line (exitTimesOut_keeps s).step (exitTimesOut_steady s).web⟩
  | foldDone level => exact ⟨_, rfl, .line (.ofPins _ (foldDoneLevel_keeps level s)) (foldDoneLevel_steady level s).web⟩
  | foldFault level => exact ⟨_, rfl, .line (.ofPins _ (foldFaultLevel_keeps level s)) (foldFaultLevel_steady level s).web⟩
  | exitEdge level => exact ⟨_, rfl, .line (.ofPins _ (exitEdgeLevel_keeps level s)) (exitEdgeLevel_steady level s).web⟩
  | rejectFullChange level =>
    exact ⟨_, rfl, .line (.ofPins _ (rejectFullLevel_keeps level s)) (rejectFullLevel_steady level s).web⟩
  | foldReadyChange level =>
    exact ⟨_, rfl, .line (.ofPins _ (foldReadyLevel_keeps level s)) (foldReadyLevel_steady level s).web⟩
  | webPresentFall level g =>
    exact ⟨_, rfl, .line (.after (.ofPins _ (webPresentLevel_keeps level _)) (setGauge_step g s))
      (.after (webPresentLevel_steady level _).web rfl (.same rfl))⟩
  | paperLow level => exact ⟨_, rfl, .line (.ofPins _ (paperLowLevel_keeps level s)) (paperLowLevel_steady level s).web⟩
  | estop level => exact ⟨_, rfl, .line (.ofPins _ (estopLevel_keeps level s)) (estopLevel_steady level s).web⟩
  | webBreak level => exact ⟨_, rfl, .line (.ofPins _ (webBreakLevel_keeps level s)) (webBreakLevel_steady level s).web⟩
  | controllerRead addr lanes => exact ⟨_, rfl, .read addr lanes⟩
  | controllerWrite addr lanes data => exact ⟨_, rfl, .write addr lanes data⟩
  | ticketWrite addr lanes data => exact ⟨_, rfl, .write addr lanes data⟩
  | setupWrite n lanes data => exact ⟨_, rfl, .write _ lanes data⟩
  | noneCommand tag => exact ⟨_, rfl, .write _ _ _⟩
  | start tag => exact ⟨_, rfl, .write _ _ _⟩
  | calibrate tag => exact ⟨_, rfl, .write _ _ _⟩
  | pause tag => exact ⟨_, rfl, .write _ _ _⟩
  | stop tag => exact ⟨_, rfl, .write _ _ _⟩
  | resume tag => exact ⟨_, rfl, .write _ _ _⟩
  | endRun tag => exact ⟨_, rfl, .write _ _ _⟩
  | clear tag => exact ⟨_, rfl, .write _ _ _⟩
  | interruptAcknowledge lanes data => exact ⟨_, rfl, .write _ _ _⟩
  | interruptEnable lanes data => exact ⟨_, rfl, .write _ _ _⟩
  | publishIndex lanes data => exact ⟨_, rfl, .write _ _ _⟩
  | eventReadIndex lanes data => exact ⟨_, rfl, .write _ _ _⟩
  | ticketsLowMark lanes data => exact ⟨_, rfl, .write _ _ _⟩
  | eventRingLayout slots lanes data => exact ⟨_, rfl, .write _ _ _⟩
  | unknownCommand code tag => exact ⟨_, rfl, .write _ _ _⟩
  | fetchStart => exact ⟨_, rfl, .own .startFetch⟩
  | fetchRead => exact ⟨_, rfl, .own .readFetch⟩
  | fetchDataReturn g => exact ⟨_, rfl, .own (.returnData g)⟩
  | queueGrant => exact ⟨_, rfl, .own .grantQueue⟩
  | startupWrite => exact ⟨_, rfl, .own .startup⟩
  | dispositionPlace => exact ⟨_, rfl, .own .dispose⟩
  | eventRecordMove => exact ⟨_, rfl, .own .moveRecord⟩
  | statusPlace => exact ⟨_, rfl, .own .placeDue⟩
  | snapshot => exact ⟨_, rfl, .own .snapshot⟩
  | setupWord12Report => exact ⟨_, rfl, .own .reportPhase⟩

/-- The same of a step: with no command waiting the state stays. -/
theorem step_row {s t : State} (h : step s = .next t) :
    t = s ∨ ∃ c rest, s.pending = c :: rest ∧ RowStep (s.withPending rest) c t := by
  rw [step] at h
  split at h
  · exact .inl (Host.Outcome.next.inj h).symm
  · next c rest waiting =>
    obtain ⟨u, e, row⟩ := exec_row c (s.withPending rest)
    rw [e] at h
    exact .inr ⟨c, rest, waiting, Host.Outcome.next.inj h ▸ row⟩

/-! ### The sheet path and the pockets over every step -/

theorem OwnStep.calm {s t : State} (h : OwnStep s t) : Calm s t := by
  cases h with
  | startFetch =>
    rw [Machine.startFetch]
    split <;> exact .same rfl
  | readFetch =>
    rw [Machine.readFetch]
    split
    · exact .same (granted_granted _ _).works_eq
    · exact .same rfl
  | returnData g => exact .after (returnData_steady _).calm (.same rfl)
  | grantQueue =>
    rw [grantTheQueue]
    split
    · exact .same rfl
    · exact .same (granted_granted _ _).works_eq
  | startup => exact (startupStep_steady s).calm
  | dispose => exact (dispose_steady s).calm
  | moveRecord => exact (moveRecord_steady s).calm
  | placeDue => exact (placeDue_steady s).calm
  | snapshot =>
    rw [takeSnapshot]
    split <;> exact .same rfl
  | reportPhase => exact (reportPhase_steady s).calm

theorem controllerReads_calm (addr : Word) (lanes : Lanes) (s : State) : Calm s (controllerReads addr lanes s) :=
  (portRead_calm _ _ _).after (.same (granted_granted _ _).works_eq)

theorem controllerWrites_calm (addr : Word) (lanes : Lanes) (data : Word) (s : State) :
    Calm s (controllerWrites addr lanes data s) :=
  (portWrite_calm _ _ _ _).after (.same (granted_granted _ _).works_eq)

theorem afterPinReset_calm (st : Straps) (p : Pins) (s : State) (mem : Memory) (pending : List Instr) :
    Calm s (State.afterPinReset st p mem pending) := by
  refine ⟨fun _ => ?_, fun _ => (plannerOk_iff _).mpr fun _ => rfl, fun _ => ⟨Nat.zero_le _, fun _ => rfl⟩⟩
  unfold PocketOk BuildOk HoldOk FolderOk foldReleasing
  simp [State.afterPinReset, Accumulator.reset, ReleaseUnit.reset, Timer.stopped]

theorem RowStep.calm {s t : State} {c : Instr} (h : RowStep s c t) : CalmWeb s t := by
  cases h with
  | reset st p => exact (afterPinReset_calm st p s _ _).web
  | line _ k => exact k
  | read addr lanes => exact (controllerReads_calm _ _ _).web
  | write addr lanes data => exact (controllerWrites_calm _ _ _ _).web
  | own h => exact h.calm.web

/-- Every step keeps the pockets, the planner and the sheet queue consistent. -/
theorem step_calm {s t : State} (h : step s = .next t) : CalmWeb s t := by
  obtain rfl | ⟨c, rest, -, row⟩ := step_row h
  · exact .same rfl
  · exact row.calm.after rfl (.same rfl)

/-- Settles O5: `step_calm`, with the lead-in records bounded by the ranges of setup words 9 and 13. -/
theorem stepKeepsSheetPath : Obligations.StepKeepsSheetPath := by
  unfold Obligations.StepKeepsSheetPath
  exact fun s t h => ⟨(step_calm h).planner, fun shadow => (step_calm h).sheets (leadInsFit_of_shadowOk shadow)⟩

/-- Settles O6: `step_calm`, from one lemma for each operation on the pockets. -/
theorem stepKeepsPockets : Obligations.StepKeepsPockets := by
  unfold Obligations.StepKeepsPockets
  exact fun s t ok h => (step_calm h).pockets ok

/-! ### The effects of commands on the line's outputs -/

theorem reportMet_line (s : State) :
    (reportMet s).seq.line = s.seq.line ∨ (reportMet s).seq.line = .halted := by
  have completed : (if (s.pln.cause.halts && decide (s.seq.line = .halting)) = true then
      haltComplete { s with tr := { s.tr with metTold := true }, pln := { s.pln with parked := true } }
      else { s with tr := { s.tr with metTold := true }, pln := { s.pln with parked := true } }).seq.line = s.seq.line ∨
    (if (s.pln.cause.halts && decide (s.seq.line = .halting)) = true then
      haltComplete { s with tr := { s.tr with metTold := true }, pln := { s.pln with parked := true } }
      else { s with tr := { s.tr with metTold := true }, pln := { s.pln with parked := true } }).seq.line = .halted := by
    split
    · exact .inr (haltComplete_line _)
    · exact .inl rfl
  rw [reportMet]
  split
  · exact completed
  · simpa only [parkTest_seq] using completed

/-- A target met can only complete the halt. -/
theorem targetMet_line (s : State) :
    (targetMet s).seq.line = s.seq.line ∨ (targetMet s).seq.line = .halted := by
  rw [targetMet]
  split
  · exact reportMet_line _
  · exact .inl rfl

theorem takeTarget_line (old new : Option Word) (s : State) :
    (takeTarget old new s).seq.line = s.seq.line ∨ (takeTarget old new s).seq.line = .halted := by
  obtain ⟨e, -⟩ | ⟨t, -, -, -, ⟨-, e⟩ | ⟨-, e⟩⟩ := takeTarget_cases old new s <;> rw [e]
  · exact .inl rfl
  · exact .inl rfl
  · exact targetMet_line _

theorem refreshOnce_line (s : State) :
    (refreshOnce s).seq.line = s.seq.line ∨ (refreshOnce s).seq.line = .halted := by
  rw [refreshOnce]
  split
  · dsimp only
    split
    · exact .inl (retell_line _ _)
    · exact (takeTarget_line _ _ _).imp_left fun e => e.trans (retell_line _ _)
  · exact .inl rfl

/-- Naming the planner afresh can only complete the halt. -/
theorem refresh_line (s : State) : (refresh s).seq.line = s.seq.line ∨ (refresh s).seq.line = .halted := by
  rw [refresh]
  obtain e | e := refreshOnce_line (refreshOnce s)
  · exact (refreshOnce_line s).imp e.trans e.trans
  · exact .inr e

theorem runoutMet_step {s : State} (h : s.seq.line ≠ .fault) : LineStep s (runoutMet s) := by
  rw [runoutMet]
  split
  · exact ((taking_keeps _ h).trans (targetMet_keeps fun _ => h)).step
  · exact .refl s

theorem askRunout_step (s : State) : LineStep s (askRunout s) := by
  rw [askRunout]
  split
  · next h =>
    have onWeb : s.seq.line.onWeb = true := by rw [h.2]; rfl
    have halting : (changeLine .halting .runout s).seq.line = .halting := by rw [changeLine_seq]
    refine (runoutMet_step ?_).after ((refresh_keeps _).step.after (changeLine_onWeb onWeb rfl (.inr (.inl rfl))).step)
    obtain e | e := refresh_line (changeLine .halting .runout s) <;> rw [e]
    · rw [halting]; decide
    · decide
  · exact .refl s

theorem clearHalt_step (s : State) : LineStep s (clearHalt s) := by
  rw [clearHalt]
  split
  · exact .refl s
  · exact .presented rfl rfl rfl rfl

theorem resumeRun_step {s : State} (halted : s.seq.line = .halted) : LineStep s (resumeRun s) := by
  have onWeb : (clearHalt s).seq.line.onWeb = true := by rw [clearHalt_seq, halted]; rfl
  exact (settleEnd_keeps _ _).step.after ((askRunout_step _).after ((runoutTest_keeps _).step.after
    ((changeLine_onWeb onWeb rfl (.inl rfl)).step.after (clearHalt_step s))))

theorem stopRun_step {s : State} (admitted : s.seq.line = .run ∨ s.seq.line = .register) : LineStep s (stopRun s) := by
  rw [stopRun]
  split
  · exact .presented rfl rfl rfl rfl
  · next other => exact (enterHalting_keeps _ (admitted.resolve_right other)).step

theorem webBreakCheck_step (s : State) : LineStep s (webBreakCheck s) := by
  rw [webBreakCheck]
  split
  · exact .refl s
  · exact (takeFault_keeps _ _ _ s).step

theorem estopCheck_step (s : State) : LineStep s (estopCheck s) := by
  rw [estopCheck]
  split
  · exact (takeFault_keeps _ _ _ s).step
  · exact .refl s

/-- A change into a line state in which nothing runs. -/
theorem changeLine_step {s t : State} {new : LineState} (rest : new.running = false) (kind : HaltKind)
    (outer : t.fixed.outer = s.fixed.outer) (shadow : t.path.shadow = s.path.shadow)
    (staging : t.rep.staging = s.rep.staging) (line : LineOk s → LineOk (t.setLine new kind)) :
    OffBus s (changeLine new kind t) := by
  have up : t.seq.startupComplete = s.seq.startupComplete := congrArg Fixed.startup outer
  rw [changeLine_at_rest rest]
  exact .trans (t := hand [0] t (t.setLine new kind)) ⟨outer, .inl shadow, line, fun k =>
      show StageOk t by simpa only [StageOk, staging, up] using k⟩
    (offer_keeps _ _).step.toOffBus

theorem startRun_step {s : State} (idle : s.seq.line = .idle) : LineStep s (startRun s) := by
  have entered : OffBus s (changeLine .register .none (raiseBelt (align (startBlocks s)))) := by
    refine changeLine_step rfl _ rfl rfl rfl fun ok => ?_
    obtain ⟨-, -, -, still, figures, -⟩ := ok
    rw [idle, moveOk, decide_eq_true_eq] at still
    exact ⟨rfl, rfl, rfl, by simp [moveOk, raiseBelt, align, startBlocks, State.setLine, still], figures, rfl⟩
  refine (webBreakCheck_step _).after ⟨entered, fun f => ?_⟩
  rw [idle] at f
  cases f

theorem calibrateRun_step {s : State} (idle : s.seq.line = .idle) : LineStep s (calibrateRun s) := by
  have entered : OffBus s (changeLine .calibrate .none (align (calibrateBlocks s))) := by
    refine changeLine_step rfl _ rfl rfl rfl fun ok => ?_
    obtain ⟨-, -, belt, still, figures, -⟩ := ok
    rw [idle] at belt
    rw [idle, moveOk, decide_eq_true_eq] at still
    exact ⟨rfl, rfl, belt, by simp [moveOk, align, calibrateBlocks, State.setLine, still], figures, rfl⟩
  refine (webBreakCheck_step _).after ⟨entered, fun f => ?_⟩
  rw [idle] at f
  cases f

theorem pathReset_step (s : State) : LineStep s (pathReset s) :=
  have emptied : LineStep (abandonTickets s) (pathReset s) := .presented rfl rfl rfl rfl
  emptied.after (abandonTickets_keeps s).step

/-- The line enters IDLE, from FAULT too. -/
theorem enterIdle_offBus (s : State) : OffBus s (enterIdle s) := by
  rw [enterIdle]
  refine changeLine_step rfl _ ?_ ?_ ?_ fun ok => ?_
  · rw [immediateStop]; split <;> rfl
  · rw [immediateStop]; split <;> rfl
  · rw [immediateStop]; split <;> rfl
  · obtain ⟨-, -, -, -, figures, -⟩ := ok
    rw [immediateStop]
    split
    · next still => exact ⟨rfl, rfl, rfl, decide_eq_true still, figures, rfl⟩
    · exact ⟨rfl, rfl, rfl, rfl, rfl, rfl⟩

theorem endTheRun_step {s : State} (halted : s.seq.line = .halted) : LineStep s (endTheRun s) := by
  refine ⟨(pathReset_step s).toOffBus.trans (enterIdle_offBus _), fun f => ?_⟩
  rw [halted] at f
  cases f

theorem clearLine_offBus (s : State) : OffBus s (clearLine s) := by
  have cleared : LineStep s (clearFaults s) := .presented rfl rfl rfl rfl
  exact ((cleared.trans (pathReset_step _)).toOffBus.trans (enterIdle_offBus _)).trans (estopCheck_step _).toOffBus

/-- A command that is admitted keeps the rules of the line, and all but CLEAR keep FAULT. -/
theorem effect_step {c : Command} {s : State} (admitted : c.admitted s.seq.line = true) :
    OffBus s (c.effect s) ∧ (c ≠ .clear → LineStep s (c.effect s)) := by
  have all (h : LineStep s (c.effect s)) : OffBus s (c.effect s) ∧ (c ≠ .clear → LineStep s (c.effect s)) :=
    ⟨h.toOffBus, fun _ => h⟩
  cases c with
  | start => exact all (startRun_step (of_decide_eq_true admitted))
  | calibrate => exact all (calibrateRun_step (of_decide_eq_true admitted))
  | pause => exact all (enterHalting_keeps _ (of_decide_eq_true admitted)).step
  | stop => exact all (stopRun_step (by simpa [Command.admitted] using admitted))
  | resume => exact all (resumeRun_step (of_decide_eq_true admitted))
  | endRun => exact all (endTheRun_step (of_decide_eq_true admitted))
  | clear => exact ⟨clearLine_offBus s, fun h => absurd rfl h⟩

/-! ### Steps of the bus side -/

/-- What the bus side leaves of the fixed part: start-up, the straps, the event write index, the ring and its tickets. -/
def Fixed.bus (f : Fixed) :=
  (f.startup, f.startPos, f.straps, f.writeIndex, f.tickets, f.fetchIndex, f.retireIndex)

/-- What holds of every access at the port and of every grant: the ring and its tickets stay, the line's outputs and the
staging FIFO stay within their rules, and no fetch begins. -/
structure OnBus (s t : State) : Prop where
  bus : t.fixed.bus = s.fixed.bus
  line : LineOk s → LineOk t
  stage : StageOk s → StageOk t
  fetching : t.tix.fetch ≠ .idle → s.tix.fetch ≠ .idle

/-- The same, and FAULT is not left. -/
structure BusStep (s t : State) : Prop extends OnBus s t where
  fault : s.seq.line = .fault → t.seq.line = .fault

theorem OnBus.trans {s t u : State} (h : OnBus s t) (k : OnBus t u) : OnBus s u :=
  ⟨k.bus.trans h.bus, k.line ∘ h.line, k.stage ∘ h.stage, h.fetching ∘ k.fetching⟩

theorem OnBus.after {s t u : State} (k : OnBus t u) (h : OnBus s t) : OnBus s u := h.trans k

theorem BusStep.trans {s t u : State} (h : BusStep s t) (k : BusStep t u) : BusStep s u :=
  ⟨h.toOnBus.trans k.toOnBus, k.fault ∘ h.fault⟩

theorem BusStep.after {s t u : State} (k : BusStep t u) (h : BusStep s t) : BusStep s u := h.trans k

theorem OffBus.bus {s t : State} (h : OffBus s t) : OnBus s t := by
  have fetch : t.tix.fetch = s.tix.fetch := congrArg Fixed.fetch h.outer
  exact ⟨(congrArg Fixed.bus h.outer :), h.line, h.stage, fun k => by rwa [fetch] at k⟩

theorem LineStep.bus {s t : State} (h : LineStep s t) : BusStep s t := ⟨h.toOffBus.bus, h.fault⟩

/-- Queue, memory, port and working values changed: nothing of the line. -/
theorem BusStep.presented {s t : State} (bus : t.fixed.bus = s.fixed.bus) (moving : t.moving = s.moving)
    (staging : t.rep.staging = s.rep.staging) (fetching : t.tix.fetch ≠ .idle → s.tix.fetch ≠ .idle) :
    BusStep s t := by
  have line : t.seq.line = s.seq.line := congrArg Prod.fst moving
  have up : t.seq.startupComplete = s.seq.startupComplete := congrArg Prod.fst bus
  exact ⟨⟨bus, LineOk_congr moving, fun k => by simpa only [StageOk, staging, up] using k, fetching⟩,
    fun e => line.trans e⟩

theorem BusStep.refl (s : State) : BusStep s s := .presented rfl rfl rfl id

theorem Granted.bus {s t : State} (h : Granted s t) (fetching : t.tix.fetch ≠ .idle → s.tix.fetch ≠ .idle) :
    BusStep s t := by
  obtain ⟨-, -, -, -, tr, seq⟩ := h.line
  refine .presented ?_ ?_ h.staging fetching
  · simp only [Fixed.bus, State.fixed, seq, h.startPos, h.straps, h.writeIndex, h.table, h.fetchIndex, h.retireIndex]
  · simp only [State.moving, seq, tr]

/-- A grant reads for a fetch in progress only. -/
theorem makeGrant_fetching (g : Grant) (s : State) (h : (makeGrant g s).tix.fetch ≠ .idle) : s.tix.fetch ≠ .idle := by
  have drained (b : Bool) : (drainQueue b s).tix = s.tix := by
    rw [drainQueue]
    split <;> rfl
  cases g with
  | burst => rwa [makeGrant, drained] at h
  | queue => rwa [makeGrant, drained] at h
  | controller => exact h
  | fetch =>
    intro idle
    rw [makeGrant, grantFetchRead.eq_def, idle] at h
    exact h idle

theorem granted_bus (want : Party) (s : State) : BusStep s (granted want s) := by
  refine (granted_granted want s).bus ?_
  rw [granted]
  generalize s.path.queue.length + 2 = n
  induction n generalizing s with
  | zero => exact id
  | succ n ih =>
    rw [grantUntil]
    split
    · exact id
    · split
      · exact makeGrant_fetching _ s
      · exact makeGrant_fetching _ s ∘ ih _

/-! ### Placements -/

theorem place_granted (a d : Word) (s : State) : Granted s (place a d s) := by
  obtain ⟨-, e⟩ | ⟨-, e⟩ := place_cases a d s <;> rw [e] <;>
    exact granted_of_eqs rfl rfl rfl rfl rfl rfl rfl rfl rfl rfl rfl rfl rfl rfl rfl rfl rfl rfl rfl rfl rfl rfl rfl rfl rfl

@[simp] theorem place_tix (a d : Word) (s : State) : (place a d s).tix = s.tix := by
  rw [place]
  split <;> rfl

theorem placeStatus_granted (n : Nat) (s : State) : Granted s (placeStatus n s) := by
  rw [placeStatus]
  exact (place_granted _ _ s).trans
    (granted_of_eqs rfl rfl rfl rfl rfl rfl rfl rfl rfl rfl rfl rfl rfl rfl rfl rfl rfl rfl rfl rfl rfl rfl rfl rfl rfl)

theorem placeIfReady_granted (n : Nat) (s : State) : Granted s (placeIfReady n s) := by
  rw [placeIfReady]
  split
  · exact placeStatus_granted n s
  · exact .refl s

theorem placeResult_granted (s : State) : Granted s (placeResult s) :=
  ((placeIfReady_granted 0 s).trans (placeIfReady_granted 1 _)).trans (placeIfReady_granted 2 _)

@[simp] theorem placeStatus_tix (n : Nat) (s : State) : (placeStatus n s).tix = s.tix := place_tix _ _ s

@[simp] theorem placeIfReady_tix (n : Nat) (s : State) : (placeIfReady n s).tix = s.tix := by
  rw [placeIfReady]
  split
  · exact placeStatus_tix n s
  · rfl

@[simp] theorem placeResult_tix (s : State) : (placeResult s).tix = s.tix := by
  simp only [placeResult, placeIfReady_tix]

theorem place_bus (a d : Word) (s : State) : BusStep s (place a d s) :=
  (place_granted a d s).bus fun h => by rwa [place_tix] at h

theorem placeStatus_bus (n : Nat) (s : State) : BusStep s (placeStatus n s) :=
  (placeStatus_granted n s).bus fun h => by rwa [placeStatus_tix] at h

theorem placeResult_bus (s : State) : BusStep s (placeResult s) :=
  (placeResult_granted s).bus fun h => by rwa [placeResult_tix] at h

@[simp] theorem placeResult_seq (s : State) : (placeResult s).seq = s.seq := by
  obtain ⟨-, -, -, -, -, seq⟩ := (placeResult_granted s).line
  exact seq

theorem offer_bus (e : Event) (s : State) : BusStep s (offer e s) := (offer_keeps e s).step.bus

theorem recordOutcome_bus (o : CommandOutcome) (line : LineState) (s : State) : BusStep s (recordOutcome o line s) := by
  rw [recordOutcome]
  exact (offer_bus _ _).after (.after (latch_keeps _ _).step.bus ((placeResult_bus _).after (.presented rfl rfl rfl id)))

theorem recordOutcome_seq (o : CommandOutcome) (line : LineState) (s : State) :
    (recordOutcome o line s).seq = { s.seq with outcome := some o } := by
  simp only [recordOutcome, offer_seq, latch_seq, placeResult_seq]
  rfl

/-! ### The controller's accesses -/

theorem decideCommand_onBus (code : BitVec 8) (tag : Index) (s : State) : OnBus s (decideCommand code tag s) := by
  rw [decideCommand]
  split
  · exact (BusStep.refl s).toOnBus
  · refine (recordOutcome_bus _ _ _).toOnBus.after ?_
    obtain ⟨e, -⟩ | ⟨-, -, c, -, admitted, -, e⟩ := commandEffect_cases code s <;> rw [e]
    · exact (BusStep.refl s).toOnBus
    · exact (effect_step admitted).1.bus

/-- A setup word handed over, word 0 aside. -/
theorem handSetup_bus {n : Nat} (hn : n ≠ 0) (v : Word) (s : State) : BusStep s (handSetup n v s) := by
  rw [handSetup, if_neg hn]
  split
  · exact .presented rfl rfl rfl id
  · split
    · exact (ticketsLowTest_keeps s).step.bus
    · split
      · exact .presented rfl rfl rfl id
      · exact .refl s

theorem handSetup_onBus (n : Nat) (v : Word) (s : State) : OnBus s (handSetup n v s) := by
  by_cases hn : n = 0
  · rw [handSetup, if_pos hn]
    exact decideCommand_onBus _ _ s
  · exact (handSetup_bus hn v s).toOnBus

theorem storeSetup_bus (n : Nat) (v : Word) (s : State) : BusStep s (storeSetup n v s) := .presented rfl rfl rfl id

theorem refuseSetup_bus (n : Nat) (m : Word) (reason : SetupRefusal) (s : State) : BusStep s (refuseSetup n m reason s) := by
  rw [refuseSetup]
  exact (offer_bus _ _).after (.presented rfl rfl rfl id)

/-- A setup write is refused, or its judged value is stored and handed over. -/
theorem setupWriteAt_cases (n : Nat) (lanes : Lanes) (data : Word) (s : State) :
    (∃ reason, judgeSetup n (mergedSetup n lanes data s) s = .error reason ∧
        setupWriteAt n lanes data s = refuseSetup n (mergedSetup n lanes data s) reason s) ∨
      ∃ v, judgeSetup n (mergedSetup n lanes data s) s = .ok v ∧
        setupWriteAt n lanes data s = handSetup n v (storeSetup n v s) := by
  rw [setupWriteAt]
  cases judged : judgeSetup n (mergedSetup n lanes data s) s with
  | error reason => exact .inl ⟨reason, rfl, rfl⟩
  | ok v => exact .inr ⟨v, rfl, rfl⟩

theorem setupWriteAt_onBus (n : Nat) (lanes : Lanes) (data : Word) (s : State) :
    OnBus s (setupWriteAt n lanes data s) := by
  obtain ⟨reason, -, e⟩ | ⟨v, -, e⟩ := setupWriteAt_cases n lanes data s <;> rw [e]
  · exact (refuseSetup_bus _ _ _ s).toOnBus
  · exact (handSetup_onBus n v _).after (storeSetup_bus n v s).toOnBus

theorem setupWriteAt_bus {n : Nat} (hn : n ≠ 0) (lanes : Lanes) (data : Word) (s : State) :
    BusStep s (setupWriteAt n lanes data s) := by
  obtain ⟨reason, -, e⟩ | ⟨v, -, e⟩ := setupWriteAt_cases n lanes data s <;> rw [e]
  · exact refuseSetup_bus _ _ _ s
  · exact (handSetup_bus hn v _).after (storeSetup_bus n v s)

theorem writeThrough_bus (addr : Word) (lanes : Lanes) (data : Word) (s : State) :
    BusStep s (writeThrough addr lanes data s) := by
  rw [writeThrough]
  split <;> exact .presented rfl rfl rfl id

theorem amendTicket_bus (t : Ticket) (one : Bool) (s : State) : BusStep s (amendTicket t one s) := by
  rw [amendTicket]
  split
  · exact .refl s
  · have marked := editTicket_keeps s t.ring (fun x => { x with amended := true }) fun _ => rfl
    exact ((marked.trans (addTicketReason_keeps _ _ _)).trans (offer_keeps _ _)).step.bus

theorem amendSlot_bus (slot : Nat) (one : Bool) (s : State) : BusStep s (amendSlot slot one s) := by
  rw [amendSlot]
  split
  · exact amendTicket_bus _ _ _
  · exact .refl s

theorem amendFetch_bus (slot : Nat) (one : Bool) (s : State) : BusStep s (amendFetch slot one s) := by
  rw [amendFetch]
  split <;> exact .presented rfl rfl rfl id

theorem handTicketWrite_bus (slot w : Nat) (lanes : Lanes) (s : State) :
    BusStep s (handTicketWrite slot w lanes s) := by
  rw [handTicketWrite]
  split
  · exact (amendFetch_bus _ _ _).after (amendSlot_bus _ _ s)
  · exact .refl s

/-- A write to anything but a setup word. -/
theorem portWrite_bus {addr : Word} {s : State} (h : ∀ n, classify addr s ≠ .setup n) (lanes : Lanes) (data : Word) :
    BusStep s (portWrite addr lanes data s) := by
  rw [portWrite]
  split
  · next n setup => exact absurd setup (h n)
  · exact (endStep_keeps _).step.bus.after ((handTicketWrite_bus _ _ _ _).after (writeThrough_bus _ _ _ s))
  · exact writeThrough_bus _ _ _ s
  · exact writeThrough_bus _ _ _ s
  · exact writeThrough_bus _ _ _ s
  · exact (offer_bus _ _).after (.presented rfl rfl rfl id)

/-- A write at the port is one to a setup word, or to anything else. -/
theorem portWrite_setup {addr : Word} {s : State} {n : Nat} (h : classify addr s = .setup n) (lanes : Lanes)
    (data : Word) : portWrite addr lanes data s = setupWriteAt n lanes data s := by
  rw [portWrite, h]

theorem portWrite_onBus (addr : Word) (lanes : Lanes) (data : Word) (s : State) :
    OnBus s (portWrite addr lanes data s) := by
  by_cases h : ∃ n, classify addr s = .setup n
  · obtain ⟨n, h⟩ := h
    rw [portWrite_setup h]
    exact setupWriteAt_onBus n lanes data s
  · exact (portWrite_bus (not_exists.mp h) lanes data).toOnBus

theorem controllerWrites_onBus (addr : Word) (lanes : Lanes) (data : Word) (s : State) :
    OnBus s (controllerWrites addr lanes data s) :=
  (portWrite_onBus addr lanes data _).after (granted_bus .controller s).toOnBus

theorem portRead_bus (addr : Word) (lanes : Lanes) (s : State) : BusStep s (portRead addr lanes s) := by
  rw [portRead]
  split
  · exact (offer_bus _ _).after (.presented rfl rfl rfl id)
  all_goals exact .presented rfl rfl rfl id

theorem controllerReads_bus (addr : Word) (lanes : Lanes) (s : State) : BusStep s (controllerReads addr lanes s) :=
  (portRead_bus addr lanes _).after (granted_bus .controller s)

/-! ### What a CLEAR leaves -/

/-- R93: dispositions of the tickets of a list, made in its order. -/
theorem foldl_makeDisposition (o : PieceOutcome) (l : List Ticket) (s : State) :
    l.foldl (fun s t => makeDisposition o t s) s = { s with tix := { s.tix with
      table := s.tix.table.map fun x => if x.ring ∈ l.map Ticket.ring then { x with state := .disposing } else x
      waiting := s.tix.waiting ++ l.map fun x =>
        { ring := x.ring, serial := x.serial, outcome := o, count := x.assigned, reasons := x.reasons } } } := by
  induction l generalizing s with
  | nil => simp
  | cons k l ih =>
    have once (x : Ticket) : (if (if x.ring = k.ring then { x with state := .disposing } else x).ring ∈ l.map Ticket.ring
        then { (if x.ring = k.ring then { x with state := TicketState.disposing } else x) with state := .disposing }
        else if x.ring = k.ring then { x with state := .disposing } else x) =
        if x.ring ∈ (k :: l).map Ticket.ring then { x with state := .disposing } else x := by
      by_cases first : x.ring = k.ring
      · simp [first]
      · simp [first]
    rw [List.foldl_cons, ih]
    simp only [makeDisposition, State.editTicket, List.map_map, Function.comp_def, once, List.append_assoc]
    rfl

/-- R93: what the abandoned tickets leave of the state. -/
theorem abandonTickets_eq (s : State) :
    abandonTickets s = { s with tix := { s.tix with
      table := s.tix.table.map fun x =>
        if x.ring ∈ (s.tix.table.filter Ticket.inPath).map Ticket.ring then { x with state := .disposing } else x
      waiting := s.tix.waiting ++ (s.tix.table.filter Ticket.inPath).map fun x =>
        { ring := x.ring, serial := x.serial, outcome := .abandoned, count := x.assigned, reasons := x.reasons } } } :=
  foldl_makeDisposition .abandoned _ s

theorem pathReset_seq (s : State) : (pathReset s).seq = s.seq := by
  change (abandonTickets s).seq = s.seq
  rw [abandonTickets_eq]

theorem enterIdle_seq (s : State) :
    (enterIdle s).seq = { s.seq with line := .idle, haltKind := .none, stopPending := false, regLimit := none } := by
  rw [enterIdle, changeLine_seq]
  split <;> rfl

/-- R173: once start-up is complete a fault leaves the line in FAULT. -/
theorem takeFault_line (f : LineFault) (flag : Bool) (detail : Word) {s : State} (up : s.seq.startupComplete = true) :
    (takeFault f flag detail s).seq.line = .fault := by
  rw [takeFault, up]
  split
  · next down => cases down
  · split
    · next fault => exact (addedFault_keeps f flag detail fault).fault fault
    · rw [firstFault]
      simp only [offer_seq, latch_seq]
      split
      · rw [orderImmediate, immediateStop]; split <;> rfl
      · rw [orderRamp]; split <;> rfl

/-- R170: a CLEAR that leaves FAULT leaves IDLE, with no fault. -/
theorem clearLine_left {s : State} (left : (clearLine s).seq.line ≠ .fault) :
    (clearLine s).seq.line = .idle ∧ (clearLine s).seq.firstFault = .none ∧ (clearLine s).seq.added = 0 := by
  have idle : (enterIdle (pathReset (clearFaults s))).seq = { s.seq with
      line := .idle, haltKind := .none, stopPending := false, regLimit := none, firstFault := .none, added := 0 } := by
    rw [enterIdle_seq, pathReset_seq]
    rfl
  rw [clearLine, estopCheck] at left ⊢
  split
  · next low =>
    rw [if_pos low] at left
    simp only [Bool.and_eq_true] at low
    exact absurd (takeFault_line _ _ _ low.1.2) left
  · rw [idle]
    exact ⟨rfl, rfl, rfl⟩

/-! ### The line in every row -/

/-- The line's outputs stay within their rules, and FAULT is not left. -/
structure LineKept (s t : State) : Prop where
  line : LineOk s → LineOk t
  fault : s.seq.line = .fault → t.seq.line = .fault

theorem LineKept.of_moving {s t : State} (h : t.moving = s.moving) : LineKept s t :=
  ⟨LineOk_congr h, fun e => (congrArg Prod.fst h : t.seq.line = s.seq.line).trans e⟩

theorem LineKept.trans {s t u : State} (h : LineKept s t) (k : LineKept t u) : LineKept s u :=
  ⟨k.line ∘ h.line, k.fault ∘ h.fault⟩

theorem LineKept.after {s t u : State} (k : LineKept t u) (h : LineKept s t) : LineKept s u := h.trans k

theorem LineKept.refl (s : State) : LineKept s s := .of_moving rfl

theorem LineStep.kept {s t : State} (h : LineStep s t) : LineKept s t := ⟨h.line, h.fault⟩

theorem Keeps.kept {s t : State} (h : Keeps s t) : LineKept s t := ⟨h.line, h.fault⟩

theorem BusStep.kept {s t : State} (h : BusStep s t) : LineKept s t := ⟨h.line, h.fault⟩

theorem offerInvalid_keeps (t : Ticket) (s : State) : Keeps s (offerInvalid t s) := by
  rw [offerInvalid]
  split
  · exact offer_keeps _ _
  · exact .refl s

theorem offerAmended_keeps (t : Ticket) (one : Option Bool) (s : State) : Keeps s (offerAmended t one s) := by
  rw [offerAmended.eq_def]
  split
  · exact offer_keeps _ _
  · exact .refl s

theorem ticketEntered_keeps (s : State) : Keeps s (ticketEntered s) := by
  rw [ticketEntered]
  split
  · exact collate_keeps s
  · exact .refl s

/-- R66: what follows the ticket's entry into the table. -/
theorem afterEntry_keeps (old : State) (t : Ticket) (one : Option Bool) (s : State) :
    Keeps s (settleEnd old (ticketEntered (offerAmended t one (offerInvalid t s)))) :=
  (((offerInvalid_keeps t s).trans (offerAmended_keeps t one _)).trans (ticketEntered_keeps _)).trans
    (settleEnd_keeps _ _)

theorem completeFetch_kept (w0 w1 : Word) (s : State) : LineKept s (completeFetch w0 w1 s) := by
  rw [completeFetch]
  split
  · exact .of_moving rfl
  · exact (afterEntry_keeps _ _ _ _).kept.after (.of_moving rfl)

theorem notePlaced_bus (n : Nat) (v : Word) (s : State) : BusStep s (notePlaced n v s) := by
  rw [notePlaced]
  split <;> exact .presented rfl rfl rfl id

theorem advanceStartup_kept (s : State) : LineKept s (advanceStartup s) := by
  rw [advanceStartup]
  dsimp only
  split
  · rw [completeStartup]
    exact (estopCheck_step _).kept.after (.of_moving rfl)
  · exact .of_moving rfl

theorem startupStep_kept (s : State) : LineKept s (startupStep s) := by
  rw [startupStep]
  split
  · rw [startupSetup]
    split
    · exact advanceStartup_kept s
    · split
      · exact (advanceStartup_kept _).after (place_bus _ _ s).kept
      · exact .refl s
  · split
    · rw [startupStatus]
      split
      · exact (advanceStartup_kept _).after ((notePlaced_bus _ _ _).after (place_bus _ _ s)).kept
      · exact .refl s
    · exact .refl s

theorem placeDisposition_kept (d : Disposition) (rest : List Disposition) (s : State) :
    LineKept s (placeDisposition d rest s) := by
  have placed := place_bus (slotAddr d.ring 7 s) d.word s
  revert placed
  rw [placeDisposition]
  generalize place (slotAddr d.ring 7 s) d.word s = u
  intro placed
  have retired (x : State) : LineKept x (retire x) := .of_moving rfl
  exact (retired _).after ((offer_bus _ _).kept.after (placed.kept.trans (.of_moving rfl)))

theorem placeWords_granted (i : Nat) (ws : List Word) (s : State) : Granted s (placeWords i ws s) := by
  induction ws generalizing i s with
  | nil => exact .refl s
  | cons w ws ih => exact (place_granted _ _ s).trans (ih (i + 1) _)

@[simp] theorem placeWords_tix (i : Nat) (ws : List Word) (s : State) : (placeWords i ws s).tix = s.tix := by
  induction ws generalizing i s with
  | nil => rfl
  | cons w ws ih => rw [placeWords, ih, place_tix]

theorem placeWords_bus (i : Nat) (ws : List Word) (s : State) : BusStep s (placeWords i ws s) :=
  (placeWords_granted i ws s).bus fun h => by rwa [placeWords_tix] at h

theorem eventsTest_keeps (before : Nat) (s : State) : Keeps s (eventsTest before s) := by
  rw [eventsTest]
  split
  · exact latch_keeps _ _
  · exact .refl s

theorem moveRecord_kept (s : State) : LineKept s (moveRecord s) := by
  rw [moveRecord]
  split
  · exact .refl s
  · next r rest _ =>
    split
    · have placed := placeWords_bus 0 r.words s
      revert placed
      generalize placeWords 0 r.words s = u
      intro placed
      exact (eventsTest_keeps _ _).kept.after (placed.kept.trans (.of_moving rfl))
    · exact .refl s

theorem placeDue_bus (s : State) : BusStep s (placeDue s) := by
  rw [placeDue]
  split
  · exact placeStatus_bus _ s
  · exact .refl s

theorem takeSnapshot_bus (s : State) : BusStep s (takeSnapshot s) := by
  rw [takeSnapshot]
  split <;> exact .presented rfl rfl rfl id

theorem reportPhase_bus (s : State) : BusStep s (reportPhase s) := by
  rw [reportPhase]
  split
  · exact (place_bus _ _ _).after (.presented rfl rfl rfl id)
  · exact .refl s

theorem readFetch_bus (s : State) : BusStep s (readFetch s) := by
  rw [readFetch]
  split
  · exact granted_bus _ _
  · exact .refl s

theorem grantTheQueue_bus (s : State) : BusStep s (grantTheQueue s) := by
  rw [grantTheQueue]
  split
  · exact .refl s
  · exact granted_bus _ _

theorem OwnStep.kept {s t : State} (h : OwnStep s t) : LineKept s t := by
  cases h with
  | startFetch =>
    rw [Machine.startFetch]
    split <;> exact .of_moving rfl
  | readFetch => exact (readFetch_bus s).kept
  | returnData g =>
    refine .after ?_ (setGauge_step g s).kept
    rw [Machine.returnData]
    split
    · exact .of_moving rfl
    · exact completeFetch_kept _ _ _
    all_goals exact .refl _
  | grantQueue => exact (grantTheQueue_bus s).kept
  | startup => exact startupStep_kept s
  | dispose =>
    rw [Machine.dispose]
    split
    · exact .refl s
    · split
      · exact placeDisposition_kept _ _ _
      · exact .refl s
  | moveRecord => exact moveRecord_kept s
  | placeDue => exact (placeDue_bus s).kept
  | snapshot => exact (takeSnapshot_bus s).kept
  | reportPhase => exact (reportPhase_bus s).kept

theorem RowStep.lineOk {s t : State} {c : Instr} (h : RowStep s c t) (ok : LineOk s) : LineOk t := by
  cases h with
  | reset st p h => exact ⟨rfl, rfl, rfl, rfl, rfl, rfl⟩
  | line h => exact h.line ok
  | read addr lanes => exact (controllerReads_bus addr lanes s).line ok
  | write addr lanes data => exact (controllerWrites_onBus addr lanes data s).line ok
  | own h => exact h.kept.line ok

/-- Settles O4: each row keeps the line's outputs within their rules. -/
theorem stepKeepsLineOutputs : Obligations.StepKeepsLineOutputs := by
  unfold Obligations.StepKeepsLineOutputs
  intro s t ok h
  obtain rfl | ⟨c, rest, -, row⟩ := step_row h
  · exact ok
  · exact row.lineOk (LineOk_congr (s := s) rfl ok)

/-! ### The way out of FAULT -/

theorem commandOf_clear {code : BitVec 8} (h : commandOf code = some .clear) : code = 7 := by
  grind [commandOf]

/-- R157: a command that leaves FAULT is a CLEAR accepted with the transport STILL. -/
theorem decideCommand_leaves {code : BitVec 8} {tag : Index} {s : State} (fault : s.seq.line = .fault)
    (left : (decideCommand code tag s).seq.line ≠ .fault) :
    s.tr.state = .still ∧ (decideCommand code tag s).seq.line = .idle ∧
      (decideCommand code tag s).seq.firstFault = .none ∧ (decideCommand code tag s).seq.added = 0 ∧
      (decideCommand code tag s).seq.outcome = some { code := 7, tag := tag, refusal := none } := by
  rw [decideCommand] at left ⊢
  split at left
  · exact absurd fault left
  · next some' =>
    rw [if_neg some', recordOutcome_seq] at *
    obtain ⟨e, -⟩ | ⟨accepted, -, c, named, admitted, passes, e⟩ := commandEffect_cases code s <;> rw [e] at left ⊢
    · exact absurd fault left
    · by_cases clear : c = .clear
      · subst clear
        have still : s.tr.state = .still := by
          by_contra moves
          rw [Command.check, if_pos moves] at passes
          cases passes
        obtain ⟨idle, none, zero⟩ := clearLine_left left
        exact ⟨still, idle, none, zero, by rw [accepted, commandOf_clear named]⟩
      · exact absurd (((effect_step admitted).2 clear).fault fault) left

theorem RowStep.leavesFault {s t : State} {c : Instr} (h : RowStep s c t) (fault : s.seq.line = .fault)
    (left : t.seq.line ≠ .fault) :
    (∃ st p, c = .pinReset st p) ∨
      (s.tr.state = .still ∧ t.seq.line = .idle ∧ t.seq.firstFault = .none ∧ t.seq.added = 0 ∧
        ∃ tag, t.seq.outcome = some { code := 7, tag := tag, refusal := none }) := by
  cases h with
  | reset st p h => exact .inl ⟨st, p, h⟩
  | line h => exact absurd (h.fault fault) left
  | read addr lanes => exact absurd ((controllerReads_bus addr lanes s).fault fault) left
  | own h => exact absurd (h.kept.fault fault) left
  | write addr lanes data =>
    right
    have granted := granted_granted .controller s
    obtain ⟨-, -, -, -, tr, seq⟩ := granted.line
    rw [controllerWrites] at left ⊢
    revert left
    rw [← tr]
    rw [← seq] at fault
    generalize Machine.granted .controller s = u at fault
    intro left
    by_cases setup : ∃ n, classify addr u = .setup n
    · obtain ⟨n, setup⟩ := setup
      rw [portWrite_setup setup] at left ⊢
      by_cases hn : n = 0
      · subst hn
        obtain ⟨reason, -, e⟩ | ⟨v, -, e⟩ := setupWriteAt_cases 0 lanes data u <;> rw [e] at left ⊢
        · exact absurd ((refuseSetup_bus _ _ _ u).fault fault) left
        · obtain ⟨still, idle, none, zero, outcome⟩ := decideCommand_leaves (s := storeSetup 0 v u) fault left
          exact ⟨still, idle, none, zero, _, outcome⟩
      · exact absurd ((setupWriteAt_bus hn lanes data u).fault fault) left
    · exact absurd ((portWrite_bus (not_exists.mp setup) lanes data).fault fault) left

/-- Settles O11: only a command can leave FAULT, and of the commands only CLEAR. -/
theorem faultLeftOnlyByClear : Obligations.FaultLeftOnlyByClear := by
  unfold Obligations.FaultLeftOnlyByClear
  intro s t c fault e left
  obtain ⟨u, eu, row⟩ := exec_row c s
  rw [eu] at e
  cases e
  exact row.leavesFault fault left

/-! ### The ranges of the setup words (R195) -/

/-- R195: a row that clamps has its least value below its greatest, and both fit a word. -/
theorem clamp_bounds : ∀ n, n < 40 → (setupRow n).cls = .clamp → (setupRow n).lo ≤ (setupRow n).hi ∧
    (setupRow n).hi < 4294967296 := by decide

theorem toNat_word {n : Nat} (h : n < 4294967296) : (word n).toNat = n := by
  rw [word, BitVec.toNat_ofNat, Nat.mod_eq_of_lt h]

/-- R180, R195: a merged value that is taken is one of the word's range. -/
theorem judgeRange_inRange {top hi6 n : Nat} {v w : Word} (hn : n < 40) (h6 : 16 ≤ hi6 ∧ hi6 ≤ 4096)
    (fields : v &&& setupFields n = v) (taken : judgeRange top hi6 n v = some w) : setupInRange top n w = true := by
  rw [judgeRange] at taken
  rw [setupInRange]
  split at taken
  · next h =>
    rw [if_pos h]
    split at taken
    · next ok => cases taken; exact decide_eq_true ok
    · cases taken
  rename_i h35
  rw [if_neg h35]
  split at taken
  · next h =>
    rw [if_pos h]
    split at taken
    · next ok => cases taken; exact ok
    · cases taken
  rename_i h36
  rw [if_neg h36]
  split at taken
  · next h =>
    rw [if_pos h]
    split at taken
    · next ok => cases taken; exact decide_eq_true ok
    · cases taken
  rename_i h37
  rw [if_neg h37]
  have greatest : (if n = 6 then hi6 else (setupRow n).hi) ≤ (setupRow n).hi ∧
      ((setupRow n).lo ≤ (setupRow n).hi → (setupRow n).lo ≤ if n = 6 then hi6 else (setupRow n).hi) := by
    split
    · next six =>
      subst six
      change hi6 ≤ 4096 ∧ (1 ≤ 4096 → 1 ≤ hi6)
      omega
    · exact ⟨le_rfl, id⟩
  dsimp only at taken
  generalize (if n = 6 then hi6 else (setupRow n).hi) = hi at taken greatest
  obtain ⟨least, most⟩ := greatest
  have bounds := clamp_bounds n hn
  cases cls : (setupRow n).cls with
  | free | own =>
    simp only [cls, Option.some.injEq] at taken
    simpa [← taken] using fields
  | clamp =>
    obtain ⟨ordered, fits⟩ := bounds cls
    have low := toNat_word (n := (setupRow n).lo) (by omega)
    have high := toNat_word (n := hi) (by omega)
    simp only [cls] at taken
    simp only [Bool.and_eq_true, decide_eq_true_eq]
    split at taken
    · cases taken
      omega
    · split at taken
      · cases taken
        have := most ordered
        omega
      · cases taken
        omega
  | refuse =>
    simp only [cls] at taken
    simp only [Bool.and_eq_true, decide_eq_true_eq]
    split at taken
    · cases taken
    · cases taken
      omega

theorem mergedSetup_fields (n : Nat) (lanes : Lanes) (data : Word) (s : State) :
    mergedSetup n lanes data s &&& setupFields n = mergedSetup n lanes data s := by
  rw [mergedSetup, BitVec.and_assoc, BitVec.and_self]

/-- R195: a word of the clamp and the refuse class is in range between its least and its greatest value. -/
theorem setupInRange_bounded {n : Nat} (own : n ≠ 35 ∧ n ≠ 36 ∧ n ≠ 37)
    (cls : (setupRow n).cls = .clamp ∨ (setupRow n).cls = .refuse) (top : Nat) (v : Word) :
    setupInRange top n v = true ↔ (setupRow n).lo ≤ v.toNat ∧ v.toNat ≤ (setupRow n).hi := by
  obtain ⟨h35, h36, h37⟩ := own
  rw [setupInRange, if_neg h35, if_neg h36, if_neg h37]
  obtain cls | cls := cls <;> simp only [cls, Bool.and_eq_true, decide_eq_true_eq]

/-- R195: with working values in range the event ring has from 16 to 4,096 slots. -/
theorem ShadowOk.eventSlots {s : State} (h : ShadowOk s) : 16 ≤ s.setupN 38 ∧ s.setupN 38 ≤ 4096 := by
  exact (setupInRange_bounded (n := 38) (by decide) (by decide) _ _).mp (h.2 38 (by decide))

/-- R180: an accepted value passed the lock and the index rules, and is the one the range judges. -/
theorem judgeSetup_ok {n : Nat} {m v : Word} {s : State} (h : judgeSetup n m s = .ok v) :
    setupLocked n s = false ∧ indexRefused n m s = false ∧ judgeRange s.top (s.setupN 38) n m = some v := by
  rw [judgeSetup] at h
  split at h
  · cases h
  · next open' =>
    split at h
    · cases h
    · next unrefused =>
      split at h
      · cases h
      · next w judged =>
        cases h
        exact ⟨Bool.eq_false_iff.mpr open', Bool.eq_false_iff.mpr unrefused, judged⟩

theorem setup_of_set {s t : State} {n : Nat} {v : Word} (h : t.path.shadow = s.path.shadow.set n v) (k : Nat) :
    t.setup k = s.setup k ∨ k = n ∧ t.setup k = v := by
  by_cases hk : k = n
  · subst hk
    by_cases hl : k < s.path.shadow.length
    · right
      rw [State.setup, h, List.getD_eq_getElem?_getD, List.getElem?_set_self hl]
      exact ⟨rfl, rfl⟩
    · left
      rw [State.setup, h, List.set_eq_of_length_le (Nat.not_lt.mp hl)]
      rfl
  · left
    rw [State.setup, h, List.getD_eq_getElem?_getD, List.getElem?_set_ne (Ne.symm hk)]
    rw [State.setup, List.getD_eq_getElem?_getD]

theorem ShadowOk.set {s t : State} {n : Nat} {v : Word} (h : ShadowOk s) (straps : t.path.straps = s.path.straps)
    (set : t.path.shadow = s.path.shadow.set n v) (range : n < 40 → setupInRange s.top n v = true) : ShadowOk t := by
  refine ⟨by rw [set, List.length_set]; exact h.1, fun k hk => ?_⟩
  rw [top_congr straps]
  obtain same | ⟨rfl, new⟩ := setup_of_set set k
  · rw [same]; exact h.2 k hk
  · rw [new]; exact range hk

theorem ShadowOk.congr {s t : State} (h : ShadowOk s) (straps : t.path.straps = s.path.straps)
    (shadow : t.path.shadow = s.path.shadow) : ShadowOk t := by
  refine ⟨by rw [shadow]; exact h.1, fun k hk => ?_⟩
  rw [top_congr straps, setup_congr shadow]
  exact h.2 k hk

/-- R195: the phases are the range of setup word 12. -/
theorem phase_inRange (top : Nat) : ∀ p, p < 12 → setupInRange top 12 (word p) = true := by
  intro p hp
  refine (setupInRange_bounded (by decide) (by decide) _ _).mpr ⟨Nat.zero_le _, ?_⟩
  rw [toNat_word (by omega)]
  exact Nat.le_of_lt_succ hp

/-! ### The memory path in every row -/

/-- The queue, the working values, the queued addresses and the form of memory stay within their rules. -/
structure Stored (s t : State) : Prop where
  queue : QueueOk s → QueueOk t
  mem : Memory.wf s.mem = true → Memory.wf t.mem = true
  shadow : ShadowOk s → ShadowOk t
  entries : ShadowOk s → EntriesIn s → EntriesIn t

theorem Stored.trans {s t u : State} (h : Stored s t) (k : Stored t u) : Stored s u :=
  ⟨k.queue ∘ h.queue, k.mem ∘ h.mem, k.shadow ∘ h.shadow, fun ok e => k.entries (h.shadow ok) (h.entries ok e)⟩

theorem Stored.after {s t u : State} (k : Stored t u) (h : Stored s t) : Stored s u := h.trans k

/-- A queue some entries of which are gone. -/
theorem Stored.ofFewer {s t : State} (straps : t.path.straps = s.path.straps)
    (queue : t.path.queue.Sublist s.path.queue) (mem : Memory.wf s.mem = true → Memory.wf t.mem = true)
    (shadow : ShadowOk s → ShadowOk t) : Stored s t := by
  refine ⟨fun h => ⟨queue.length_le.trans h.1, h.2.sublist (queue.map _)⟩, mem, shadow, fun _ h e he => ?_⟩
  have := h e (queue.subset he)
  rwa [wordIn, top_congr straps]

theorem Stored.same {s t : State} (straps : t.path.straps = s.path.straps) (queue : t.path.queue = s.path.queue)
    (mem : t.mem = s.mem) (shadow : t.path.shadow = s.path.shadow) : Stored s t :=
  .ofFewer straps (by rw [queue]) (fun h => by rwa [mem]) fun h => h.congr straps shadow

theorem Stored.refl (s : State) : Stored s s := .same rfl rfl rfl rfl

theorem OffBus.stored {s t : State} (h : OffBus s t) : Stored s t := by
  have straps : t.path.straps = s.path.straps := congrArg Fixed.straps h.outer
  have queue : t.path.queue = s.path.queue := congrArg Fixed.queue h.outer
  have mem : t.mem = s.mem := congrArg Fixed.mem h.outer
  refine .ofFewer straps (by rw [queue]) (fun k => by rwa [mem]) fun k => ?_
  obtain same | ⟨p, hp, set⟩ := h.shadow
  · exact k.congr straps same
  · exact k.set straps set fun _ => phase_inRange _ p hp

theorem Keeps.stored {s t : State} (h : Keeps s t) : Stored s t := h.step.toOffBus.stored

theorem removeQueued_sublist (a : Word) (q : List QueueEntry) : (removeQueued a q).Sublist q := by
  induction q with
  | nil => exact .slnil
  | cons e q ih =>
    rw [removeQueued]
    split
    · exact List.sublist_cons_self _ _
    · exact ih.cons_cons e

/-! ### Grants and placements -/

theorem drainQueue_stored (b : Bool) (s : State) : Stored s (drainQueue b s) := by
  rw [drainQueue]
  split
  · exact .refl s
  · next q qs e =>
    refine .ofFewer rfl ?_ (Memory.writeWord_wf _ _) fun h => h.congr rfl rfl
    rw [e]
    exact List.sublist_cons_self q qs

theorem grantFetchRead_stored (s : State) : Stored s (grantFetchRead s) := by
  obtain ⟨-, e⟩ | ⟨f, t, rfl | rfl, -, e⟩ := grantFetchRead_cases s <;> rw [e]
  · exact .refl s
  · exact .same rfl rfl rfl rfl
  · exact .same rfl rfl rfl rfl

theorem makeGrant_stored (g : Grant) (s : State) : Stored s (makeGrant g s) := by
  cases g with
  | burst => exact drainQueue_stored _ s
  | queue => exact drainQueue_stored _ s
  | fetch => exact grantFetchRead_stored s
  | controller => exact .same rfl rfl rfl rfl

theorem granted_stored (want : Party) (s : State) : Stored s (granted want s) := by
  rw [granted]
  generalize s.path.queue.length + 2 = n
  induction n generalizing s with
  | zero => exact .refl s
  | succ n ih =>
    rw [grantUntil]
    split
    · exact .refl s
    · split
      · exact makeGrant_stored _ s
      · exact (makeGrant_stored _ s).trans (ih _)

/-- R186: a placement at an address of a word. -/
theorem place_stored {a : Word} {s : State} (aligned : ShadowOk s → a.toNat % 4 = 0) (d : Word) :
    Stored s (place a d s) := by
  obtain ⟨below, e⟩ | ⟨-, e⟩ := place_cases a d s <;> rw [e]
  · refine ⟨fun h => ⟨placedQueue_length h.1, placedQueue_nodup h.2⟩, id, fun h => h.congr rfl rfl, fun ok h x hx => ?_⟩
    obtain new | old := mem_placedQueue_addr hx
    · rw [new]
      exact ⟨aligned ok, of_decide_eq_true below⟩
    · obtain ⟨y, hy, same⟩ := List.mem_map.mp old
      rw [← same]
      exact h y hy
  · exact .same rfl rfl rfl rfl

theorem word_aligned {n : Nat} (h : n % 4 = 0) : (word n).toNat % 4 = 0 := by
  rw [word, BitVec.toNat_ofNat]
  omega

theorem base_aligned (s : State) : s.base % 4 = 0 := by
  rw [State.base, setupBaseOf]
  omega

theorem statusAddr_aligned (n : Nat) (s : State) : (statusAddr n s).toNat % 4 = 0 :=
  word_aligned (by have := base_aligned s; omega)

theorem setupAddr_aligned (n : Nat) (s : State) : (setupAddr n s).toNat % 4 = 0 :=
  word_aligned (by have := base_aligned s; omega)

theorem ShadowOk.ticketBase {s : State} (h : ShadowOk s) : s.setupN 35 % 32 = 0 ∧ s.setupN 35 < s.top :=
  of_decide_eq_true (h.2 35 (by omega))

theorem ShadowOk.eventBase {s : State} (h : ShadowOk s) : s.setupN 37 % 8 = 0 ∧ s.setupN 37 < s.top :=
  of_decide_eq_true (h.2 37 (by omega))

theorem slotAddr_aligned (ring : Index) (n : Nat) {s : State} (h : ShadowOk s) : (slotAddr ring n s).toNat % 4 = 0 :=
  word_aligned (by have := h.ticketBase; omega)

theorem recordAddr_aligned (i : Nat) {s : State} (h : ShadowOk s) : (recordAddr i s).toNat % 4 = 0 :=
  word_aligned (by have := h.eventBase; omega)

theorem placeStatus_stored (n : Nat) (s : State) : Stored s (placeStatus n s) := by
  rw [placeStatus]
  exact (place_stored (fun _ => statusAddr_aligned n s) _).trans (.same rfl rfl rfl rfl)

theorem placeIfReady_stored (n : Nat) (s : State) : Stored s (placeIfReady n s) := by
  rw [placeIfReady]
  split
  · exact placeStatus_stored n s
  · exact .refl s

theorem placeResult_stored (s : State) : Stored s (placeResult s) :=
  ((placeIfReady_stored 0 s).trans (placeIfReady_stored 1 _)).trans (placeIfReady_stored 2 _)

theorem placeWords_stored (i : Nat) (ws : List Word) (s : State) : Stored s (placeWords i ws s) := by
  induction ws generalizing i s with
  | nil => exact .refl s
  | cons w ws ih => exact (place_stored (recordAddr_aligned i) w).trans (ih (i + 1) _)

theorem recordOutcome_stored (o : CommandOutcome) (line : LineState) (s : State) : Stored s (recordOutcome o line s) := by
  rw [recordOutcome]
  exact (offer_keeps _ _).stored.after ((latch_keeps _ _).stored.after
    ((placeResult_stored _).after (.same rfl rfl rfl rfl)))

/-! ### The controller's accesses -/

theorem decideCommand_stored (code : BitVec 8) (tag : Index) (s : State) : Stored s (decideCommand code tag s) := by
  rw [decideCommand]
  split
  · exact .refl s
  · refine (recordOutcome_stored _ _ _).after ?_
    obtain ⟨e, -⟩ | ⟨-, -, c, -, admitted, -, e⟩ := commandEffect_cases code s <;> rw [e]
    · exact .refl s
    · exact (effect_step admitted).1.stored

theorem handSetup_stored (n : Nat) (v : Word) (s : State) : Stored s (handSetup n v s) := by
  rw [handSetup]
  split
  · exact decideCommand_stored _ _ s
  · split
    · exact .same rfl rfl rfl rfl
    · split
      · exact (ticketsLowTest_keeps s).stored
      · split
        · exact .same rfl rfl rfl rfl
        · exact .refl s

theorem setupWriteAt_stored {n : Nat} (hn : n < 40) (lanes : Lanes) (data : Word) (s : State) :
    Stored s (setupWriteAt n lanes data s) := by
  obtain ⟨reason, -, e⟩ | ⟨v, judged, e⟩ := setupWriteAt_cases n lanes data s <;> rw [e]
  · rw [refuseSetup]
    exact (offer_keeps _ _).stored.after (.same rfl rfl rfl rfl)
  · obtain ⟨-, -, range⟩ := judgeSetup_ok judged
    refine (handSetup_stored n v _).after (.ofFewer rfl (removeQueued_sublist _ _) (Memory.writeWord_wf _ _) fun h => ?_)
    exact h.set rfl rfl fun _ => judgeRange_inRange hn h.eventSlots (mergedSetup_fields n lanes data s) range

theorem writeThrough_stored (addr : Word) (lanes : Lanes) (data : Word) (s : State) :
    Stored s (writeThrough addr lanes data s) := by
  rw [writeThrough]
  split
  · exact .ofFewer rfl (removeQueued_sublist _ _) (Memory.writeWord_wf _ _) fun h => h.congr rfl rfl
  · exact .ofFewer rfl (.refl _) (Memory.writeLanes_wf _ _ _) fun h => h.congr rfl rfl

theorem amendTicket_stored (t : Ticket) (one : Bool) (s : State) : Stored s (amendTicket t one s) := by
  rw [amendTicket]
  split
  · exact .refl s
  · have marked : Stored s (s.editTicket t.ring fun x => { x with amended := true }) := .same rfl rfl rfl rfl
    exact (offer_keeps _ _).stored.after ((addTicketReason_keeps _ _ _).stored.after marked)

theorem handTicketWrite_stored (slot w : Nat) (lanes : Lanes) (s : State) : Stored s (handTicketWrite slot w lanes s) := by
  have slot' (one : Bool) : Stored s (amendSlot slot one s) := by
    rw [amendSlot]
    split
    · exact amendTicket_stored _ _ _
    · exact .refl s
  have fetch (one : Bool) (u : State) : Stored u (amendFetch slot one u) := by
    rw [amendFetch]
    split <;> exact .same rfl rfl rfl rfl
  rw [handTicketWrite]
  split
  · exact (fetch _ _).after (slot' _)
  · exact .refl s

/-- R178: the class of a setup word is one of its 40. -/
theorem classify_setup_lt {addr : Word} {s : State} {n : Nat} (h : classify addr s = .setup n) : n < 40 := by
  rw [classify] at h
  split_ifs at h
  cases h
  omega

theorem portWrite_stored (addr : Word) (lanes : Lanes) (data : Word) (s : State) :
    Stored s (portWrite addr lanes data s) := by
  rw [portWrite]
  split
  · next n setup => exact setupWriteAt_stored (classify_setup_lt setup) lanes data s
  · exact (endStep_keeps _).stored.after ((handTicketWrite_stored _ _ _ _).after (writeThrough_stored _ _ _ s))
  · exact writeThrough_stored _ _ _ s
  · exact writeThrough_stored _ _ _ s
  · exact writeThrough_stored _ _ _ s
  · exact (offer_keeps _ _).stored.after (.same rfl rfl rfl rfl)

theorem portRead_stored (addr : Word) (lanes : Lanes) (s : State) : Stored s (portRead addr lanes s) := by
  rw [portRead]
  split
  · exact (offer_keeps _ _).stored.after (.same rfl rfl rfl rfl)
  all_goals exact .same rfl rfl rfl rfl

/-! ### The part's own traffic -/

theorem completeFetch_stored (w0 w1 : Word) (s : State) : Stored s (completeFetch w0 w1 s) := by
  rw [completeFetch]
  split
  · exact .same rfl rfl rfl rfl
  · exact (afterEntry_keeps _ _ _ _).stored.after (.same rfl rfl rfl rfl)

theorem advanceStartup_stored (s : State) : Stored s (advanceStartup s) := by
  rw [advanceStartup]
  dsimp only
  split
  · rw [completeStartup]
    exact (estopCheck_step _).toOffBus.stored.after (.same rfl rfl rfl rfl)
  · exact .same rfl rfl rfl rfl

theorem notePlaced_stored (n : Nat) (v : Word) (s : State) : Stored s (notePlaced n v s) := by
  rw [notePlaced]
  split <;> exact .same rfl rfl rfl rfl

theorem startupStep_stored (s : State) : Stored s (startupStep s) := by
  rw [startupStep]
  split
  · rw [startupSetup]
    split
    · exact advanceStartup_stored s
    · split
      · exact (advanceStartup_stored _).after (place_stored (fun _ => setupAddr_aligned _ s) _)
      · exact .refl s
  · split
    · rw [startupStatus]
      split
      · exact (advanceStartup_stored _).after ((notePlaced_stored _ _ _).after
          (place_stored (fun _ => statusAddr_aligned _ s) _))
      · exact .refl s
    · exact .refl s

theorem placeDisposition_stored (d : Disposition) (rest : List Disposition) (s : State) :
    Stored s (placeDisposition d rest s) := by
  have placed := place_stored (fun h : ShadowOk s => slotAddr_aligned d.ring 7 h) d.word
  revert placed
  rw [placeDisposition]
  generalize place (slotAddr d.ring 7 s) d.word s = u
  intro placed
  have retired (x : State) : Stored x (retire x) := .same rfl rfl rfl rfl
  exact (retired _).after ((offer_keeps _ _).stored.after (placed.trans (.same rfl rfl rfl rfl)))

theorem moveRecord_stored (s : State) : Stored s (moveRecord s) := by
  rw [moveRecord]
  split
  · exact .refl s
  · next r rest _ =>
    split
    · have placed := placeWords_stored 0 r.words s
      revert placed
      generalize placeWords 0 r.words s = u
      intro placed
      exact (eventsTest_keeps _ _).stored.after (placed.trans (.same rfl rfl rfl rfl))
    · exact .refl s

theorem OwnStep.stored {s t : State} (h : OwnStep s t) : Stored s t := by
  cases h with
  | startFetch =>
    rw [Machine.startFetch]
    split <;> exact .same rfl rfl rfl rfl
  | readFetch =>
    rw [Machine.readFetch]
    split
    · exact granted_stored _ s
    · exact .refl s
  | returnData g =>
    refine .after ?_ (setGauge_step g s).toOffBus.stored
    rw [Machine.returnData]
    split
    · exact .same rfl rfl rfl rfl
    · exact completeFetch_stored _ _ _
    all_goals exact .refl _
  | grantQueue =>
    rw [Machine.grantTheQueue]
    split
    · exact .refl s
    · exact granted_stored _ s
  | startup => exact startupStep_stored s
  | dispose =>
    rw [Machine.dispose]
    split
    · exact .refl s
    · split
      · exact placeDisposition_stored _ _ _
      · exact .refl s
  | moveRecord => exact moveRecord_stored s
  | placeDue =>
    rw [Machine.placeDue]
    split
    · exact placeStatus_stored _ s
    · exact .refl s
  | snapshot =>
    rw [Machine.takeSnapshot]
    split <;> exact .same rfl rfl rfl rfl
  | reportPhase =>
    rw [Machine.reportPhase]
    split
    · exact .after (place_stored (fun _ => setupAddr_aligned 12 _) _) (.same rfl rfl rfl rfl)
    · exact .refl s

/-- R195: the defaults that stand apart from the memory are in range. -/
theorem default_inRange : ∀ n, n < 40 → n ≠ 35 → n ≠ 37 →
    ∀ top, setupInRange top n (word (setupRow n).default) = setupInRange 0 n (word (setupRow n).default) ∧
      setupInRange 0 n (word (setupRow n).default) = true := by
  intro n hn h35 h37 top
  refine ⟨by simp only [setupInRange, if_neg h35, if_neg h37], ?_⟩
  revert n
  decide

theorem afterPinReset_setup (st : Straps) (p : Pins) (mem : Memory) (pending : List Instr) {n : Nat} (hn : n < 40) :
    (State.afterPinReset st p mem pending).setup n = setupDefault st n := by
  change ((List.range 40).map (setupDefault st)).getD n 0 = _
  rw [List.getD_eq_getElem?_getD, List.getElem?_map, List.getElem?_range hn]
  rfl

/-- R177: the defaults under any straps are in range. -/
theorem afterPinReset_shadowOk (st : Straps) (p : Pins) (mem : Memory) (pending : List Instr) :
    ShadowOk (State.afterPinReset st p mem pending) := by
  refine ⟨by rw [State.afterPinReset, MemoryPath.reset, List.length_map, List.length_range], fun n hn => ?_⟩
  rw [afterPinReset_setup st p mem pending hn]
  have page := base_page_le_top (State.afterPinReset st p mem pending)
  have least := top_le (State.afterPinReset st p mem pending)
  have aligned : setupBaseOf st % 32 = 0 := by
    rw [setupBaseOf]
    omega
  change setupBaseOf st + 65536 ≤ _ at page
  have placed (k : Nat) (hk : k ≤ 4096) : (word (setupBaseOf st + k)).toNat = setupBaseOf st + k := toNat_word (by omega)
  rw [setupDefault]
  by_cases h35 : n = 35
  · subst h35
    rw [if_pos (.inl rfl), setupInRange, if_pos rfl, decide_eq_true_eq]
    have : (word (setupBaseOf st + (setupRow 35).default)).toNat = setupBaseOf st + 256 := placed 256 (by decide)
    omega
  · by_cases h37 : n = 37
    · subst h37
      rw [if_pos (.inr rfl), setupInRange, if_neg (by decide), if_neg (by decide), if_pos rfl, decide_eq_true_eq]
      have : (word (setupBaseOf st + (setupRow 37).default)).toNat = setupBaseOf st + 4096 := placed 4096 (by decide)
      omega
    · rw [if_neg (not_or.mpr ⟨h35, h37⟩)]
      obtain ⟨same, ok⟩ := default_inRange n hn h35 h37 (State.afterPinReset st p mem pending).top
      rw [same, ok]

theorem RowStep.stored {s t : State} {c : Instr} (h : RowStep s c t) : Stored s t := by
  cases h with
  | reset st p _ =>
    exact ⟨fun _ => ⟨Nat.zero_le _, .nil⟩, id, fun _ => afterPinReset_shadowOk st p s.mem s.pending, fun _ _ _ he => nomatch he⟩
  | line h => exact h.toOffBus.stored
  | read addr lanes => exact (granted_stored .controller s).trans (portRead_stored addr lanes _)
  | write addr lanes data => exact (granted_stored .controller s).trans (portWrite_stored addr lanes data _)
  | own h => exact h.stored

theorem step_stored {s t : State} (h : step s = .next t) : Stored s t := by
  obtain rfl | ⟨c, rest, -, row⟩ := step_row h
  · exact .refl t
  · exact .after row.stored (.same rfl rfl rfl rfl)

/-- Settles O7: every row keeps the queue and the working values, and what it queues is for a word below the top. -/
theorem stepKeepsMemoryPath : Obligations.StepKeepsMemoryPath := by
  unfold Obligations.StepKeepsMemoryPath
  intro s t h
  exact ⟨(step_stored h).queue, (step_stored h).shadow, (step_stored h).entries⟩

/-- Settles O8. -/
theorem stepKeepsMemoryForm : Obligations.StepKeepsMemoryForm := by
  unfold Obligations.StepKeepsMemoryForm
  intro s t wf h
  exact (step_stored h).mem wf

/-! ### Start-up and staging -/

/-- Start-up and the staging FIFO within their bounds. -/
def StartStage (s : State) : Prop := StartupOk s ∧ StageOk s

theorem OnBus.startStage {s t : State} (h : OnBus s t) (ok : StartStage s) : StartStage t := by
  have startup : t.seq.startupComplete = s.seq.startupComplete := congrArg Prod.fst h.bus
  have startPos : t.path.startPos = s.path.startPos := congrArg (·.2.1) h.bus
  refine ⟨?_, h.stage ok.2⟩
  rw [StartupOk, startup, startPos]
  exact ok.1

theorem Keeps.onBus {s t : State} (h : Keeps s t) : OnBus s t := h.step.bus.toOnBus

theorem startStage_congr {s t : State} (startup : t.seq.startupComplete = s.seq.startupComplete)
    (startPos : t.path.startPos = s.path.startPos) (staging : t.rep.staging = s.rep.staging) (ok : StartStage s) :
    StartStage t := by
  rw [StartStage, StartupOk, StageOk, startup, startPos, staging]
  exact ok

theorem numberHeld_length (n : Word) (l : List Staged) : (numberHeld n l).length = l.length := by
  induction l generalizing n with
  | nil => rfl
  | cons r l ih => rw [numberHeld, List.length_cons, List.length_cons, ih]

theorem advanceStartup_startStage {s : State} (short : s.path.startPos < 56) (ok : StartStage s) :
    StartStage (advanceStartup s) := by
  obtain ⟨⟨-, complete⟩, staged, held⟩ := ok
  have notYet : s.seq.startupComplete = false := by
    rw [← Bool.not_eq_true, complete]
    omega
  rw [advanceStartup]
  dsimp only
  split
  · next last =>
    rw [completeStartup]
    refine (estopCheck_step _).bus.startStage ⟨⟨last.le, fun _ => last, fun _ => rfl⟩, ?_, nofun⟩
    have := held notYet
    change (numberHeld _ s.rep.staging).length + 1 ≤ 8
    rw [numberHeld_length]
    exact Nat.succ_le_succ this
  · next more =>
    exact ⟨⟨Nat.succ_le_of_lt short, fun c => absurd (complete.mp c) short.ne, fun last => absurd last more⟩,
      staged, held⟩

theorem startupStep_startStage {s : State} (ok : StartStage s) : StartStage (startupStep s) := by
  have placed (a d : Word) : StartStage (place a d s) := (place_bus a d s).startStage ok
  have pos (a d : Word) : (place a d s).path.startPos = s.path.startPos := (place_granted a d s).startPos
  rw [startupStep]
  split
  · next setup =>
    rw [startupSetup]
    split
    · exact advanceStartup_startStage (by omega) ok
    · split
      · exact advanceStartup_startStage (by rw [pos]; omega) (placed _ _)
      · exact ok
  · split
    · next status =>
      rw [startupStatus]
      split
      · refine advanceStartup_startStage ?_ ((notePlaced_bus _ _ _).startStage (placed _ _))
        have kept (n : Nat) (v : Word) (u : State) : (notePlaced n v u).path = u.path := by
          rw [notePlaced]; split <;> rfl
        rw [kept, pos]
        exact status
      · exact ok
    · exact ok

theorem moveRecord_startStage {s : State} (ok : StartStage s) : StartStage (moveRecord s) := by
  rw [moveRecord]
  split
  · exact ok
  · next r rest staged =>
    split
    · have placed := placeWords_granted 0 r.words s
      have line := (placeWords_bus 0 r.words s).startStage ok
      revert placed line
      generalize placeWords 0 r.words s = u
      intro placed line
      refine (eventsTest_keeps _ _).onBus.startStage ?_
      obtain ⟨start, most, held⟩ := line
      rw [placed.staging, staged] at most held
      exact ⟨start, Nat.le_of_succ_le most, fun down => Nat.le_of_succ_le (held down)⟩
    · exact ok

theorem completeFetch_startStage (w0 w1 : Word) {s : State} (ok : StartStage s) : StartStage (completeFetch w0 w1 s) := by
  rw [completeFetch]
  split
  · exact startStage_congr (s := s) rfl rfl rfl ok
  · exact (afterEntry_keeps _ _ _ _).onBus.startStage (startStage_congr (s := s) rfl rfl rfl ok)

theorem placeDisposition_startStage (d : Disposition) (rest : List Disposition) {s : State} (ok : StartStage s) :
    StartStage (placeDisposition d rest s) := by
  have placed := (place_bus (slotAddr d.ring 7 s) d.word s).startStage ok
  revert placed
  rw [placeDisposition]
  generalize place (slotAddr d.ring 7 s) d.word s = u
  intro placed
  have retired (x : State) (h : StartStage x) : StartStage (retire x) := startStage_congr (s := x) rfl rfl rfl h
  exact retired _ ((offer_bus _ _).startStage (startStage_congr (s := u) rfl rfl rfl placed))

theorem OwnStep.startStage {s t : State} (h : OwnStep s t) (ok : StartStage s) : StartStage t := by
  cases h with
  | startFetch =>
    rw [Machine.startFetch]
    split
    · exact startStage_congr (s := s) rfl rfl rfl ok
    · exact ok
  | readFetch => exact (readFetch_bus s).startStage ok
  | returnData g =>
    have ok := (setGauge_step g s).bus.startStage ok
    rw [Machine.returnData]
    split
    · exact startStage_congr (s := setGauge g s) rfl rfl rfl ok
    · exact completeFetch_startStage _ _ ok
    all_goals exact ok
  | grantQueue => exact (grantTheQueue_bus s).startStage ok
  | startup => exact startupStep_startStage ok
  | dispose =>
    rw [Machine.dispose]
    split
    · exact ok
    · split
      · exact placeDisposition_startStage _ _ ok
      · exact ok
  | moveRecord => exact moveRecord_startStage ok
  | placeDue => exact (placeDue_bus s).startStage ok
  | snapshot => exact (takeSnapshot_bus s).startStage ok
  | reportPhase => exact (reportPhase_bus s).startStage ok

theorem RowStep.startStage {s t : State} {c : Instr} (h : RowStep s c t) (ok : StartStage s) : StartStage t := by
  cases h with
  | reset st p h => exact ⟨⟨Nat.zero_le _, nofun, nofun⟩, Nat.zero_le _, fun _ => Nat.zero_le _⟩
  | line h => exact h.bus.startStage ok
  | read addr lanes => exact (controllerReads_bus addr lanes s).startStage ok
  | write addr lanes data => exact (controllerWrites_onBus addr lanes data s).startStage ok
  | own h => exact h.startStage ok

/-! ### Working values and the write slot -/

/-- The working values but for word 12's, and the event ring's write index and slot, stay. -/
structure Apart (s t : State) : Prop where
  words : ∀ k, k ≠ 12 → t.setup k = s.setup k
  slot : t.rep.writeSlot = s.rep.writeSlot
  index : t.rep.writeIndex = s.rep.writeIndex

theorem Apart.refl (s : State) : Apart s s := ⟨fun _ _ => rfl, rfl, rfl⟩

theorem Apart.trans {s t u : State} (h : Apart s t) (k : Apart t u) : Apart s u :=
  ⟨fun n hn => (k.words n hn).trans (h.words n hn), k.slot.trans h.slot, k.index.trans h.index⟩

theorem Apart.after {s t u : State} (k : Apart t u) (h : Apart s t) : Apart s u := h.trans k

theorem Apart.same {s t : State} (shadow : t.path.shadow = s.path.shadow) (slot : t.rep.writeSlot = s.rep.writeSlot)
    (index : t.rep.writeIndex = s.rep.writeIndex) : Apart s t := ⟨fun n _ => setup_congr shadow n, slot, index⟩

theorem Granted.apart {s t : State} (h : Granted s t) : Apart s t := .same h.shadow h.writeSlot h.writeIndex

theorem OffBus.apart {s t : State} (h : OffBus s t) : Apart s t := by
  refine ⟨fun k hk => ?_, congrArg Fixed.writeSlot h.outer, congrArg Fixed.writeIndex h.outer⟩
  obtain same | ⟨p, -, set⟩ := h.shadow
  · exact setup_congr same k
  · exact (setup_of_set set k).resolve_right fun new => hk new.1

theorem Keeps.apart {s t : State} (h : Keeps s t) : Apart s t := h.step.toOffBus.apart

theorem recordOutcome_apart (o : CommandOutcome) (line : LineState) (s : State) : Apart s (recordOutcome o line s) := by
  rw [recordOutcome]
  exact (offer_keeps _ _).apart.after ((latch_keeps _ _).apart.after ((placeResult_granted _).apart.after (.same rfl rfl rfl)))

theorem decideCommand_apart (code : BitVec 8) (tag : Index) (s : State) : Apart s (decideCommand code tag s) := by
  rw [decideCommand]
  split
  · exact .refl s
  · refine (recordOutcome_apart _ _ _).after ?_
    obtain ⟨e, -⟩ | ⟨-, -, c, -, admitted, -, e⟩ := commandEffect_cases code s <;> rw [e]
    · exact .refl s
    · exact (effect_step admitted).1.apart

/-- R202: only the words of the ring's layout set the write slot. -/
theorem handSetup_apart {n : Nat} (hn : n ≠ 37 ∧ n ≠ 38) (v : Word) (s : State) : Apart s (handSetup n v s) := by
  rw [handSetup]
  split
  · exact decideCommand_apart _ _ s
  · split
    · exact .same rfl rfl rfl
    · split
      · exact (ticketsLowTest_keeps s).apart
      · rw [if_neg (not_or.mpr hn)]
        exact .refl s

theorem handSetup_layout {n : Nat} (hn : n = 37 ∨ n = 38) (v : Word) (s : State) :
    handSetup n v s = resetWriteSlot s := by
  obtain rfl | rfl := hn <;> rfl

theorem amendTicket_apart (t : Ticket) (one : Bool) (s : State) : Apart s (amendTicket t one s) := by
  rw [amendTicket]
  split
  · exact .refl s
  · have marked : Apart s (s.editTicket t.ring fun x => { x with amended := true }) := .same rfl rfl rfl
    exact (offer_keeps _ _).apart.after ((addTicketReason_keeps _ _ _).apart.after marked)

theorem handTicketWrite_apart (slot w : Nat) (lanes : Lanes) (s : State) : Apart s (handTicketWrite slot w lanes s) := by
  have amended (one : Bool) : Apart s (amendSlot slot one s) := by
    rw [amendSlot]
    split
    · exact amendTicket_apart _ _ _
    · exact .refl s
  have fetch (one : Bool) (u : State) : Apart u (amendFetch slot one u) := by
    rw [amendFetch]
    split <;> exact .same rfl rfl rfl
  rw [handTicketWrite]
  split
  · exact (fetch _ _).after (amended _)
  · exact .refl s

theorem writeThrough_apart (addr : Word) (lanes : Lanes) (data : Word) (s : State) :
    Apart s (writeThrough addr lanes data s) := by
  rw [writeThrough]
  split <;> exact .same rfl rfl rfl

/-- An access at the port changes working values only by an accepted setup write. -/
theorem portWrite_cases (addr : Word) (lanes : Lanes) (data : Word) (s : State) :
    Apart s (portWrite addr lanes data s) ∨
      ∃ n v, n < 40 ∧ judgeSetup n (mergedSetup n lanes data s) s = .ok v ∧
        portWrite addr lanes data s = handSetup n v (storeSetup n v s) := by
  by_cases setup : ∃ n, classify addr s = .setup n
  · obtain ⟨n, setup⟩ := setup
    rw [portWrite_setup setup]
    obtain ⟨reason, -, e⟩ | ⟨v, judged, e⟩ := setupWriteAt_cases n lanes data s
    · left
      rw [e, refuseSetup]
      exact (offer_keeps _ _).apart.after (.same rfl rfl rfl)
    · exact .inr ⟨n, v, classify_setup_lt setup, judged, e⟩
  · left
    rw [portWrite]
    split
    · next n h => exact absurd ⟨n, h⟩ setup
    · exact (endStep_keeps _).apart.after ((handTicketWrite_apart _ _ _ _).after (writeThrough_apart _ _ _ s))
    · exact writeThrough_apart _ _ _ s
    · exact writeThrough_apart _ _ _ s
    · exact writeThrough_apart _ _ _ s
    · exact (offer_keeps _ _).apart.after (.same rfl rfl rfl)

theorem portRead_apart (addr : Word) (lanes : Lanes) (s : State) : Apart s (portRead addr lanes s) := by
  rw [portRead]
  split
  · exact (offer_keeps _ _).apart.after (.same rfl rfl rfl)
  all_goals exact .same rfl rfl rfl

theorem completeFetch_apart (w0 w1 : Word) (s : State) : Apart s (completeFetch w0 w1 s) := by
  rw [completeFetch]
  split
  · exact .same rfl rfl rfl
  · exact (afterEntry_keeps _ _ _ _).apart.after (.same rfl rfl rfl)

theorem advanceStartup_apart (s : State) : Apart s (advanceStartup s) := by
  rw [advanceStartup]
  dsimp only
  split
  · rw [completeStartup]
    exact (estopCheck_step _).toOffBus.apart.after (.same rfl rfl rfl)
  · exact .same rfl rfl rfl

theorem startupStep_apart (s : State) : Apart s (startupStep s) := by
  have noted (n : Nat) (v : Word) (u : State) : Apart u (notePlaced n v u) := by
    rw [notePlaced]
    split <;> exact .same rfl rfl rfl
  rw [startupStep]
  split
  · rw [startupSetup]
    split
    · exact advanceStartup_apart s
    · split
      · exact (advanceStartup_apart _).after (place_granted _ _ s).apart
      · exact .refl s
  · split
    · rw [startupStatus]
      split
      · exact (advanceStartup_apart _).after ((noted _ _ _).after (place_granted _ _ s).apart)
      · exact .refl s
    · exact .refl s

theorem placeDisposition_apart (d : Disposition) (rest : List Disposition) (s : State) :
    Apart s (placeDisposition d rest s) := by
  have placed := (place_granted (slotAddr d.ring 7 s) d.word s).apart
  revert placed
  rw [placeDisposition]
  generalize place (slotAddr d.ring 7 s) d.word s = u
  intro placed
  have retired (x : State) : Apart x (retire x) := .same rfl rfl rfl
  exact (retired _).after ((offer_keeps _ _).apart.after (placed.trans (.same rfl rfl rfl)))

/-- The part's own traffic leaves the working values, and but for a record moved the write slot. -/
theorem OwnStep.apart {s t : State} (h : OwnStep s t) : Apart s t ∨ t = Machine.moveRecord s := by
  cases h with
  | startFetch =>
    left
    rw [Machine.startFetch]
    split <;> exact .same rfl rfl rfl
  | readFetch =>
    left
    rw [Machine.readFetch]
    split
    · exact (granted_granted _ s).apart
    · exact .refl s
  | returnData g =>
    left
    refine .after ?_ (setGauge_step g s).toOffBus.apart
    rw [Machine.returnData]
    split
    · exact .same rfl rfl rfl
    · exact completeFetch_apart _ _ _
    all_goals exact .refl _
  | grantQueue =>
    left
    rw [Machine.grantTheQueue]
    split
    · exact .refl s
    · exact (granted_granted _ s).apart
  | startup => exact .inl (startupStep_apart s)
  | dispose =>
    left
    rw [Machine.dispose]
    split
    · exact .refl s
    · split
      · exact placeDisposition_apart _ _ _
      · exact .refl s
  | moveRecord => exact .inr rfl
  | placeDue =>
    left
    rw [Machine.placeDue]
    split
    · exact (placeStatus_granted _ s).apart
    · exact .refl s
  | snapshot =>
    left
    rw [Machine.takeSnapshot]
    split <;> exact .same rfl rfl rfl
  | reportPhase =>
    left
    rw [Machine.reportPhase]
    split
    · exact (place_granted _ _ _).apart.after (.same rfl rfl rfl)
    · exact .refl s

/-! ### The event ring -/

/-- What the event ring's rules speak of. -/
theorem eventRingOk_congr {s t : State} (h : Apart s t) (ok : EventRingOk s) : EventRingOk t := by
  obtain ⟨slot, occupied⟩ := ok
  refine ⟨by rw [h.slot, State.setupN, h.words 38 (by decide)]; exact slot, ?_⟩
  rw [State.occupancy, State.readIndex, h.index, h.words 4 (by decide)]
  exact occupied

/-- R182: an accepted read index does not raise the occupancy. -/
theorem acceptedRead_occupancy {m v : Word} {s : State} (h : judgeSetup 4 m s = .ok v) :
    (s.rep.writeIndex - v.setWidth 16).toNat ≤ s.occupancy := by
  obtain ⟨-, accepted, range⟩ := judgeSetup_ok h
  rw [indexRefused_read, ← Bool.not_eq_true, readRefused_iff, Nat.not_lt] at accepted
  have same : m = v := Option.some.inj range
  rwa [← same]

theorem portWrite_eventRing (addr : Word) (lanes : Lanes) (data : Word) {s : State} (shadow : ShadowOk s)
    (ok : EventRingOk s) : EventRingOk (portWrite addr lanes data s) := by
  have kept := (portWrite_stored addr lanes data s).shadow shadow
  obtain apart | ⟨n, v, hn, judged, e⟩ := portWrite_cases addr lanes data s
  · exact eventRingOk_congr apart ok
  · obtain ⟨slot, occupied⟩ := ok
    rw [e] at kept ⊢
    have stored {k : Nat} (hk : k ≠ n) := storeSetup_setup_other hk v s
    by_cases layout : n = 37 ∨ n = 38
    · rw [handSetup_layout layout] at kept ⊢
      refine ⟨Nat.lt_of_lt_of_le (by decide : 0 < 16) kept.eventSlots.1, ?_⟩
      change (s.rep.writeIndex - ((storeSetup n v s).setup 4).setWidth 16).toNat ≤ 4096
      rw [stored (by omega)]
      exact occupied
    · have apart := handSetup_apart (not_or.mp layout) v (storeSetup n v s)
      refine ⟨?_, ?_⟩
      · rw [apart.slot, State.setupN, apart.words 38 (by decide), stored (by omega)]
        exact slot
      · rw [State.occupancy, State.readIndex, apart.index, apart.words 4 (by decide)]
        by_cases h4 : n = 4
        · subst h4
          rw [storeSetup_setup_same (by rw [shadow.1]; exact hn)]
          exact (acceptedRead_occupancy judged).trans occupied
        · rw [stored (Ne.symm h4)]
          exact occupied

theorem toNat_succ_sub (a b : Index) : (a + 1 - b).toNat ≤ (a - b).toNat + 1 := by
  have : a + 1 - b = a - b + 1 := by ring
  rw [this, BitVec.toNat_add]
  exact Nat.mod_le _ _

theorem moveRecord_eventRing {s : State} (shadow : ShadowOk s) (ok : EventRingOk s) : EventRingOk (moveRecord s) := by
  rw [moveRecord]
  split
  · exact ok
  · next r rest _ =>
    split
    · next moves =>
      have room : s.occupancy < s.setupN 38 := by
        rw [recordMoves, Bool.and_eq_true] at moves
        exact of_decide_eq_true moves.2
      have most := shadow.eventSlots.2
      have placed := placeWords_granted 0 r.words s
      revert placed
      generalize placeWords 0 r.words s = u
      intro placed
      refine eventRingOk_congr (eventsTest_keeps _ _).apart ⟨?_, ?_⟩
      · change nextSlot u < u.setupN 38
        rw [nextSlot]
        have := shadow.eventSlots.1
        rw [← placed.setupN 38] at this
        split <;> omega
      · change (u.rep.writeIndex + 1 - u.readIndex).toNat ≤ 4096
        have := toNat_succ_sub u.rep.writeIndex u.readIndex
        rw [State.occupancy, State.readIndex] at room
        rw [placed.writeIndex, State.readIndex, placed.setup] at this ⊢
        omega
    · exact ok

theorem RowStep.eventRing {s t : State} {c : Instr} (h : RowStep s c t) (shadow : ShadowOk s) (ok : EventRingOk s) :
    EventRingOk t := by
  cases h with
  | reset st p h =>
    have := (afterPinReset_shadowOk st p s.mem s.pending).eventSlots
    refine ⟨Nat.lt_of_lt_of_le (by decide : 0 < 16) this.1, ?_⟩
    rw [State.occupancy, State.readIndex, afterPinReset_setup st p s.mem s.pending (by decide)]
    change ((0 : Index) - (word 0).setWidth 16).toNat ≤ 4096
    decide
  | line h => exact eventRingOk_congr h.toOffBus.apart ok
  | read addr lanes =>
    exact eventRingOk_congr ((granted_granted .controller s).apart.trans (portRead_apart addr lanes _)) ok
  | write addr lanes data =>
    have granted := granted_granted .controller s
    exact portWrite_eventRing addr lanes data ((granted_stored .controller s).shadow shadow)
      (eventRingOk_congr granted.apart ok)
  | own h =>
    obtain apart | e := h.apart
    · exact eventRingOk_congr apart ok
    · rw [e]
      exact moveRecord_eventRing shadow ok

/-- Settles O9: start-up and staging by `RowStep.startStage`, the event ring by `RowStep.eventRing`. -/
theorem stepKeepsReports : Obligations.StepKeepsReports := by
  unfold Obligations.StepKeepsReports
  intro s t h
  obtain rfl | ⟨c, rest, -, row⟩ := step_row h
  · exact ⟨fun start stage => ⟨start, stage⟩, fun _ ring => ring⟩
  · exact ⟨fun start stage => row.startStage ⟨start, stage⟩, row.eventRing⟩

/-! ### The ticket ring -/

/-- The rules of the ticket ring together. -/
def RingSound (s : State) : Prop := TableOk s ∧ RingOk s ∧ PublishOk s ∧ SerialsOk s

/-- What the rules of the ticket ring speak of stays; a fetch may end. -/
structure RingKept (s t : State) : Prop where
  tickets : t.tix.table.map Ticket.fetched = s.tix.table.map Ticket.fetched
  fetchIndex : t.tix.fetchIndex = s.tix.fetchIndex
  retireIndex : t.tix.retireIndex = s.tix.retireIndex
  fetching : t.tix.fetch ≠ .idle → s.tix.fetch ≠ .idle
  publish : t.publish = s.publish
  slots : t.setupN 36 = s.setupN 36

theorem RingKept.trans {s t u : State} (h : RingKept s t) (k : RingKept t u) : RingKept s u :=
  ⟨k.tickets.trans h.tickets, k.fetchIndex.trans h.fetchIndex, k.retireIndex.trans h.retireIndex,
    h.fetching ∘ k.fetching, k.publish.trans h.publish, k.slots.trans h.slots⟩

theorem RingKept.after {s t u : State} (k : RingKept t u) (h : RingKept s t) : RingKept s u := h.trans k

theorem RingKept.same {s t : State} (tix : t.tix = s.tix) (shadow : t.path.shadow = s.path.shadow) : RingKept s t :=
  ⟨by rw [tix], by rw [tix], by rw [tix], by rw [tix]; exact id, by rw [State.publish, setup_congr shadow]; rfl,
    setupN_congr shadow 36⟩

theorem RingKept.refl (s : State) : RingKept s s := .same rfl rfl

theorem OnBus.ring {s t : State} (h : OnBus s t) (k : Apart s t) : RingKept s t :=
  ⟨congrArg (·.2.2.2.2.1) h.bus, congrArg (·.2.2.2.2.2.1) h.bus, congrArg (·.2.2.2.2.2.2) h.bus, h.fetching,
    by rw [State.publish, k.words 3 (by decide)]; rfl, by rw [State.setupN, k.words 36 (by decide)]; rfl⟩

theorem OffBus.ring {s t : State} (h : OffBus s t) : RingKept s t := h.bus.ring h.apart

theorem Keeps.ring {s t : State} (h : Keeps s t) : RingKept s t := h.step.toOffBus.ring

theorem tickets_length {s t : State} (h : t.tix.table.map Ticket.fetched = s.tix.table.map Ticket.fetched) :
    t.tix.table.length = s.tix.table.length := by
  have := congrArg List.length h
  rwa [List.length_map, List.length_map] at this

theorem tickets_rings {s t : State} (h : t.tix.table.map Ticket.fetched = s.tix.table.map Ticket.fetched) :
    t.tix.table.map Ticket.ring = s.tix.table.map Ticket.ring := by
  have := congrArg (List.map (·.1)) h
  rwa [List.map_map, List.map_map] at this

/-- R70: the serials as the fetched fields have them. -/
theorem serialsOk_iff (s : State) : SerialsOk s ↔ (s.tix.table.map Ticket.fetched).Pairwise fun a b =>
    a.2.2.2.2.2.2 = none → b.2.2.2.2.2.2 = none → a.2.1 ≠ b.2.1 := by
  rw [List.pairwise_map]
  rfl

theorem serialsOk_congr {s t : State} (h : t.tix.table.map Ticket.fetched = s.tix.table.map Ticket.fetched)
    (ok : SerialsOk s) : SerialsOk t := by
  rw [serialsOk_iff] at ok ⊢
  rwa [h]

theorem tableOk_congr {s t : State} (tickets : t.tix.table.map Ticket.fetched = s.tix.table.map Ticket.fetched)
    (fetching : t.tix.fetch ≠ .idle → s.tix.fetch ≠ .idle) (ok : TableOk s) : TableOk t := by
  rw [TableOk, tickets_length tickets]
  exact ⟨ok.1, fun busy => ok.2 (fetching busy)⟩

theorem ringOk_congr {s t : State} (tickets : t.tix.table.map Ticket.fetched = s.tix.table.map Ticket.fetched)
    (fetchIndex : t.tix.fetchIndex = s.tix.fetchIndex) (retireIndex : t.tix.retireIndex = s.tix.retireIndex)
    (ok : RingOk s) : RingOk t := by
  rw [RingOk, tickets_length tickets, tickets_rings tickets, fetchIndex, retireIndex]
  exact ok

theorem RingKept.sound {s t : State} (h : RingKept s t) (ok : RingSound s) : RingSound t := by
  obtain ⟨table, ring, publish, serials⟩ := ok
  refine ⟨tableOk_congr h.tickets h.fetching table, ringOk_congr h.tickets h.fetchIndex h.retireIndex ring, ?_,
    serialsOk_congr h.tickets serials⟩
  rw [PublishOk, h.publish, h.slots, h.fetchIndex, h.retireIndex]
  exact publish

/-! ### Setup writes and the ring -/

theorem publish_or {s t : State} {n : Nat} {v : Word} (h : t.path.shadow = s.path.shadow.set n v) :
    t.publish = s.publish ∨ n = 3 ∧ t.publish = v.setWidth 16 := by
  obtain same | ⟨three, new⟩ := setup_of_set h 3
  · exact .inl (by rw [State.publish, same]; rfl)
  · exact .inr ⟨three.symm, by rw [State.publish, new]⟩

/-- R182: an accepted publish index keeps its bounds; R180: the ring's slots change only while it is empty. -/
theorem storeSetup_publishOk {n : Nat} {m v : Word} {s : State} (judged : judgeSetup n m s = .ok v) (ok : PublishOk s) :
    PublishOk (storeSetup n v s) := by
  obtain ⟨unlocked, accepted, range⟩ := judgeSetup_ok judged
  have shadow : (storeSetup n v s).path.shadow = s.path.shadow.set n v := rfl
  change (State.publish _ - s.tix.retireIndex).toNat ≤ _ ∧
    (s.tix.fetchIndex - s.tix.retireIndex).toNat ≤ (State.publish _ - s.tix.retireIndex).toNat
  by_cases h3 : n = 3
  · subst h3
    have slots : (storeSetup 3 v s).setupN 36 = s.setupN 36 := by
      rw [State.setupN, storeSetup_setup_other (by decide)]; rfl
    rw [slots]
    obtain same | ⟨-, new⟩ := publish_or shadow
    · rw [same]; exact ok
    · have same : m = v := Option.some.inj range
      rw [indexRefused_publish, ← Bool.not_eq_true, publishRefused_iff, not_or, Nat.not_lt, Nat.not_lt, same] at accepted
      rw [new]
      exact accepted
  · have publish : (storeSetup n v s).publish = s.publish := (publish_or shadow).resolve_right fun new => h3 new.1
    rw [publish]
    refine ⟨?_, ok.2⟩
    by_cases h36 : n = 36
    · subst h36
      have empty : s.publish = s.tix.retireIndex := by
        rw [setupLocked, Bool.or_eq_false_iff, Bool.and_eq_false_iff] at unlocked
        simp only [decide_true, Bool.or_true, Bool.true_and, Bool.or_eq_false_iff, decide_eq_false_iff_not, ne_eq, not_not] at unlocked
        exact unlocked.2.1
      rw [empty, BitVec.sub_self]
      exact Nat.zero_le _
    · rw [State.setupN, storeSetup_setup_other (Ne.symm h36)]
      exact ok.1

theorem handSetup_ring (n : Nat) (v : Word) (s : State) : RingKept s (handSetup n v s) := by
  by_cases layout : n = 37 ∨ n = 38
  · rw [handSetup_layout layout]
    exact .same rfl rfl
  · exact (handSetup_onBus n v s).ring (handSetup_apart (not_or.mp layout) v s)

theorem portWrite_ringSound (addr : Word) (lanes : Lanes) (data : Word) {s : State} (ok : RingSound s) :
    RingSound (portWrite addr lanes data s) := by
  obtain apart | ⟨n, v, -, judged, e⟩ := portWrite_cases addr lanes data s
  · exact ((portWrite_onBus addr lanes data s).ring apart).sound ok
  · rw [e]
    obtain ⟨table, ring, publish, serials⟩ := ok
    exact (handSetup_ring n v _).sound ⟨table, ring, storeSetup_publishOk judged publish, serials⟩

/-! ### Fetches and retirement -/

theorem toNat_add_ofNat_sub (a b : Index) {n : Nat} (h : n ≤ (b - a).toNat) :
    (b - (a + BitVec.ofNat 16 n)).toNat = (b - a).toNat - n := by
  bv_omega

theorem toNat_succ_sub_le {f p r : Index} (behind : (f - r).toNat ≤ (p - r).toNat) (h : p ≠ f) :
    (f + 1 - r).toNat ≤ (p - r).toNat := by
  have distinct : (f - r).toNat ≠ (p - r).toNat := fun e => h ((BitVec.sub_left_inj r).mp (BitVec.eq_of_toNat_eq e.symm))
  have next : f + 1 - r = f - r + 1 := by ring
  rw [next]
  bv_omega

/-- R66, R70: the ticket that enters is the next of the ring, and its serial is not another's. -/
theorem enterTicket_sound (w0 w1 : Word) {s : State} (fetching : s.tix.fetch ≠ .idle)
    (published : s.publish ≠ s.tix.fetchIndex) (ok : RingSound s) :
    RingSound (enterTicket (newTicket w0 w1 s) (endFetch s)) := by
  obtain ⟨⟨-, room⟩, ⟨next, rings⟩, ⟨slots, behind⟩, serials⟩ := ok
  have room : s.tix.table.length < 16 := room fetching
  refine ⟨⟨?_, fun busy => absurd rfl busy⟩, ⟨?_, ?_⟩, ⟨slots, ?_⟩, ?_⟩
  · change (s.tix.table ++ [newTicket w0 w1 s]).length ≤ 16
    rw [List.length_append]
    exact room
  · change s.tix.fetchIndex + 1 = s.tix.retireIndex + BitVec.ofNat 16 (s.tix.table ++ [newTicket w0 w1 s]).length
    rw [List.length_append, next, BitVec.add_assoc, List.length_singleton, BitVec.ofNat_add]
    rfl
  · change (s.tix.table ++ [newTicket w0 w1 s]).map Ticket.ring = (List.range (s.tix.table ++ [newTicket w0 w1 s]).length).map
      fun i => s.tix.retireIndex + BitVec.ofNat 16 i
    rw [List.length_append, List.map_append, rings, List.length_singleton, List.range_succ, List.map_append, List.map_singleton,
      List.map_singleton, ← next]
    rfl
  · change (s.tix.fetchIndex + 1 - s.tix.retireIndex).toNat ≤ (s.publish - s.tix.retireIndex).toNat
    exact toNat_succ_sub_le behind published
  · change (s.tix.table ++ [newTicket w0 w1 s]).Pairwise _
    refine List.pairwise_append.mpr ⟨serials, List.pairwise_singleton _ _, fun a ha b hb => ?_⟩
    obtain rfl := List.mem_singleton.mp hb
    intro valid fresh same
    have none : validate w0 w1 s = none := fresh
    have unique : (s.tix.table.any fun t => t.invalid.isNone && decide (t.serial = serialOf w0)) = false := by
      rw [validate] at none
      by_contra shared
      rw [Bool.not_eq_false] at shared
      simp only [shared] at none
      split_ifs at none
    rw [List.any_eq_false] at unique
    exact unique a ha (by rw [valid]; exact decide_eq_true same)

theorem completeFetch_sound (w0 w1 : Word) {s : State} (fetching : s.tix.fetch ≠ .idle) (ok : RingSound s) :
    RingSound (completeFetch w0 w1 s) := by
  rw [completeFetch]
  split
  · have ended : RingKept s (endFetch s) := ⟨rfl, rfl, rfl, fun busy => absurd rfl busy, rfl, rfl⟩
    exact ended.sound ok
  · next published => exact (afterEntry_keeps _ _ _ _).ring.sound (enterTicket_sound w0 w1 fetching published ok)

/-- R68: retirement takes tickets from the oldest end of the ring. -/
theorem retire_sound {s : State} (ok : RingSound s) : RingSound (retire s) := by
  obtain ⟨⟨most, room⟩, ⟨next, rings⟩, ⟨slots, behind⟩, serials⟩ := ok
  have few : disposedAtFront s.tix.table ≤ s.tix.table.length := (List.takeWhile_sublist _).length_le
  have most : s.tix.table.length ≤ 16 := most
  have whole : (s.tix.fetchIndex - s.tix.retireIndex).toNat = s.tix.table.length := by
    rw [next]
    bv_omega
  have table : (retire s).tix.table = s.tix.table.drop (disposedAtFront s.tix.table) := rfl
  have index : (retire s).tix.retireIndex = s.tix.retireIndex + BitVec.ofNat 16 (disposedAtFront s.tix.table) := rfl
  generalize disposedAtFront s.tix.table = n at *
  have shorter : (s.tix.table.drop n).length = s.tix.table.length - n := List.length_drop
  refine ⟨⟨?_, fun busy => ?_⟩, ⟨?_, ?_⟩, ⟨?_, ?_⟩, ?_⟩
  · rw [table, shorter]
    exact (Nat.sub_le _ _).trans most
  · rw [table, shorter]
    exact Nat.lt_of_le_of_lt (Nat.sub_le _ _) (room busy)
  · rw [table, shorter, index]
    change s.tix.fetchIndex = _
    rw [next]
    bv_omega
  · rw [table, List.map_drop, rings, shorter, index]
    apply List.ext_getElem
    · simp
    · intro i _ _
      simp [BitVec.add_assoc, BitVec.ofNat_add]
  · rw [index]
    change (s.publish - _).toNat ≤ s.setupN 36
    rw [toNat_add_ofNat_sub _ _ (by omega)]
    omega
  · rw [index]
    change (s.tix.fetchIndex - _).toNat ≤ (s.publish - _).toNat
    rw [toNat_add_ofNat_sub _ _ (by omega), toNat_add_ofNat_sub _ _ (by omega)]
    omega
  · rw [SerialsOk, table]
    exact serials.sublist (List.drop_sublist n _)

theorem placeDisposition_sound (d : Disposition) (rest : List Disposition) {s : State} (ok : RingSound s) :
    RingSound (placeDisposition d rest s) := by
  have placed := (place_bus (slotAddr d.ring 7 s) d.word s).toOnBus.ring (place_granted _ _ s).apart
  revert placed
  rw [placeDisposition]
  generalize place (slotAddr d.ring 7 s) d.word s = u
  intro placed
  have disposed : RingKept u (u.editTicket d.ring fun t => { t with state := .disposed }) :=
    (editTicket_keeps u d.ring (fun t => { t with state := .disposed }) fun _ => rfl).ring
  have noted : RingKept (u.editTicket d.ring fun t => { t with state := .disposed })
      { u.editTicket d.ring fun t => { t with state := .disposed } with tix := {
        (u.editTicket d.ring fun t => { t with state := .disposed }).tix with
          waiting := rest, retired := retireSerial d.serial u.tix.retired } } := ⟨rfl, rfl, rfl, id, rfl, rfl⟩
  exact retire_sound ((((placed.trans disposed).trans noted).trans (offer_keeps _ _).ring).sound ok)

theorem advanceStartup_ring (s : State) : RingKept s (advanceStartup s) := by
  rw [advanceStartup]
  dsimp only
  split
  · rw [completeStartup]
    exact (estopCheck_step _).toOffBus.ring.after (.same rfl rfl)
  · exact .same rfl rfl

theorem place_ring (a d : Word) (s : State) : RingKept s (place a d s) :=
  .same (place_tix a d s) (place_granted a d s).shadow

theorem startupStep_ring (s : State) : RingKept s (startupStep s) := by
  have noted (n : Nat) (v : Word) (u : State) : RingKept u (notePlaced n v u) := by
    rw [notePlaced]
    split <;> exact .same rfl rfl
  rw [startupStep]
  split
  · rw [startupSetup]
    split
    · exact advanceStartup_ring s
    · split
      · exact (advanceStartup_ring _).after (place_ring _ _ s)
      · exact .refl s
  · split
    · rw [startupStatus]
      split
      · exact (advanceStartup_ring _).after ((noted _ _ _).after (place_ring _ _ s))
      · exact .refl s
    · exact .refl s

theorem moveRecord_ring (s : State) : RingKept s (moveRecord s) := by
  rw [moveRecord]
  split
  · exact .refl s
  · next r rest _ =>
    split
    · have tix := placeWords_tix 0 r.words s
      have placed := placeWords_granted 0 r.words s
      revert placed tix
      generalize placeWords 0 r.words s = u
      intro tix placed
      exact (eventsTest_keeps _ _).ring.after (.same tix placed.shadow)
    · exact .refl s

theorem OwnStep.sound {s t : State} (h : OwnStep s t) (ok : RingSound s) : RingSound t := by
  cases h with
  | startFetch =>
    rw [Machine.startFetch]
    split
    · next begins =>
      rw [fetchBegins, Bool.and_eq_true] at begins
      exact ⟨⟨ok.1.1, fun _ => of_decide_eq_true begins.2⟩, ok.2⟩
    · exact ok
  | readFetch =>
    refine ((readFetch_bus s).toOnBus.ring ?_).sound ok
    rw [Machine.readFetch]
    split
    · exact (granted_granted _ s).apart
    · exact .refl s
  | returnData g =>
    have ok := (setGauge_step g s).toOffBus.ring.sound ok
    rw [Machine.returnData]
    split
    · next w0 flight =>
      have kept : RingKept (setGauge g s) (setFetch (.due1 w0) (setGauge g s)) :=
        ⟨rfl, rfl, rfl, fun _ => by rw [flight]; nofun, rfl, rfl⟩
      exact kept.sound ok
    · next flight => exact completeFetch_sound _ _ (by rw [flight]; nofun) ok
    all_goals exact ok
  | grantQueue =>
    refine ((grantTheQueue_bus s).toOnBus.ring ?_).sound ok
    rw [Machine.grantTheQueue]
    split
    · exact .refl s
    · exact (granted_granted _ s).apart
  | startup => exact (startupStep_ring s).sound ok
  | dispose =>
    rw [Machine.dispose]
    split
    · exact ok
    · split
      · exact placeDisposition_sound _ _ ok
      · exact ok
  | moveRecord => exact (moveRecord_ring s).sound ok
  | placeDue =>
    refine ((placeDue_bus s).toOnBus.ring ?_).sound ok
    rw [Machine.placeDue]
    split
    · exact (placeStatus_granted _ s).apart
    · exact .refl s
  | snapshot =>
    refine RingKept.sound ?_ ok
    rw [Machine.takeSnapshot]
    split <;> exact .same rfl rfl
  | reportPhase =>
    refine RingKept.sound ?_ ok
    rw [Machine.reportPhase]
    split
    · exact (place_ring _ _ _).after (.same rfl rfl)
    · exact .refl s

theorem RowStep.sound {s t : State} {c : Instr} (h : RowStep s c t) (ok : RingSound s) : RingSound t := by
  cases h with
  | reset st p h =>
    have publish : (State.afterPinReset st p s.mem s.pending).publish = 0 := by
      rw [State.publish, afterPinReset_setup st p s.mem s.pending (by decide)]
      rfl
    refine ⟨⟨Nat.zero_le _, fun busy => absurd rfl busy⟩, ⟨rfl, rfl⟩, ?_, .nil⟩
    rw [PublishOk, publish]
    exact ⟨show ((0 : Index) - 0).toNat ≤ _ from Nat.zero_le _, le_rfl⟩
  | line h => exact h.toOffBus.ring.sound ok
  | read addr lanes =>
    exact ((controllerReads_bus addr lanes s).toOnBus.ring
      ((granted_granted .controller s).apart.trans (portRead_apart addr lanes _))).sound ok
  | write addr lanes data =>
    have granted := (granted_bus .controller s).toOnBus.ring (granted_granted .controller s).apart
    exact portWrite_ringSound addr lanes data (granted.sound ok)
  | own h => exact h.sound ok

/-- Settles O10: the ring by `RowStep.sound`. -/
theorem stepKeepsTicketTable : Obligations.StepKeepsTicketTable := by
  unfold Obligations.StepKeepsTicketTable
  intro s t ok h
  obtain rfl | ⟨c, rest, -, row⟩ := step_row h
  · exact ok
  · exact row.sound ok

/-! ### The queue of commands and reset -/

/-- Settles O1. -/
theorem stepExecutesFrontCommand : Obligations.StepExecutesFrontCommand := by
  unfold Obligations.StepExecutesFrontCommand
  intro c rest s
  rfl

/-- The pockets are empty after a pin reset. -/
theorem afterPinReset_pocketOk (st : Straps) (p : Pins) (mem : Memory) (pending : List Instr) :
    PocketOk (State.afterPinReset st p mem pending) := by
  refine ⟨⟨?_, nofun, nofun, nofun, nofun, nofun⟩, ⟨?_, nofun, nofun, ?_, nofun⟩, nofun, ?_⟩ <;>
    simp [State.afterPinReset, Accumulator.reset, ReleaseUnit.reset, foldReleasing]

/-- The indexes of the rings are 0 after a pin reset. -/
theorem afterPinReset_rings (st : Straps) (p : Pins) (mem : Memory) (pending : List Instr) :
    (State.afterPinReset st p mem pending).publish = 0 ∧ (State.afterPinReset st p mem pending).occupancy = 0 := by
  rw [State.publish, State.occupancy, State.readIndex, afterPinReset_setup _ _ _ _ (by decide),
    afterPinReset_setup _ _ _ _ (by decide)]
  exact ⟨rfl, show ((0 : Index) - (word 0).setWidth 16).toNat = 0 by decide⟩

/-- Settles O2: everything is empty after reset, and the working values are the defaults of R195. -/
theorem resetMeetsEveryCondition : Obligations.ResetMeetsEveryCondition := by
  unfold Obligations.ResetMeetsEveryCondition
  have shadow : ShadowOk State.reset := afterPinReset_shadowOk _ _ _ _
  obtain ⟨publish, occupancy⟩ := afterPinReset_rings { memSize := 0, setupPage := 0 } Pins.quiet [] []
  refine ⟨⟨rfl, rfl, rfl, rfl, rfl, rfl⟩, fun _ => ⟨rfl, rfl, rfl, rfl, rfl, rfl, rfl, rfl, rfl⟩,
    ⟨Nat.zero_le _, fun _ => rfl⟩, afterPinReset_pocketOk _ _ _ _, ⟨Nat.zero_le _, .nil⟩, nofun, shadow,
    ⟨Nat.zero_le _, nofun, nofun⟩, ⟨Nat.zero_le _, fun _ => Nat.zero_le _⟩, ⟨?slot, ?occupied⟩,
    ⟨Nat.zero_le _, fun busy => absurd rfl busy⟩, ⟨rfl, rfl⟩, ?published, .nil, rfl⟩
  case slot => exact Nat.lt_of_lt_of_le (by decide : 0 < 16) shadow.eventSlots.1
  case occupied => exact occupancy.trans_le (Nat.zero_le _)
  case published =>
    rw [PublishOk, State.reset, publish]
    exact ⟨show ((0 : Index) - 0).toNat ≤ _ from Nat.zero_le _, le_rfl⟩

/-- Settles O3: each block's reset values, and the defaults of the setup words. -/
theorem pinResetLeavesResetValues : Obligations.PinResetLeavesResetValues := by
  unfold Obligations.PinResetLeavesResetValues
  intro st p s
  obtain ⟨publish, -⟩ := afterPinReset_rings st p s.mem s.pending
  have enabled : (State.afterPinReset st p s.mem s.pending).irqN = true := by
    simp [State.irqN, State.enabledCauses, State.afterPinReset, Reporter.reset]
  have unwritten (n : Nat) (hn : n < 40) : (List.replicate 40 false).getD n true = false := by
    rw [List.getD_eq_getElem?_getD, List.getElem?_replicate, if_pos hn]
    rfl
  refine ⟨State.afterPinReset st p s.mem s.pending, rfl, rfl, rfl, fun _ => rfl, rfl, rfl, rfl, rfl, rfl, rfl, rfl,
    rfl, rfl, rfl, rfl, rfl, rfl, rfl, rfl, rfl, rfl, rfl, rfl, rfl, rfl, rfl, rfl, rfl, rfl, rfl, rfl, rfl, rfl,
    enabled, rfl, rfl, rfl, rfl, rfl, rfl, rfl, rfl, rfl, rfl, rfl, rfl, rfl, rfl, rfl, rfl, rfl, rfl, rfl, rfl, rfl,
    rfl, rfl, rfl, rfl, publish, rfl, rfl, rfl, rfl, rfl, rfl, rfl, rfl, rfl, rfl, rfl, rfl, rfl, rfl, rfl, rfl, rfl,
    rfl, rfl, rfl, rfl, rfl, rfl, rfl, rfl, ?setup⟩
  case setup =>
    exact fun n hn => ⟨afterPinReset_setup st p s.mem s.pending hn, unwritten n hn⟩

/-! ### Arithmetic -/

/-- Settles O12: the signed difference of a word is its value below 2^31, and 2^32 less from there on. -/
theorem reachIsSignedOrder : Obligations.ReachIsSignedOrder := by
  unfold Obligations.ReachIsSignedOrder
  intro p t
  have near : reached p t = true ↔ (p - t).toNat < 2147483648 := decide_eq_true_iff
  have signed : signedDiff p t = if (p - t).toNat < 2147483648 then ((p - t).toNat : Int) else (p - t).toNat - 4294967296 := by
    rw [signedDiff, BitVec.toInt_eq_toNat_cond]
    split <;> split <;> omega
  have most := (p - t).isLt
  refine ⟨near, ?order, ?least, ?greatest, ?opposite, ?past⟩
  case order =>
    rw [near, signed]
    split <;> omega
  case least =>
    rw [signed]
    split <;> omega
  case greatest =>
    rw [signed]
    split <;> omega
  case opposite =>
    intro h
    rw [← Bool.not_eq_true, near, signed, h]
    exact ⟨by decide, rfl⟩
  case past => rw [passed, Bool.and_eq_true, bne_iff_ne]

/-! ### SNAP_END -/

/-- A timer expires exactly when it runs with nothing left. -/
theorem expired_iff (t : Timer) : t.expired = true ↔ t = { running := true, left := 0 } := by
  obtain ⟨running, left⟩ := t
  rw [Timer.expired, Bool.and_eq_true, decide_eq_true_eq, Timer.mk.injEq]

/-- Settles O26: `snapEnds` tests the expiry. -/
theorem snapEndLowersSnap : Obligations.SnapEndLowersSnap := by
  unfold Obligations.SnapEndLowersSnap
  intro s
  have e : exec .snapEnd s = .next (snapEnds s) := rfl
  rw [e, snapEnds]
  refine ⟨fun h => ?_, fun h => ?_⟩
  · rw [if_pos ((expired_iff _).mpr h)]
    rfl
  · rw [if_neg fun due => h ((expired_iff _).mp due)]

/-! ### The tick of the profile (R15 to R17) -/

theorem profile_speed (goal acc dec v rem : Nat) (r : Option Int) :
    (profile goal acc dec v rem r).speed = creep goal r (profileSpeed goal acc dec v (r.map (permittedSpeed dec))) := by
  cases r with
  | none => rfl
  | some d =>
    rw [profile]
    split <;> rfl

/-- R15: before the creep the speed sheds at most one tick of deceleration, and gains at most one of acceleration up
to the goal in force. -/
theorem profileSpeed_bounds (goal acc dec v : Nat) (vp : Option Nat) :
    v - dec / 1000 ≤ profileSpeed goal acc dec v vp ∧
      profileSpeed goal acc dec v vp ≤ max (v + acc / 1000) (v - dec / 1000) ∧
      profileSpeed goal acc dec v vp ≤ max goal (v - dec / 1000) := by
  rw [profileSpeed.eq_def]
  cases vp <;> dsimp only <;> omega

/-- R16: the creep raises a speed below 200 to 200, and no other. -/
theorem creep_bounds (goal : Nat) (r : Option Int) (v : Nat) :
    v ≤ creep goal r v ∧ creep goal r v ≤ max v 200 ∧ (∀ d, r = some d → 0 < d → goal ≠ 0 → 200 ≤ creep goal r v) := by
  cases r with
  | none => exact ⟨le_rfl, Nat.le_max_left _ _, nofun⟩
  | some d =>
    rw [creep]
    split
    · next slow => exact ⟨slow.2.2.le, Nat.le_max_right _ _, fun _ _ _ _ => le_rfl⟩
    · next fast =>
      refine ⟨le_rfl, Nat.le_max_left _ _, fun e he ahead going => ?_⟩
      cases he
      by_contra slow
      exact fast ⟨ahead, going, Nat.lt_of_not_le slow⟩

/-- R17: without a target each tick's speed is paid out in pulses and remainder. -/
theorem profile_account (goal acc dec v rem : Nat) :
    1000 * (profile goal acc dec v rem none).due + (profile goal acc dec v rem none).remainder =
      rem + (profile goal acc dec v rem none).speed := by
  rw [profile]
  exact Nat.div_add_mod _ _

/-- R17: with a target the pulses end at it. -/
theorem profile_due_le (goal acc dec v rem : Nat) (d : Int) :
    ((profile goal acc dec v rem (some d)).due : Int) ≤ max d 0 := by
  rw [profile]
  split
  · exact (Int.toNat_eq_max d).le
  · next within => exact (Int.not_lt.mp within).trans (le_max_left _ _)

/-- Settles O14: the speed by `profileSpeed_bounds` and `creep_bounds`, the pulses by `profile_account` and
`profile_due_le`. -/
theorem profileTickBounds : Obligations.ProfileTickBounds := by
  unfold Obligations.ProfileTickBounds
  intro goal acc dec v rem r
  have speed := profile_speed goal acc dec v rem r
  obtain ⟨least, gained, inForce⟩ := profileSpeed_bounds goal acc dec v (r.map (permittedSpeed dec))
  obtain ⟨raised, capped, crept⟩ := creep_bounds goal r (profileSpeed goal acc dec v (r.map (permittedSpeed dec)))
  refine ⟨?_, ?_, profile_remainder goal acc dec v rem r, ?_, ?_, ?_, ?_⟩
  · rintro rfl
    exact profile_account goal acc dec v rem
  · rintro d rfl
    exact profile_due_le goal acc dec v rem d
  · omega
  · omega
  · omega
  · rwa [speed]

/-! ### The snapshot -/

theorem getD_set_self {α : Type} {l : List α} {n : Nat} (h : n < l.length) (a d : α) : (l.set n a).getD n d = a := by
  rw [List.getD_eq_getElem?_getD, List.getElem?_set_self h, Option.getD_some]

theorem getD_set_ne {α : Type} (l : List α) {m n : Nat} (h : m ≠ n) (a d : α) : (l.set m a).getD n d = l.getD n d := by
  rw [List.getD_eq_getElem?_getD, List.getElem?_set_ne h, ← List.getD_eq_getElem?_getD]

/-- R206: the due marks after the first `k` of the five words. -/
def snapDuesBelow (k : Nat) (values : List Word) (placed : List (Option Word)) (due : List Bool) : List Bool :=
  (List.range k).foldl (fun d i =>
    if placed.getD i none = some (values.getD i 0) then d else d.set (9 + i) true) due

theorem snapDues_eq (values : List Word) (placed : List (Option Word)) (due : List Bool) :
    snapDues values placed due = snapDuesBelow 5 values placed due := rfl

theorem snapDuesBelow_succ (k : Nat) (values : List Word) (placed : List (Option Word)) (due : List Bool) :
    snapDuesBelow (k + 1) values placed due =
      if placed.getD k none = some (values.getD k 0) then snapDuesBelow k values placed due
      else (snapDuesBelow k values placed due).set (9 + k) true := by
  rw [snapDuesBelow, List.range_succ, List.foldl_append]
  rfl

/-- R206: a snapshot word is due when it was, or when its value is not the one last placed; the others stay. -/
theorem snapDuesBelow_getD {values : List Word} {placed : List (Option Word)} {due : List Bool} (length : due.length = 16)
    (k : Nat) (hk : k ≤ 5) :
    (snapDuesBelow k values placed due).length = 16 ∧
      ∀ n, (snapDuesBelow k values placed due).getD n false =
        (due.getD n false || decide (9 ≤ n ∧ n < 9 + k ∧ placed.getD (n - 9) none ≠ some (values.getD (n - 9) 0))) := by
  induction k with
  | zero =>
    refine ⟨length, fun n => ?_⟩
    rw [decide_eq_false (by omega), Bool.or_false]
    rfl
  | succ k ih =>
    obtain ⟨len, before⟩ := ih (by omega)
    rw [snapDuesBelow_succ]
    split
    · next stands =>
      refine ⟨len, fun n => ?_⟩
      rw [before]
      congr 1
      rw [decide_eq_decide]
      refine ⟨fun ⟨h1, h2, h3⟩ => ⟨h1, by omega, h3⟩, fun ⟨h1, h2, h3⟩ => ⟨h1, ?_, h3⟩⟩
      by_contra last
      obtain rfl : n = 9 + k := by omega
      rw [Nat.add_sub_cancel_left] at h3
      exact h3 stands
    · next differs =>
      refine ⟨by rw [List.length_set, len], fun n => ?_⟩
      by_cases last : n = 9 + k
      · subst last
        rw [getD_set_self (by omega), decide_eq_true (by
          rw [Nat.add_sub_cancel_left]
          exact ⟨by omega, by omega, differs⟩), Bool.or_true]
      · rw [getD_set_ne _ (Ne.symm last), before]
        congr 1
        rw [decide_eq_decide]
        exact ⟨fun ⟨h1, h2, h3⟩ => ⟨h1, by omega, h3⟩, fun ⟨h1, h2, h3⟩ => ⟨h1, by omega, h3⟩⟩

/-- Settles O60: the due marks by `snapDuesBelow_getD`. -/
theorem snapshotHandsOverFiveWords : Obligations.SnapshotHandsOverFiveWords := by
  unfold Obligations.SnapshotHandsOverFiveWords
  intro s length
  have taken : exec .snapshot s = .next (takeSnapshot s) := rfl
  rw [taken, takeSnapshot]
  refine ⟨fun due => ?_, fun idle => by rw [idle]; rfl⟩
  rw [if_pos due]
  obtain ⟨-, dues⟩ := snapDuesBelow_getD (values := s.snapNow) (placed := s.rep.snapPlaced) length 5 le_rfl
  rw [← snapDues_eq] at dues
  refine ⟨_, rfl, rfl, rfl, fun i hi => ?_, fun n hn => ?_, rfl, rfl, rfl, rfl, sameLine_refl s⟩
  · have value : s.snapNow[i]? = some (s.snapNow.getD i 0) := by
      rw [List.getD_eq_getElem?_getD, List.getElem?_eq_getElem (show i < 5 from hi)]
      rfl
    change (snapDues s.snapNow s.rep.snapPlaced s.rep.due).getD (9 + i) false = true ↔ _ ∨ _ ≠ s.snapNow[i]?
    rw [dues, value, Bool.or_eq_true, decide_eq_true_eq, Nat.add_sub_cancel_left]
    refine or_congr_right ⟨fun ⟨_, _, h⟩ => h, fun h => ⟨by omega, by omega, h⟩⟩
  · change (snapDues s.snapNow s.rep.snapPlaced s.rep.due).getD n false = _
    rw [dues, decide_eq_false (by omega), Bool.or_false]

/-! ### Causes -/

theorem cause_bit_ne_zero (c : Cause) : c.bit ≠ 0 := by cases c <;> decide

/-- A cause stands among those latched once it has been. -/
theorem or_bit_and_ne_zero (x : BitVec 8) (c : Cause) : (x ||| c.bit) &&& c.bit ≠ 0 := by
  have : (x ||| c.bit) &&& c.bit = c.bit := by
    ext i
    simp only [BitVec.getElem_and, BitVec.getElem_or]
    cases x[i] <;> cases c.bit[i] <;> rfl
  rw [this]
  exact cause_bit_ne_zero c

theorem latch_latches (c : Cause) (s : State) : (latch c s).latches c := or_bit_and_ne_zero _ c

@[simp] theorem offer_latched (e : Event) (s : State) : (offer e s).rep.latched = s.rep.latched := by
  obtain ⟨r, e, -, -, latched, -⟩ := offer_cases e s
  rw [e]
  exact latched

/-! ### Placements -/

theorem place_of_inRange {a : Word} {s : State} (h : a.toNat < s.top) (d : Word) :
    place a d s = setQueue (placedQueue a d s.path.queue) s := if_pos (decide_eq_true h)

theorem place_of_outOfRange {a : Word} {s : State} (h : s.top ≤ a.toNat) (d : Word) :
    place a d s = latch .range s := by
  rw [place, if_neg]
  rw [State.inRange, decide_eq_true_eq]
  omega

@[simp] theorem place_mem (a d : Word) (s : State) : (place a d s).mem = s.mem := by
  rw [place]
  split <;> rfl

/-- R186: with a free entry a placement below the top is queued. -/
theorem queued_place_same {a : Word} {s : State} (below : a.toNat < s.top) (free : s.path.queue.length < 16) (d : Word) :
    queued a (place a d s).path.queue = some d := by
  rw [place_of_inRange below]
  exact queued_placedQueue_same (.inr free)

theorem queued_place_other {a b : Word} (h : b ≠ a) (d : Word) (s : State) :
    queued b (place a d s).path.queue = queued b s.path.queue := by
  rw [place]
  split
  · exact queued_placedQueue_other d h _
  · rfl

theorem placeable_of_free {s : State} (free : s.path.queue.length < 16) (a : Word) : placeable a s = true := by
  rw [placeable, Bool.or_eq_true]
  exact .inr (decide_eq_true free)

theorem statusAddr_toNat {n : Nat} (hn : n < 16) (s : State) : (statusAddr n s).toNat = s.base + 160 + 4 * n := by
  have page := base_page_le_top s
  have top := top_le s
  rw [statusAddr, toNat_word (by omega)]

theorem statusAddr_below {n : Nat} (hn : n < 16) (s : State) : (statusAddr n s).toNat < s.top := by
  have page := base_page_le_top s
  rw [statusAddr_toNat hn]
  omega

theorem setupAddr_below {n : Nat} (hn : n < 40) (s : State) : (setupAddr n s).toNat < s.top := by
  have page := base_page_le_top s
  rw [setupAddr_toNat hn]
  omega

/-! ### Status words and setup word 12 -/

/-- R205: the due status word of the lowest number is the one placed. -/
theorem placeDue_eq {s : State} {n : Nat} (up : s.seq.startupComplete = true) (free : s.path.queue.length < 16)
    (hn : n < 16) (due : s.rep.due.getD n false = true) (first : ∀ k, k < n → s.rep.due.getD k false = false) :
    placeDue s = placeStatus n s := by
  have found : (List.range 16).find? (fun n => statusReady n s) = some n := by
    rw [List.find?_range_eq_some]
    refine ⟨?_, List.mem_range.mpr hn, fun k hk => ?_⟩
    · rw [statusReady, up, due, placeable_of_free free]
      rfl
    · rw [statusReady, first k hk, Bool.and_false, Bool.false_and]
      rfl
  rw [placeDue, found]

/-- Settles O59: both place in the memory fitted, by `queued_place_same`. -/
theorem statusAndPhaseArePlaced : Obligations.StatusAndPhaseArePlaced := by
  unfold Obligations.StatusAndPhaseArePlaced
  refine ⟨fun s n up free hn _ due first => ?_, fun s => ⟨fun waits up free => ?_, fun none => ?_⟩⟩
  · have placed : exec .statusPlace s = .next (placeStatus n s) := by
      rw [← placeDue_eq up free hn due first]
      rfl
    have rep : (place (statusAddr n s) (statusWord n s) s).rep = s.rep := by
      rw [place_of_inRange (statusAddr_below hn s)]
      rfl
    refine ⟨_, placed, queued_place_same (statusAddr_below hn s) free _, ?_, fun a ha => queued_place_other ha _ s,
      fun a => ?_, (placeStatus_granted n s).shadow, placeStatus_tix n s, (placeStatus_granted n s).line⟩
    · rw [placeStatus]
      exact congrArg (fun r : Reporter => r.due.set n false) rep
    · exact congrArg (Memory.readByte a) (place_mem _ _ s)
  · have placed : exec .setupWord12Report s = .next (place (setupAddr 12 s) (s.setup 12)
        { s with path := { s.path with phaseReport := false } }) := by
      change Host.Outcome.next (reportPhase s) = _
      rw [reportPhase, waits, up, placeable_of_free free]
      rfl
    generalize quiet : ({ s with path := { s.path with phaseReport := false } } : State) = u at placed
    have below : (setupAddr 12 s).toNat < u.top := by
      rw [← quiet]
      exact setupAddr_below (by decide) s
    refine ⟨_, placed, queued_place_same below (by rw [← quiet]; exact free) _, ?_⟩
    have granted := place_granted (setupAddr 12 s) (s.setup 12) u
    have others (a : Word) (ha : a ≠ setupAddr 12 s) := queued_place_other ha (s.setup 12) u
    rw [granted.phaseReport, granted.written, granted.shadow, place_tix]
    rw [place_of_inRange below] at granted others ⊢
    subst quiet
    exact ⟨rfl, rfl, rfl, others, fun _ => rfl, rfl, rfl, granted.line⟩
  · change Host.Outcome.next (reportPhase s) = _
    rw [reportPhase, none]
    rfl

/-! ### Event records -/

theorem Granted.recordAddr {s t : State} (h : Granted s t) (i : Nat) : recordAddr i t = recordAddr i s := by
  rw [Machine.recordAddr, Machine.recordAddr, h.setupN, h.writeSlot]

theorem placedQueue_length_le (a d : Word) (q : List QueueEntry) : (placedQueue a d q).length ≤ q.length + 1 := by
  have replaced : (replaceQueued a d q).length = q.length := by
    have := congrArg List.length (addrs_replaceQueued a d q)
    rwa [addrs, addrs, List.length_map, List.length_map] at this
  rw [placedQueue]
  split
  · omega
  · split
    · rw [List.length_append]
      exact le_rfl
    · omega

theorem place_queue_length (a d : Word) (s : State) : (place a d s).path.queue.length ≤ s.path.queue.length + 1 := by
  rw [place]
  split
  · exact placedQueue_length_le a d _
  · exact Nat.le_succ _

/-- R201: words placed from word `i` on leave what is queued at every other address. -/
theorem queued_placeWords_other {a : Word} (i : Nat) (ws : List Word) {s : State}
    (h : ∀ j, j < ws.length → a ≠ recordAddr (i + j) s) : queued a (placeWords i ws s).path.queue = queued a s.path.queue := by
  induction ws generalizing i s with
  | nil => rfl
  | cons w ws ih =>
    rw [placeWords, ih (i + 1) fun j hj => ?_]
    · exact queued_place_other (h 0 (Nat.succ_pos _)) w s
    · rw [(place_granted _ w s).recordAddr, Nat.add_assoc, Nat.add_comm 1 j]
      exact h (j + 1) (Nat.succ_lt_succ hj)

/-- R201: each of the words is queued at its own address. -/
theorem queued_placeWords (i : Nat) (ws : List Word) {s : State} (free : s.path.queue.length + ws.length ≤ 16)
    (addr : ∀ j, j < ws.length → (recordAddr (i + j) s).toNat = s.setupN 37 + s.rep.writeSlot * 24 + 4 * (i + j) ∧
      (recordAddr (i + j) s).toNat < s.top) (j : Nat) (hj : j < ws.length) :
    queued (recordAddr (i + j) s) (placeWords i ws s).path.queue = ws[j]? := by
  induction ws generalizing i s j with
  | nil => exact absurd hj (Nat.not_lt_zero j)
  | cons w ws ih =>
    have placed := place_granted (recordAddr i s) w s
    rw [placeWords]
    cases j with
    | zero =>
      rw [queued_placeWords_other (i + 1) ws fun k hk same => ?_]
      · rw [List.length_cons] at free
        exact queued_place_same (addr 0 hj).2 (by omega) w
      · rw [placed.recordAddr] at same
        have first := (addr 0 hj).1
        have later := (addr (k + 1) (Nat.succ_lt_succ hk)).1
        rw [show i + (k + 1) = i + 1 + k by omega, ← same] at later
        omega
    | succ j =>
      have length := place_queue_length (recordAddr i s) w s
      rw [List.length_cons] at free hj
      have shift (k : Nat) : i + (k + 1) = i + 1 + k := by omega
      have next := ih (i + 1) (s := place (recordAddr i s) w s) (by omega) (fun k hk => ?_) j (by omega)
      · rwa [placed.recordAddr, ← shift] at next
      · rw [placed.recordAddr, placed.setupN, placed.writeSlot, placed.top, ← shift]
        exact addr (k + 1) (Nat.succ_lt_succ hk)

theorem placeWords_rep (i : Nat) (ws : List Word) {s : State} (addr : ∀ j, j < ws.length → (recordAddr (i + j) s).toNat < s.top) :
    (placeWords i ws s).rep = s.rep := by
  induction ws generalizing i s with
  | nil => rfl
  | cons w ws ih =>
    have placed := place_granted (recordAddr i s) w s
    have first : (recordAddr i s).toNat < s.top := addr 0 (Nat.succ_pos _)
    rw [placeWords, ih (i + 1) fun k hk => ?_]
    · rw [place_of_inRange first]
      rfl
    · rw [placed.recordAddr, placed.top, Nat.add_assoc, Nat.add_comm 1 k]
      exact addr (k + 1) (Nat.succ_lt_succ hk)

theorem placeWords_mem (i : Nat) (ws : List Word) (s : State) : (placeWords i ws s).mem = s.mem := by
  induction ws generalizing i s with
  | nil => rfl
  | cons w ws ih => rw [placeWords, ih, place_mem]

/-- R201: the addresses of a record that lies below the top. -/
theorem recordAddr_toNat {s : State} (below : s.setupN 37 + s.rep.writeSlot * 24 + 24 ≤ s.top) {i : Nat} (hi : i < 6) :
    (recordAddr i s).toNat = s.setupN 37 + s.rep.writeSlot * 24 + 4 * i ∧ (recordAddr i s).toNat < s.top := by
  have top := top_le s
  have : (recordAddr i s).toNat = s.setupN 37 + s.rep.writeSlot * 24 + 4 * i := toNat_word (by omega)
  omega

theorem moveRecord_eq {s : State} {r : Staged} {rest : List Staged} (staged : s.rep.staging = r :: rest)
    (up : s.seq.startupComplete = true) (free : s.path.queue.length + 6 ≤ 16) (room : s.occupancy < s.setupN 38) :
    moveRecord s = eventsTest s.occupancy (advanceRing rest (placeWords 0 r.words s)) := by
  have moves : recordMoves s = true := by
    rw [recordMoves, up, Bool.true_and, Bool.and_eq_true]
    exact ⟨decide_eq_true free, decide_eq_true room⟩
  rw [moveRecord, staged]
  exact if_pos moves

/-- R208: EVENTS is latched when the occupancy has come from below the threshold to it, and nothing else changes. -/
theorem eventsTest_cases (before : Nat) (s : State) :
    before < s.setupN 6 ∧ s.setupN 6 ≤ s.occupancy ∧ eventsTest before s = latch .events s ∨
      ¬ (before < s.setupN 6 ∧ s.setupN 6 ≤ s.occupancy) ∧ eventsTest before s = s := by
  rw [eventsTest]
  split
  · next h => exact .inl ⟨h.1, h.2, rfl⟩
  · next h => exact .inr ⟨h, rfl⟩

/-- Settles O58: the words by `queued_placeWords`, the cause by `eventsTest_cases`. -/
theorem eventRecordMovesWhole : Obligations.EventRecordMovesWhole := by
  unfold Obligations.EventRecordMovesWhole
  intro s r rest staged up free room _
  have moved : exec .eventRecordMove s = .next (moveRecord s) := rfl
  rw [moved, moveRecord_eq staged up free room]
  have placed := placeWords_granted 0 r.words s
  have tix := placeWords_tix 0 r.words s
  have mem := placeWords_mem 0 r.words s
  have queued' (below : s.setupN 37 + s.rep.writeSlot * 24 + 24 ≤ s.top) (i : Nat) (hi : i < 6) :
      queued (recordAddr i s) (placeWords 0 r.words s).path.queue = r.words[i]? := by
    have := queued_placeWords 0 r.words (s := s) free (fun j hj => by
      rw [Nat.zero_add]; exact recordAddr_toNat below hj) i hi
    rwa [Nat.zero_add] at this
  have rep (below : s.setupN 37 + s.rep.writeSlot * 24 + 24 ≤ s.top) : (placeWords 0 r.words s).rep = s.rep :=
    placeWords_rep 0 r.words fun j hj => by rw [Nat.zero_add]; exact (recordAddr_toNat below hj).2
  revert placed tix mem queued' rep
  generalize placeWords 0 r.words s = u
  intro placed tix mem queued' rep
  have threshold : (advanceRing rest u).setupN 6 = s.setupN 6 := placed.setupN 6
  have occupancy : (advanceRing rest u).occupancy = (s.rep.writeIndex + 1 - s.readIndex).toNat := by
    change (u.rep.writeIndex + 1 - u.readIndex).toNat = _
    rw [placed.writeIndex, State.readIndex, placed.setup]
    rfl
  have slot : nextSlot u = if s.rep.writeSlot + 1 < s.setupN 38 then s.rep.writeSlot + 1 else 0 := by
    rw [nextSlot, placed.writeSlot, placed.setupN]
  have before : s.occupancy = (s.rep.writeIndex - s.readIndex).toNat := rfl
  have line : sameLine s (advanceRing rest u) := placed.line
  obtain ⟨below, reached, e⟩ | ⟨notReached, e⟩ := eventsTest_cases s.occupancy (advanceRing rest u) <;> rw [e]
  · refine ⟨_, rfl, rfl, congrArg (· + 1) placed.writeIndex, slot, queued', fun _ _ => latch_latches _ _,
      fun _ least => absurd below (by rw [threshold, before]; omega), fun a => congrArg (Memory.readByte a) mem,
      placed.shadow, tix, line⟩
  · refine ⟨_, rfl, rfl, congrArg (· + 1) placed.writeIndex, slot, queued', fun below reached => ?_,
      fun inside _ => (congrArg Reporter.latched (rep inside) :), fun a => congrArg (Memory.readByte a) mem,
      placed.shadow, tix, line⟩
    refine absurd ⟨?_, ?_⟩ notReached
    · rw [threshold, before]; exact below
    · rw [threshold, occupancy]; exact reached

/-! ### Dispositions -/

/-- R68: the number of DISPOSED tickets at the oldest end, characterised. -/
theorem disposedAtFront_eq {l : List Ticket} {n : Nat} (hn : n ≤ l.length) (all : ∀ k ∈ l.take n, k.state = .disposed)
    (next : ∀ k, (l.drop n).head? = some k → k.state ≠ .disposed) : disposedAtFront l = n := by
  rw [disposedAtFront]
  induction n generalizing l with
  | zero =>
    cases l with
    | nil => rfl
    | cons k l =>
      rw [List.takeWhile_cons_of_neg (by simpa using next k rfl)]
      rfl
  | succ n ih =>
    cases l with
    | nil => exact absurd hn (Nat.not_succ_le_zero n)
    | cons k l =>
      rw [List.takeWhile_cons_of_pos (by simpa using all k (by simp)), List.length_cons,
        ih (Nat.le_of_succ_le_succ hn) (fun x hx => all x (by simp [hx])) next]

/-- R68: what retirement, with an event offered before it, leaves of the state. -/
theorem retire_offer_eq (e : Event) (s : State) : ∃ r : Reporter, retire (offer e s) = { s with
    tix := { s.tix with
      table := s.tix.table.drop (disposedAtFront s.tix.table)
      retireIndex := s.tix.retireIndex + BitVec.ofNat 16 (disposedAtFront s.tix.table) }
    rep := r } ∧ r.latched = s.rep.latched := by
  obtain ⟨q, offered, -, -, same, -⟩ := offer_cases e s
  rw [offered]
  exact ⟨(retire { s with rep := q }).rep, rfl, same⟩

/-- R90: a disposition placed leaves its ticket DISPOSED, its serial retired, and retirement done. -/
theorem placeDisposition_eq (d : Disposition) (rest : List Disposition) (s : State) {table : List Ticket}
    (disposed : table = s.tix.table.map fun k => if k.ring = d.ring then { k with state := .disposed } else k) :
    ∃ r : Reporter,
      placeDisposition d rest s = { place (slotAddr d.ring 7 s) d.word s with
        tix := { s.tix with
          table := table.drop (disposedAtFront table)
          retireIndex := s.tix.retireIndex + BitVec.ofNat 16 (disposedAtFront table)
          waiting := rest, retired := retireSerial d.serial s.tix.retired }
        rep := r } ∧ r.latched = (place (slotAddr d.ring 7 s) d.word s).rep.latched := by
  subst disposed
  rw [placeDisposition]
  have tix := place_tix (slotAddr d.ring 7 s) d.word s
  generalize place (slotAddr d.ring 7 s) d.word s = u at tix
  rw [← tix]
  exact retire_offer_eq _ _

/-- Settles O57: the word by `queued_place_same`, the retirement by `disposedAtFront_eq`. -/
theorem dispositionIsPlacedAndRetired : Obligations.DispositionIsPlacedAndRetired := by
  unfold Obligations.DispositionIsPlacedAndRetired
  intro s d rest table n waiting up free disposed hn all next
  have placed : exec .dispositionPlace s = .next (placeDisposition d rest s) := by
    change Host.Outcome.next (dispose s) = _
    rw [dispose, waiting, up]
    simp only [placeable_of_free free, Bool.and_true, if_true]
  obtain ⟨r, e, latched⟩ := placeDisposition_eq d rest s disposed
  have granted := place_granted (slotAddr d.ring 7 s) d.word s
  rw [disposedAtFront_eq hn all next] at e
  rw [placed, e]
  refine ⟨_, rfl, rfl, fun below => queued_place_same below free _, fun above => ?_, rfl, rfl, rfl, rfl,
    fun a => congrArg (Memory.readByte a) (place_mem _ _ s), granted.shadow, granted.line⟩
  rw [State.latches, latched]
  rw [place_of_outOfRange above]
  exact ⟨rfl, latch_latches .range s⟩

/-! ### The arbiter without the controller (R191) -/

/-- R191: of the part's own parties, what waits is granted. -/
theorem ownGrant_cases (queueWaits fetchWaits : Bool) (a : Arbiter) :
    queueWaits = true ∧ ownGrant queueWaits fetchWaits a = some .queue ∨
      fetchWaits = true ∧ ownGrant queueWaits fetchWaits a = some .fetch ∨
      queueWaits = false ∧ fetchWaits = false ∧ ownGrant queueWaits fetchWaits a = none := by
  rw [ownGrant]
  cases queueWaits <;> cases fetchWaits <;> cases a.fetchLatest <;> decide

/-- R191: with the controller not waiting, a grant goes to the queue, which is not empty, or to the fetch read that
is due; there is none when nothing waits. -/
theorem decideGrant_own (s : State) :
    (∃ b, decideGrant false s = some (if b = true then .burst else .queue) ∧ s.path.queue ≠ []) ∨
      decideGrant false s = some .fetch ∧ fetchDue s = true ∨
      decideGrant false s = none ∧ s.path.queue = [] ∧ fetchDue s = false := by
  have full {n : Nat} (h : n ≤ s.path.queue.length) (hn : 0 < n) : s.path.queue ≠ [] :=
    List.ne_nil_of_length_pos (Nat.lt_of_lt_of_le hn h)
  rw [decideGrant]
  split
  · next h =>
    rw [Bool.and_eq_true, decide_eq_true_eq] at h
    exact .inl ⟨true, rfl, full h.2 Nat.one_pos⟩
  split
  · next h =>
    rw [Bool.and_eq_true] at h
    exact .inr (.inl ⟨rfl, h.2⟩)
  split
  · next h =>
    obtain ⟨queue, e⟩ | ⟨fetch, e⟩ | ⟨queue, fetch, -⟩ := ownGrant_cases
      (decide (0 < s.path.queue.length) && decide (s.path.arbiter.queuePatience = Config.patienceLimit))
      (fetchDue s && decide (s.path.arbiter.fetchPatience = Config.patienceLimit)) s.path.arbiter
    · rw [Bool.and_eq_true, decide_eq_true_eq] at queue
      exact .inl ⟨false, e, full queue.1 Nat.one_pos⟩
    · rw [Bool.and_eq_true] at fetch
      exact .inr (.inl ⟨e, fetch.1⟩)
    · rw [queue, fetch] at h
      cases h
  split
  · next h => exact .inl ⟨true, rfl, full h (by decide)⟩
  obtain ⟨queue, e⟩ | ⟨fetch, e⟩ | ⟨queue, fetch, e⟩ :=
    ownGrant_cases (decide (0 < s.path.queue.length)) (fetchDue s) s.path.arbiter
  · rw [decide_eq_true_eq] at queue
    exact .inl ⟨false, e, full queue Nat.one_pos⟩
  · exact .inr (.inl ⟨e, fetch⟩)
  · rw [decide_eq_false_iff_not, Nat.not_lt, Nat.le_zero, List.length_eq_zero_iff] at queue
    exact .inr (.inr ⟨e, queue, fetch⟩)

theorem makeGrant_queue (b : Bool) (s : State) : makeGrant (if b = true then .burst else .queue) s = drainQueue b s := by
  cases b <;> rfl

theorem party_queue (b : Bool) : (if b = true then Grant.burst else .queue).party = .queue := by cases b <;> rfl

/-- R189: a drain takes the oldest entry into memory. -/
theorem drainQueue_cons (b : Bool) {s : State} {e : QueueEntry} {q : List QueueEntry} (h : s.path.queue = e :: q) :
    (drainQueue b s).path.queue = q ∧ (drainQueue b s).mem = Memory.writeWord e.addr.toNat e.data s.mem ∧
      (drainQueue b s).tix = s.tix := by
  rw [drainQueue, h]
  exact ⟨rfl, rfl, rfl⟩

theorem grantFetchRead_store (s : State) :
    (grantFetchRead s).path.queue = s.path.queue ∧ (grantFetchRead s).mem = s.mem ∧ fetchDue (grantFetchRead s) = false := by
  have after (f : Fetch) (t : State) (landed : ∀ u : State, u.tix.fetch = f → fetchDue u = false) :
      fetchDue (setFetch f t) = false := landed _ rfl
  rw [grantFetchRead]
  dsimp only
  split
  · obtain e | e := ownRange_cases (slotAddr s.tix.fetchIndex 0 s) (setArbiter s.path.arbiter.grantFetch s) <;> rw [e] <;>
      exact ⟨rfl, rfl, after _ _ fun u h => by rw [fetchDue, h]⟩
  · obtain e | e := ownRange_cases (slotAddr s.tix.fetchIndex 1 s) (setArbiter s.path.arbiter.grantFetch s) <;> rw [e] <;>
      exact ⟨rfl, rfl, after _ _ fun u h => by rw [fetchDue, h]⟩
  all_goals
    next h => exact ⟨rfl, rfl, by rw [fetchDue, h]⟩

/-- R191: the queue's grant comes at once, or after the fetch read that is due. -/
theorem granted_queue {s : State} {e : QueueEntry} {q : List QueueEntry} (h : s.path.queue = e :: q) :
    ∃ b u, u.path.queue = e :: q ∧ u.mem = s.mem ∧ granted .queue s = drainQueue b u := by
  have direct (n : Nat) (u : State) (hu : u.path.queue = e :: q) (idle : fetchDue u = false) :
      ∃ b, grantUntil .queue (n + 1) u = drainQueue b u := by
    rw [grantUntil]
    obtain ⟨b, decided, -⟩ | ⟨-, due⟩ | ⟨-, empty, -⟩ := decideGrant_own u
    · refine ⟨b, ?_⟩
      rw [show decide (Party.queue = .controller) = false from rfl, decided]
      dsimp only
      rw [if_pos (party_queue b), makeGrant_queue]
    · rw [idle] at due; cases due
    · rw [hu] at empty; cases empty
  rw [granted, h]
  change ∃ b u, u.path.queue = e :: q ∧ u.mem = s.mem ∧ grantUntil .queue (q.length + 2 + 1) s = drainQueue b u
  rw [grantUntil]
  obtain ⟨b, decided, -⟩ | ⟨decided, -⟩ | ⟨-, empty, -⟩ := decideGrant_own s
  · refine ⟨b, s, h, rfl, ?_⟩
    rw [show decide (Party.queue = .controller) = false from rfl, decided]
    dsimp only
    rw [if_pos (party_queue b), makeGrant_queue]
  · obtain ⟨queue, mem, idle⟩ := grantFetchRead_store s
    obtain ⟨b, e'⟩ := direct (q.length + 1) (grantFetchRead s) (queue.trans h) idle
    refine ⟨b, grantFetchRead s, queue.trans h, mem, ?_⟩
    rw [show decide (Party.queue = .controller) = false from rfl, decided]
    exact e'
  · rw [h] at empty; cases empty

/-- Settles O55: `granted_queue` names the drain. -/
theorem queueGrantDrainsOldest : Obligations.QueueGrantDrainsOldest := by
  unfold Obligations.QueueGrantDrainsOldest
  intro s e q h
  have made : exec .queueGrant s = .next (granted .queue s) := by
    change Host.Outcome.next (grantTheQueue s) = _
    rw [grantTheQueue, h]
    rfl
  have frame := granted_granted .queue s
  obtain ⟨b, u, hu, mem, drained⟩ := granted_queue h
  obtain ⟨queue, written, -⟩ := drainQueue_cons b hu
  refine ⟨_, made, ?_, fun wf => ?_, fun a outside => ?_, fun ok entries wf a ha => ?_, frame.shadow, frame.table,
    frame.line⟩
  · rw [drained, queue]
  · rw [drained, written, mem]
    exact Memory.readWord_writeWord _ _ wf
  · rw [drained, written, mem]
    exact Memory.readByte_writeWord_outside outside _ _
  · exact granted_latestValue .queue (storeOk_iff.mpr ⟨ok, wf⟩) entries ha

/-! ### The fetch read -/

theorem Granted.slotAddr {s t : State} (h : Granted s t) (ring : Index) (n : Nat) : slotAddr ring n t = slotAddr ring n s := by
  rw [Machine.slotAddr, Machine.slotAddr, h.setupN, h.setupN]

/-- R191: the fetch read's grant comes after some of the queue's. -/
theorem grantUntil_fetch (n : Nat) {s : State} (due : fetchDue s = true) (fuel : s.path.queue.length < n) :
    ∃ u, Granted s u ∧ u.tix = s.tix ∧ grantUntil .fetch n s = grantFetchRead u ∧
      (StoreOk s → EntriesIn s → ∀ a, wordIn a s → latestValue a u = latestValue a s) := by
  induction n generalizing s with
  | zero => exact absurd fuel (Nat.not_lt_zero _)
  | succ n ih =>
    rw [grantUntil]
    obtain ⟨b, decided, full⟩ | ⟨decided, -⟩ | ⟨-, -, idle⟩ := decideGrant_own s
    · obtain ⟨e, q, h⟩ := List.exists_cons_of_ne_nil full
      obtain ⟨queue, -, tix⟩ := drainQueue_cons b h
      have drained := drainQueue_granted b s
      have shorter : (drainQueue b s).path.queue.length < n := by
        rw [queue]
        rw [h, List.length_cons] at fuel
        omega
      obtain ⟨u, granted, same, e', values⟩ := ih (s := drainQueue b s) (by rw [fetchDue, tix]; exact due) shorter
      refine ⟨u, drained.trans granted, same.trans tix, ?_, fun ok entries a ha => ?_⟩
      · rw [show decide (Party.fetch = .controller) = false from rfl, decided]
        dsimp only
        rw [if_neg (by rw [party_queue]; decide), makeGrant_queue]
        exact e'
      · rw [values (drainQueue_storeOk b ok) (drainQueue_entriesIn b entries) a ⟨ha.1, by rw [drained.top]; exact ha.2⟩]
        exact drainQueue_latestValue b ok entries ha
    · refine ⟨s, .refl s, rfl, ?_, fun _ _ _ _ => rfl⟩
      rw [show decide (Party.fetch = .controller) = false from rfl, decided]
      rfl
    · rw [due] at idle; cases idle

theorem ownRead_below {a : Word} {s : State} (h : a.toNat < s.top) : ownRead a s = latestValue a s :=
  if_pos (decide_eq_true h)

theorem ownRead_above {a : Word} {s : State} (h : s.top ≤ a.toNat) : ownRead a s = 0xFFFFFFFF := by
  rw [ownRead, if_neg]
  rw [State.inRange, decide_eq_true_eq]
  omega

theorem ownRange_above {a : Word} {s : State} (h : s.top ≤ a.toNat) : ownRange a s = latch .range s := by
  rw [ownRange, if_neg]
  rw [State.inRange, decide_eq_true_eq]
  omega

/-- R66: the fetch with the data of its due read. -/
def fetchWith (w0 d : Word) (second : Bool) : Fetch := if second = true then .flight1 w0 d else .flight0 d

/-- R66, R190: the due read takes the data and, above the top, latches RANGE. -/
theorem grantFetchRead_due {s : State} {w0 : Word} {second : Bool}
    (due : s.tix.fetch = if second = true then .due1 w0 else .due0) :
    grantFetchRead s = setFetch (fetchWith w0 (ownRead (slotAddr s.tix.fetchIndex (if second = true then 1 else 0) s) s) second)
      (ownRange (slotAddr s.tix.fetchIndex (if second = true then 1 else 0) s) (setArbiter s.path.arbiter.grantFetch s)) := by
  cases second with
  | true =>
    have due : s.tix.fetch = .due1 w0 := due
    rw [grantFetchRead.eq_def, due]
    rfl
  | false =>
    have due : s.tix.fetch = .due0 := due
    rw [grantFetchRead.eq_def, due]
    rfl

/-- Settles O53: a fetch begins by its conditions, and its read is the last of the grants of `grantUntil_fetch`. -/
theorem fetchBeginsAndReads : Obligations.FetchBeginsAndReads := by
  unfold Obligations.FetchBeginsAndReads
  intro s
  refine ⟨fun up idle more room => ?begins, fun not => ?waits, fun ok entries wf shadow w0 second due => ?reads,
    fun idle => ?none⟩
  case begins =>
    have begins : fetchBegins s = true := by
      rw [fetchBegins, up, idle, decide_eq_true more, decide_eq_true (show s.tix.table.length < Config.tableCapacity from room)]
      rfl
    change Host.Outcome.next (startFetch s) = _
    rw [startFetch, if_pos begins]
  case waits =>
    have waits : ¬ fetchBegins s = true := by
      simp only [fetchBegins, Bool.and_eq_true, decide_eq_true_eq]
      rintro ⟨⟨⟨up, idle⟩, more⟩, room⟩
      have room : s.tix.table.length < 16 := room
      obtain down | busy | done | full := not
      · rw [up] at down; cases down
      · exact busy idle
      · exact more done
      · omega
    change Host.Outcome.next (startFetch s) = _
    rw [startFetch, if_neg waits]
  case none =>
    change Host.Outcome.next (readFetch s) = _
    rw [readFetch, fetchDue, idle]
    rfl
  case reads =>
    have isDue : fetchDue s = true := by
      cases second with
      | true =>
        have due : s.tix.fetch = .due1 w0 := due
        rw [fetchDue, due]
      | false =>
        have due : s.tix.fetch = .due0 := due
        rw [fetchDue, due]
    have store : StoreOk s := storeOk_iff.mpr ⟨ok, wf⟩
    have made : exec .fetchRead s = .next (granted .fetch s) := by
      change Host.Outcome.next (readFetch s) = _
      rw [readFetch, if_pos isDue]
    obtain ⟨u, frame, tix, e, values⟩ := grantUntil_fetch (s.path.queue.length + 2) isDue (by omega)
    rw [← tix] at due
    have read := grantFetchRead_due due
    rw [frame.slotAddr, tix] at read
    have whole := granted_granted .fetch s
    refine ⟨_, ownRead (slotAddr s.tix.fetchIndex (if second = true then 1 else 0) s) u, made, ?_, fun below => ?_,
      fun above => ⟨?_, ?_⟩, fun a ha => granted_latestValue .fetch store entries ha, whole.shadow, whole.table, whole.line⟩
    · rw [granted, e, read]
      rfl
    · rw [ownRead_below (by rw [frame.top]; exact below)]
      exact values store entries _ ⟨slotAddr_aligned _ _ shadow, below⟩
    · exact ownRead_above (by rw [frame.top]; exact above)
    · rw [granted, e, read, ownRange_above (by
        change u.top ≤ _
        rw [frame.top]
        exact above)]
      exact latch_latches .range (setArbiter u.path.arbiter.grantFetch u)

/-! ### What the end of a step leaves -/

theorem holdReasonTest_only (s : State) : holdReasonTest s = { s with
    pln := { s.pln with holdReason := holdReasonNow s }, rep := (holdReasonTest s).rep } := by
  rw [holdReasonTest]
  split <;> rfl

theorem ticketsLowTest_only (s : State) : ticketsLowTest s = { s with
    tix := { s.tix with low := ticketsLowNow s }, rep := (ticketsLowTest s).rep } := by
  rw [ticketsLowTest]
  split <;> rfl

theorem endStep_only (s : State) : endStep s = { s with
    tix := { s.tix with low := ticketsLowNow s }, pln := { s.pln with holdReason := holdReasonNow s }
    rep := (endStep s).rep } := by
  have low := ticketsLowTest_only s
  have reason := holdReasonTest_only (ticketsLowTest s)
  have same : holdReasonNow (ticketsLowTest s) = holdReasonNow s := by
    rw [low]
    rfl
  rw [endStep, reason, same, low]

@[simp] theorem endStep_pins (s : State) : (endStep s).pins = s.pins := by rw [endStep_only]
@[simp] theorem endStep_enc (s : State) : (endStep s).enc = s.enc := by rw [endStep_only]
@[simp] theorem endStep_rd (s : State) : (endStep s).rd = s.rd := by rw [endStep_only]
@[simp] theorem endStep_trk (s : State) : (endStep s).trk = s.trk := by rw [endStep_only]
@[simp] theorem endStep_col (s : State) : (endStep s).col = s.col := by rw [endStep_only]
@[simp] theorem endStep_tr (s : State) : (endStep s).tr = s.tr := by rw [endStep_only]
@[simp] theorem endStep_acc (s : State) : (endStep s).acc = s.acc := by rw [endStep_only]
@[simp] theorem endStep_rel (s : State) : (endStep s).rel = s.rel := by rw [endStep_only]
@[simp] theorem endStep_seq (s : State) : (endStep s).seq = s.seq := by rw [endStep_only]
@[simp] theorem endStep_path (s : State) : (endStep s).path = s.path := by rw [endStep_only]
@[simp] theorem endStep_mem (s : State) : (endStep s).mem = s.mem := by rw [endStep_only]
@[simp] theorem endStep_table (s : State) : (endStep s).tix.table = s.tix.table := by rw [endStep_only]
@[simp] theorem endStep_waiting (s : State) : (endStep s).tix.waiting = s.tix.waiting := by rw [endStep_only]
@[simp] theorem endStep_pln (s : State) : (endStep s).pln = { s.pln with holdReason := holdReasonNow s } := by
  rw [endStep_only]

/-! ### The frame of an event of the line -/

/-- No event of the line touches memory, the bus side, the ticket ring or the report indexes. -/
theorem OffBus.outside {s t : State} (h : OffBus s t) : Outside s t := by
  have kept {α : Type} (f : Fixed → α) (outer : ∀ x, f x.outer = f x) : f t.fixed = f s.fixed := by
    rw [← outer, h.outer, outer]
  have mem : t.mem = s.mem := kept Fixed.mem fun _ => rfl
  exact ⟨fun a => by rw [mem],
    ⟨kept Fixed.queue fun _ => rfl, kept Fixed.arbiter fun _ => rfl, kept Fixed.straps fun _ => rfl,
      kept Fixed.written fun _ => rfl, kept Fixed.startPos fun _ => rfl, kept Fixed.port fun _ => rfl,
      kept Fixed.pending fun _ => rfl⟩,
    ⟨kept Fixed.fetchIndex fun _ => rfl, kept Fixed.retireIndex fun _ => rfl, kept Fixed.fetch fun _ => rfl,
      kept Fixed.fetchAmended fun _ => rfl, kept Fixed.retired fun _ => rfl, kept Fixed.tickets fun _ => rfl⟩,
    ⟨kept Fixed.writeIndex fun _ => rfl, kept Fixed.writeSlot fun _ => rfl, kept Fixed.snapValues fun _ => rfl,
      kept Fixed.snapPlaced fun _ => rfl, kept Fixed.outcome fun _ => rfl, kept Fixed.startup fun _ => rfl⟩⟩

theorem Keeps.outside {s t : State} (h : Keeps s t) : Outside s t := h.step.toOffBus.outside

theorem Keeps.enc_command {s t : State} (h : Keeps s t) :
    t.pins = s.pins ∧ t.enc.web = s.enc.web ∧ t.enc.belt = s.enc.belt ∧ t.tr.command = s.tr.command :=
  ⟨congrArg Fixed.pins h.fixed, congrArg Fixed.web h.fixed, congrArg Fixed.belt h.fixed, congrArg Fixed.command h.fixed⟩

/-! ### The first fault (R173) -/

/-- R114, R115: the transport stopped at once. -/
def Transport.stopNow (t : Transport) : Transport :=
  if t.state = .still then { t with driveEnable := false }
  else { t with
    state := .still, speed := 0, remainder := 0, due := 0, emitted := 0, targetW := none, targetC := none
    driveEnable := false }

/-- R114: the transport ordered to ramp down. -/
def Transport.rampDown (t : Transport) : Transport :=
  match t.state with
  | .moving => { t with state := .rampStop, targetW := none, targetC := none }
  | .rampStop => t
  | .still => { t with driveEnable := false }

theorem Transport.rampDown_moving {t : Transport} (h : t.state = .moving) :
    t.rampDown = { t with state := .rampStop, targetW := none, targetC := none } := by
  cases t
  cases h
  rfl

theorem Transport.rampDown_ramp {t : Transport} (h : t.state = .rampStop) : t.rampDown = t := by
  cases t
  cases h
  rfl

theorem Transport.rampDown_still {t : Transport} (h : t.state = .still) :
    t.rampDown = { t with driveEnable := false } := by
  cases t
  cases h
  rfl

/-- R114, R115, R119: the transport once a first fault is taken. -/
def Transport.faulted (f : LineFault) (t : Transport) : Transport :=
  let t1 := { t with beltRun := false, targetW := none, targetC := none, metTold := false }
  if f.immediate then t1.stopNow else t1.rampDown

theorem Transport.stopNow_state (t : Transport) : t.stopNow.state = .still ∧ t.stopNow.driveEnable = false ∧
    (t.state ≠ .still → t.stopNow.speed = 0 ∧ t.stopNow.remainder = 0 ∧ t.stopNow.due = 0) := by
  rw [Transport.stopNow]
  split
  · next still => exact ⟨still, rfl, fun moves => absurd still moves⟩
  · exact ⟨rfl, rfl, fun _ => ⟨rfl, rfl, rfl⟩⟩

theorem Transport.stopNow_kept (t : Transport) : t.stopNow.command = t.command ∧ t.stopNow.beltRun = t.beltRun ∧
    (t.targetC = none → t.targetW = none → t.stopNow.targetC = none ∧ t.stopNow.targetW = none) := by
  rw [Transport.stopNow]
  split
  · exact ⟨rfl, rfl, fun hc hw => ⟨hc, hw⟩⟩
  · exact ⟨rfl, rfl, fun _ _ => ⟨rfl, rfl⟩⟩

theorem Transport.faulted_outputs (f : LineFault) (t : Transport) : (t.faulted f).beltRun = false ∧
    (t.faulted f).targetC = none ∧ (t.faulted f).targetW = none ∧ (t.faulted f).command = t.command := by
  rw [Transport.faulted]
  split
  · obtain ⟨command, belt, targets⟩ := Transport.stopNow_kept
      { t with beltRun := false, targetW := none, targetC := none, metTold := false }
    exact ⟨belt, (targets rfl rfl).1, (targets rfl rfl).2, command⟩
  · rw [Transport.rampDown.eq_def]
    split <;> exact ⟨rfl, rfl, rfl, rfl⟩

theorem Transport.faulted_immediate {f : LineFault} (t : Transport) (h : f.immediate = true) :
    (t.faulted f).state = .still ∧ (t.faulted f).driveEnable = false := by
  rw [Transport.faulted, if_pos h]
  exact ⟨(Transport.stopNow_state _).1, (Transport.stopNow_state _).2.1⟩

theorem Transport.faulted_moving {f : LineFault} (t : Transport) (h : f.immediate = false) (moving : t.state = .moving) :
    (t.faulted f).state = .rampStop ∧ (t.faulted f).speed = t.speed ∧ (t.faulted f).driveEnable = t.driveEnable ∧
      (t.faulted f).due = t.due ∧ (t.faulted f).emitted = t.emitted := by
  rw [Transport.faulted, h]
  simp only [Bool.false_eq_true, if_false]
  rw [Transport.rampDown_moving (by exact moving)]
  exact ⟨rfl, rfl, rfl, rfl, rfl⟩

theorem Transport.faulted_still {f : LineFault} (t : Transport) (h : f.immediate = false) (still : t.state = .still) :
    (t.faulted f).state = .still ∧ (t.faulted f).driveEnable = false := by
  rw [Transport.faulted, h]
  simp only [Bool.false_eq_true, if_false]
  rw [Transport.rampDown_still (by exact still)]
  exact ⟨still, rfl⟩

theorem orderImmediate_only (s : State) :
    orderImmediate s = { s with tr := s.tr.stopNow, rep := (orderImmediate s).rep } := by
  rw [orderImmediate, immediateStop, Transport.stopNow]
  split <;> rfl

theorem orderRamp_only (s : State) : orderRamp s = { s with tr := s.tr.rampDown, rep := (orderRamp s).rep } := by
  rw [orderRamp.eq_def]
  split
  · next moving => rw [Transport.rampDown_moving moving]; rfl
  · next ramp => rw [Transport.rampDown_ramp ramp]
  · next still => rw [Transport.rampDown_still still]

theorem orderImmediate_rep (s : State) :
    (orderImmediate s).rep.latched = s.rep.latched ∧ (orderImmediate s).rep.staging = s.rep.staging := by
  rw [orderImmediate, immediateStop]
  split <;> exact ⟨rfl, rfl⟩

theorem orderRamp_rep (s : State) :
    (orderRamp s).rep.latched = s.rep.latched ∧ (orderRamp s).rep.staging = s.rep.staging := by
  rw [orderRamp.eq_def]
  split <;> exact ⟨rfl, rfl⟩

/-- R173: the sequencer's own state once the first fault is taken. -/
def Sequencer.faulted (f : LineFault) (q : Sequencer) : Sequencer :=
  { q with line := .fault, haltKind := .none, stopPending := false, regLimit := none, firstFault := f }

/-- R173: the state once the first fault is taken, with the reports `r`. -/
def State.faulted (f : LineFault) (r : Reporter) (s : State) : State :=
  { s with
    seq := s.seq.faulted f, rd := s.rd.fault, trk := s.trk.snapLow, acc := s.acc.fault, rel := s.rel.fault
    pln := Planner.reset, tr := s.tr.faulted f, rep := r }

/-- R173: the blocks told of the fault, and the stop ordered. -/
def State.stoppedFor (f : LineFault) (s : State) : State :=
  if f.immediate then orderImmediate (faultBlocks (faultSequencer f s)) else orderRamp (faultBlocks (faultSequencer f s))

theorem stoppedFor_only (f : LineFault) (s : State) : s.stoppedFor f = s.faulted f (s.stoppedFor f).rep ∧
    (s.stoppedFor f).rep.latched = s.rep.latched ∧ (s.stoppedFor f).rep.staging = s.rep.staging := by
  rw [State.stoppedFor]
  unfold State.faulted Transport.faulted
  split
  · refine ⟨?_, orderImmediate_rep _⟩
    rw [orderImmediate_only]
    rfl
  · refine ⟨?_, orderRamp_rep _⟩
    rw [orderRamp_only]
    rfl

/-- R200: an offered event goes behind what is staged. -/
theorem offer_staging (e : Event) (s : State) : ∃ l, (offer e s).rep.staging = s.rep.staging ++ l := by
  rw [offer]
  split
  · rw [stage]
    split
    · split
      · exact ⟨_, rfl⟩
      · exact ⟨[], (List.append_nil _).symm⟩
    · split
      · exact ⟨_, rfl⟩
      · exact ⟨[], (List.append_nil _).symm⟩
  · exact ⟨[], (List.append_nil _).symm⟩

/-- R173: the first fault, all of it. -/
theorem takeFault_first (f : LineFault) (flag : Bool) (detail : Word) {s : State} (up : s.seq.startupComplete = true)
    (line : s.seq.line ≠ .fault) : ∃ r : Reporter, takeFault f flag detail s = s.faulted f r ∧
      r.latched = s.rep.latched ||| Cause.fault.bit ∧ ∃ l, r.staging = s.rep.staging ++ l := by
  obtain ⟨e, latched, staging⟩ := stoppedFor_only f s
  have first : takeFault f flag detail s = offer (.lineState .fault (some s.seq.line) .none)
      (latch .fault (offer (.fault f s.seq.line flag s.enc.web detail) (s.stoppedFor f))) := by
    rw [takeFault, up, firstFault]
    simp only [Bool.not_true, Bool.false_eq_true, if_false, if_neg line]
    rfl
  obtain ⟨l1, staged1⟩ := offer_staging (.fault f s.seq.line flag s.enc.web detail) (s.stoppedFor f)
  obtain ⟨l2, staged2⟩ := offer_staging (.lineState .fault (some s.seq.line) .none)
    (latch .fault (offer (.fault f s.seq.line flag s.enc.web detail) (s.stoppedFor f)))
  refine ⟨(takeFault f flag detail s).rep, ?_, ?_, l1 ++ l2, ?_⟩
  · rw [first, offer_only, offer_only (.fault f s.seq.line flag s.enc.web detail), e]
    rfl
  · rw [first, offer_latched, latch_rep_latched, offer_latched, latched]
  · rw [first, staged2, latch_rep_staging, staged1, List.append_assoc, staging]

/-- R174: an added fault is counted, and an IMMEDIATE one stops the web; the rest of the line stays. -/
theorem takeFault_added (f : LineFault) (flag : Bool) (detail : Word) {s : State} (up : s.seq.startupComplete = true)
    (line : s.seq.line = .fault) : ∃ r : Reporter, takeFault f flag detail s = { s with
      seq := { s.seq with added := min 255 (s.seq.added + 1) }
      tr := if f.immediate then s.tr.stopNow else s.tr
      rep := r } := by
  refine ⟨(takeFault f flag detail s).rep, ?_⟩
  rw [takeFault, up]
  simp only [Bool.not_true, Bool.false_eq_true, if_false, if_pos line]
  rw [addedFault]
  obtain ⟨q, e, -⟩ := offer_cases (.faultAdded f (min 255 (s.seq.added + 1)) flag s.enc.web detail)
    (hand [1] s { s with seq := { s.seq with added := min 255 (s.seq.added + 1) } })
  rw [e]
  by_cases immediate : f.immediate = true
  · rw [if_pos immediate, if_pos immediate, orderImmediate_only]
    rfl
  · rw [if_neg immediate, if_neg immediate]
    rfl

/-- Settles O37: each field as `State.faulted` has it. -/
theorem firstFaultHoldsLine : Obligations.FirstFaultHoldsLine := by
  unfold Obligations.FirstFaultHoldsLine
  intro s t f flag detail up line e
  obtain ⟨r, first, latched, -⟩ := takeFault_first f flag detail up line
  have outside : Outside s t := by
    rw [e]
    exact (takeFault_keeps f flag detail s).outside
  rw [e, first] at outside ⊢
  have latches : (s.faulted f r).latches .fault := by
    rw [State.latches]
    change r.latched &&& _ ≠ 0
    rw [latched]
    exact or_bit_and_ne_zero _ _
  obtain ⟨belt, targetC, targetW, command⟩ := s.tr.faulted_outputs f
  refine ⟨rfl, latches, belt, targetC, targetW, command, s.tr.faulted_immediate, s.tr.faulted_moving, s.tr.faulted_still,
    rfl, rfl, rfl, rfl, rfl, rfl, rfl, rfl, rfl, rfl, rfl, rfl, rfl, rfl, rfl, outside⟩

/-! ### ESTOP and WEB_BREAK -/

/-- R173: before start-up completes a fault is discarded. -/
theorem takeFault_early (f : LineFault) (flag : Bool) (detail : Word) {s : State} (down : s.seq.startupComplete = false) :
    takeFault f flag detail s = s := by
  rw [takeFault, down]
  rfl

/-- R173, R174: what an IMMEDIATE fault leaves, first or added. -/
theorem takeFault_immediate (f : LineFault) (flag : Bool) (detail : Word) {s : State} (h : f.immediate = true)
    (up : s.seq.startupComplete = true) :
    (takeFault f flag detail s).seq.line = .fault ∧
      (s.tr.state ≠ .still → (takeFault f flag detail s).tr.speed = 0 ∧ (takeFault f flag detail s).tr.remainder = 0 ∧
        (takeFault f flag detail s).tr.due = 0) ∧
      (takeFault f flag detail s).tr.state = .still ∧ (takeFault f flag detail s).tr.driveEnable = false ∧
      (s.seq.line ≠ .fault → (takeFault f flag detail s).seq.firstFault = f ∧
        (takeFault f flag detail s).seq.added = s.seq.added ∧ (takeFault f flag detail s).latches .fault) ∧
      (s.seq.line = .fault → (takeFault f flag detail s).seq.firstFault = s.seq.firstFault ∧
        (takeFault f flag detail s).seq.added = min 255 (s.seq.added + 1)) := by
  by_cases line : s.seq.line = .fault
  · obtain ⟨r, e⟩ := takeFault_added f flag detail up line
    rw [if_pos h] at e
    obtain ⟨still, drive, stopped⟩ := s.tr.stopNow_state
    rw [e]
    exact ⟨line, stopped, still, drive, fun other => absurd line other, fun _ => ⟨rfl, rfl⟩⟩
  · obtain ⟨r, e, latched, -⟩ := takeFault_first f flag detail up line
    obtain ⟨still, drive⟩ := s.tr.faulted_immediate h
    rw [e]
    refine ⟨rfl, fun moves => ?_, still, drive, fun _ => ⟨rfl, rfl, ?_⟩, fun fault => absurd fault line⟩
    · change (s.tr.faulted f).speed = 0 ∧ (s.tr.faulted f).remainder = 0 ∧ (s.tr.faulted f).due = 0
      rw [Transport.faulted, if_pos h]
      exact (Transport.stopNow_state _).2.2 moves
    · change r.latched &&& _ ≠ 0
      rw [latched]
      exact or_bit_and_ne_zero _ _

theorem takeFault_enc (f : LineFault) (flag : Bool) (detail : Word) (s : State) :
    (takeFault f flag detail s).enc = s.enc := by
  by_cases up : s.seq.startupComplete = true
  · by_cases line : s.seq.line = .fault
    · obtain ⟨r, e⟩ := takeFault_added f flag detail up line
      rw [e]
    · obtain ⟨r, e, -⟩ := takeFault_first f flag detail up line
      rw [e]
      rfl
  · rw [takeFault_early f flag detail (Bool.eq_false_iff.mpr up)]

theorem takeFault_pins (f : LineFault) (flag : Bool) (detail : Word) (s : State) :
    (takeFault f flag detail s).pins = s.pins := (takeFault_keeps f flag detail s).enc_command.1

theorem takeFault_command (f : LineFault) (flag : Bool) (detail : Word) (s : State) :
    (takeFault f flag detail s).tr.command = s.tr.command := (takeFault_keeps f flag detail s).enc_command.2.2.2

/-- Settles O36: both inputs take an IMMEDIATE fault. -/
theorem stopInputsTakeFault : Obligations.StopInputsTakeFault := by
  unfold Obligations.StopInputsTakeFault
  intro s level
  constructor
  · have done : exec (.estop level) s = .next (estopLevel level s) := rfl
    have outside : Outside s (estopLevel level s) := (LineStep.ofPins _ (estopLevel_keeps level s)).toOffBus.outside
    refine ⟨_, done, ?_⟩
    rw [estopLevel] at outside ⊢
    split
    · next falls =>
      rw [if_pos falls] at outside
      obtain ⟨high, low⟩ := Bool.and_eq_true_iff.mp falls
      refine ⟨takeFault_pins _ _ _ _, fun _ _ up => takeFault_immediate .estop false 0 rfl up, fun same => ?_,
        takeFault_enc _ _ _ _, takeFault_command _ _ _ _, outside⟩
      obtain down | level | early := same
      · rw [down] at high; cases high
      · rw [level] at low; cases low
      · exact takeFault_early _ _ _ early
    · next same =>
      rw [if_neg same] at outside
      exact ⟨rfl, fun high low _ => absurd (by rw [high, low]; rfl) same, fun _ => rfl, rfl, rfl, outside⟩
  · have done : exec (.webBreak level) s = .next (webBreakLevel level s) := rfl
    have outside : Outside s (webBreakLevel level s) := (LineStep.ofPins _ (webBreakLevel_keeps level s)).toOffBus.outside
    refine ⟨_, done, ?_⟩
    rw [webBreakLevel] at outside ⊢
    split
    · next falls =>
      rw [if_pos falls] at outside
      simp only [Bool.and_eq_true, Bool.not_eq_true', decide_eq_true_eq] at falls
      obtain ⟨⟨high, low⟩, other⟩ := falls
      refine ⟨takeFault_pins _ _ _ _, fun _ _ up _ => ?_, fun same => ?_, takeFault_enc _ _ _ _,
        takeFault_command _ _ _ _, outside⟩
      · obtain ⟨line, -, rest⟩ := takeFault_immediate .webBreak false 0
          (s := { s with pins := { s.pins with webBreakN := level } }) rfl up
        exact ⟨line, rest⟩
      · obtain down | level | idle | early := same
        · rw [down] at high; cases high
        · rw [level] at low; cases low
        · exact absurd idle other
        · exact takeFault_early _ _ _ early
    · next same =>
      rw [if_neg same] at outside
      exact ⟨rfl, fun high low _ other => absurd (by rw [high, low, decide_eq_true other]; rfl) same, fun _ => rfl, rfl,
        rfl, outside⟩

/-! ### The folder's faults -/

theorem fault_pieces (r : ReleaseUnit) : r.fault.exitList.map ExitEntry.piece = r.exitList.map ExitEntry.piece := by
  rw [ReleaseUnit.fault, List.map_map]
  rfl

theorem missingPiece_isSome {s : State} (h : ∃ e ∈ s.rel.exitList, e.timer = { running := true, left := 0 }) :
    ∃ e, missingPiece s = some e := by
  obtain ⟨e, he, due⟩ := h
  rw [← Option.isSome_iff_exists, missingPiece, List.find?_isSome]
  exact ⟨e, he, (expired_iff _).mpr due⟩

theorem missingPiece_none {s : State} (h : ∀ e ∈ s.rel.exitList, e.timer ≠ { running := true, left := 0 }) :
    missingPiece s = none := by
  rw [missingPiece, List.find?_eq_none]
  exact fun e he due => h e he ((expired_iff _).mp due)

theorem running_line {s : State} (h : s.seq.line.running = true) : s.seq.line ≠ .fault := running_ne_fault h

/-- Settles O31: the three faults are first faults, as `State.faulted` has them. -/
theorem folderFaultsStopLine : Obligations.FolderFaultsStopLine := by
  unfold Obligations.FolderFaultsStopLine
  refine ⟨fun s level => ?_, fun s => ⟨fun run folding due up => ?_, fun none => ?_, fun run due up => ?_, fun none => ?_⟩⟩
  · have done : exec (.foldFault level) s = .next (foldFaultLevel level s) := rfl
    have outside : Outside s (foldFaultLevel level s) := (LineStep.ofPins _ (foldFaultLevel_keeps level s)).toOffBus.outside
    refine ⟨_, done, ?_⟩
    rw [foldFaultLevel] at outside ⊢
    split
    · next rises =>
      rw [if_pos rises] at outside
      simp only [Bool.and_eq_true, Bool.not_eq_true'] at rises
      obtain ⟨⟨high, low⟩, run⟩ := rises
      refine ⟨takeFault_pins _ _ _ _, fun _ _ _ up => ?_, fun same => ?_, takeFault_enc _ _ _ _,
        takeFault_command _ _ _ _, outside⟩
      · obtain ⟨r, e, -⟩ := takeFault_first .foldFault s.rel.folding (if s.rel.folding then folderNumber s else 0)
          (s := { s with pins := { s.pins with foldFault := level } }) up (running_line run)
        rw [e]
        exact ⟨rfl, rfl, rfl, rfl, rfl, rfl, fault_pieces s.rel⟩
      · obtain down | up | rest := same
        · rw [down] at high; cases high
        · rw [up] at low; cases low
        · rw [rest] at run; cases run
    · next same =>
      rw [if_neg same] at outside
      exact ⟨rfl, fun high low run _ => absurd (by rw [high, low, run]; rfl) same, fun _ => rfl, rfl, rfl, outside⟩
  · obtain ⟨r, e, -⟩ := takeFault_first .foldTimeout false (folderNumber s) up (running_line run)
    have taken : exec .foldTimeout s = .next (takeFault .foldTimeout false (folderNumber s) s) := by
      change Host.Outcome.next (foldTimesOut s) = _
      rw [foldTimesOut, run, folding, (expired_iff _).mpr due]
      rfl
    refine ⟨_, taken, ?_⟩
    have outside := (takeFault_keeps .foldTimeout false (folderNumber s) s).outside
    rw [e] at outside ⊢
    exact ⟨rfl, rfl, rfl, folding, rfl, rfl, outside⟩
  · change Host.Outcome.next (foldTimesOut s) = _
    rw [foldTimesOut, if_neg]
    simp only [Bool.and_eq_true, expired_iff]
    rintro ⟨⟨run, folding⟩, due⟩
    obtain other | idle | rest := none
    · exact other due
    · rw [folding] at idle; cases idle
    · rw [run] at rest; cases rest
  · obtain ⟨x, missing⟩ := missingPiece_isSome due
    obtain ⟨r, e, -⟩ := takeFault_first .exitMissing false (x.piece.number.setWidth 32) up (running_line run)
    have taken : exec .exitMissing s = .next (takeFault .exitMissing false (x.piece.number.setWidth 32) s) := by
      change Host.Outcome.next (exitTimesOut s) = _
      rw [exitTimesOut, run, missing]
      rfl
    refine ⟨_, taken, ?_⟩
    have outside := (takeFault_keeps .exitMissing false (x.piece.number.setWidth 32) s).outside
    rw [e] at outside ⊢
    exact ⟨rfl, rfl, fault_pieces s.rel, outside⟩
  · change Host.Outcome.next (exitTimesOut s) = _
    rw [exitTimesOut]
    obtain other | rest := none
    · rw [missingPiece_none other]
      split <;> rfl
    · rw [rest]
      rfl

/-! ### The start-up writer -/

theorem notePlaced_granted (n : Nat) (v : Word) (s : State) : Granted s (notePlaced n v s) := by
  rw [notePlaced]
  split
  · exact granted_of_eqs rfl rfl rfl rfl rfl rfl rfl rfl rfl rfl rfl rfl rfl rfl rfl rfl rfl rfl rfl rfl rfl rfl rfl rfl rfl
  · exact .refl s

theorem notePlaced_rest (n : Nat) (v : Word) (s : State) : (notePlaced n v s).tix = s.tix ∧
    (notePlaced n v s).mem = s.mem ∧ (notePlaced n v s).path = s.path ∧ (notePlaced n v s).rep.seq = s.rep.seq := by
  rw [notePlaced]
  split <;> exact ⟨rfl, rfl, rfl, rfl⟩

/-- R193: the writer's word placed or skipped, before its position moves on. -/
structure Written (p : Nat) (s u : State) : Prop where
  frame : Granted s u
  tix : u.tix = s.tix
  mem : u.mem = s.mem
  number : u.rep.seq = s.rep.seq
  skipped : p < 40 → s.path.written.getD p false = true → u.path.queue = s.path.queue
  setup : p < 40 → s.path.written.getD p false = false → queued (setupAddr p s) u.path.queue = some (s.setup p)
  status : 40 ≤ p → queued (statusAddr (p - 40) s) u.path.queue = some (statusWord (p - 40) s)

theorem startupStep_written {s : State} {p : Nat} (pos : s.path.startPos = p) (hp : p < 56)
    (free : s.path.queue.length < 16) : ∃ u, startupStep s = advanceStartup u ∧ Written p s u := by
  rw [startupStep, pos]
  by_cases h40 : p < 40
  · rw [if_pos h40, startupSetup]
    split
    · next written =>
      exact ⟨s, rfl, .refl s, rfl, rfl, rfl, fun _ _ => rfl, fun _ no => absurd (written.symm.trans no) nofun,
        fun h => absurd h40 (Nat.not_lt.mpr h)⟩
    · next unwritten =>
      rw [if_pos (placeable_of_free free _)]
      have rep : (place (setupAddr p s) (s.setup p) s).rep = s.rep := by
        rw [place_of_inRange (setupAddr_below h40 s)]
        rfl
      exact ⟨_, rfl, place_granted _ _ s, place_tix _ _ s, place_mem _ _ s, congrArg Reporter.seq rep,
        fun _ yes => absurd yes unwritten, fun _ _ => queued_place_same (setupAddr_below h40 s) free _,
        fun h => absurd h40 (Nat.not_lt.mpr h)⟩
  · have below := statusAddr_below (n := p - 40) (by omega) s
    have rep : (place (statusAddr (p - 40) s) (statusWord (p - 40) s) s).rep = s.rep := by
      rw [place_of_inRange below]
      rfl
    have placed := queued_place_same below free (statusWord (p - 40) s)
    rw [if_neg h40, if_pos hp, startupStatus, if_pos (placeable_of_free free _)]
    have frame := place_granted (statusAddr (p - 40) s) (statusWord (p - 40) s) s
    have tix := place_tix (statusAddr (p - 40) s) (statusWord (p - 40) s) s
    have mem := place_mem (statusAddr (p - 40) s) (statusWord (p - 40) s) s
    generalize place (statusAddr (p - 40) s) (statusWord (p - 40) s) s = x at *
    obtain ⟨ntix, nmem, npath, nseq⟩ := notePlaced_rest (p - 40) (statusWord (p - 40) s) x
    exact ⟨_, rfl, frame.trans (notePlaced_granted _ _ x), ntix.trans tix, nmem.trans mem,
      nseq.trans (congrArg Reporter.seq rep), fun h => absurd h h40, fun h => absurd h h40,
      fun _ => by rw [npath]; exact placed⟩

theorem numberHeld_events (n : Word) (l : List Staged) : (numberHeld n l).map Staged.event = l.map Staged.event := by
  induction l generalizing n with
  | nil => rfl
  | cons r l ih => rw [numberHeld, List.map_cons, List.map_cons, ih]

/-- R155, R200: the state at the completion of start-up, before ESTOP_N is looked at. -/
def State.completed (s : State) : State :=
  hand [14] s { s with
    seq := { s.seq with startupComplete := true }
    rep := { s.rep with
      seq := s.rep.seq + 1 + word s.rep.staging.length
      staging := firstRecord s :: numberHeld (s.rep.seq + 1) s.rep.staging } }

/-- R172: ESTOP_N low takes ESTOP, but in FAULT. -/
theorem estopCheck_cases (s : State) (up : s.seq.startupComplete = true) :
    estopCheck s = s ∧ (s.pins.estopN = true ∨ s.seq.line = .fault) ∨
      s.pins.estopN = false ∧ s.seq.line ≠ .fault ∧ estopCheck s = takeFault .estop false 0 s := by
  rw [estopCheck]
  split
  · next low =>
    simp only [Bool.and_eq_true, Bool.not_eq_true', decide_eq_true_eq] at low
    exact .inr ⟨low.1.1, low.2, rfl⟩
  · next high =>
    refine .inl ⟨rfl, ?_⟩
    by_contra h
    rw [not_or, Bool.not_eq_true] at h
    exact high (by rw [h.1, up, decide_eq_true h.2]; rfl)

/-- Settles O56: the word by `startupStep_written`, the completion by `estopCheck_cases` and `takeFault_first`. -/
theorem startupWritePlacesInOrder : Obligations.StartupWritePlacesInOrder := by
  unfold Obligations.StartupWritePlacesInOrder
  intro s p pos hp free _
  obtain ⟨u, e, ok⟩ := startupStep_written pos hp free
  have done : exec .startupWrite s = .next (advanceStartup u) := congrArg Host.Outcome.next e
  have line := ok.frame.line
  obtain ⟨pins, enc, -, path, tr, seq⟩ := line
  have upos : u.path.startPos + 1 = p + 1 := by rw [ok.frame.startPos, pos]
  refine ⟨_, done, ?_⟩
  rw [advanceStartup]
  dsimp only
  rw [upos]
  split
  · next last =>
    have last : p = 55 := by omega
    generalize hx : State.completed { u with path := { u.path with startPos := p + 1 } } = x
    have complete : completeStartup { u with path := { u.path with startPos := p + 1 } } = estopCheck x := by
      rw [← hx]; rfl
    have xup : x.seq.startupComplete = true := by rw [← hx]; rfl
    have xseq : x.seq = { s.seq with startupComplete := true } := by rw [← hx, ← seq]; rfl
    have xline : x.seq.line = s.seq.line := by rw [xseq]
    have xpins : x.pins = s.pins := by rw [← hx]; exact pins
    have xenc : x.enc = s.enc := by rw [← hx]; exact enc
    have xpath : x.path = { u.path with startPos := p + 1 } := by rw [← hx]; rfl
    have xtix : x.tix = s.tix := by rw [← hx]; exact ok.tix
    have xmem : x.mem = s.mem := by rw [← hx]; exact ok.mem
    have xtr : x.tr = s.tr ∧ samePath s x := by rw [← hx]; exact ⟨tr, path⟩
    have held : numberHeld (u.rep.seq + 1) u.rep.staging = numberHeld (s.rep.seq + 1) s.rep.staging := by
      rw [ok.number, ok.frame.staging]
    obtain ⟨first, staged, event, number⟩ : ∃ r, x.rep.staging = r :: numberHeld (s.rep.seq + 1) s.rep.staging ∧
        r.event = .lineState .idle none .none ∧ r.seq = some (s.rep.seq + 1) := by
      refine ⟨firstRecord u, ?_, rfl, by rw [← ok.number]; rfl⟩
      rw [← hx, ← held]
      rfl
    rw [complete]
    have common (t : State) (tpath : t.path = x.path) (ttix : t.tix = x.tix) (tmem : t.mem = x.mem)
        (tenc : t.enc = x.enc) (tpins : t.pins = x.pins) :
        t.path.startPos = p + 1 ∧ (40 ≤ p → queued (statusAddr (p - 40) s) t.path.queue = some (statusWord (p - 40) s)) ∧
        sameBytes s t ∧ t.path.shadow = s.path.shadow ∧ t.path.written = s.path.written ∧ t.tix = s.tix ∧
          t.enc = s.enc ∧ t.pins = s.pins := by
      rw [sameBytes, tpath, xpath, ttix, xtix, tmem, xmem, tenc, xenc, tpins, xpins]
      exact ⟨rfl, ok.status, fun _ => rfl, ok.frame.shadow, ok.frame.written, rfl, rfl, rfl⟩
    obtain ⟨e, why⟩ | ⟨low, notFault, e⟩ := estopCheck_cases x xup
    · rw [e]
      obtain ⟨startPos, status, mem, shadow, written, tix, enc, pins⟩ := common x rfl rfl rfl rfl rfl
      refine ⟨startPos, fun h => absurd h (by omega), fun h => absurd h (by omega), status, fun h => absurd h (by omega),
        fun _ => ⟨first, _, staged, event, number, fun _ => ⟨xseq, numberHeld_events _ _⟩, fun low idle => ?_⟩,
        fun _ => xtr, mem, shadow, written, tix, enc, pins⟩
      obtain high | fault := why
      · rw [xpins, low] at high; cases high
      · rw [xline, idle] at fault; cases fault
    · obtain ⟨r, faulted, latched, more, behind⟩ := takeFault_first .estop false 0 xup notFault
      rw [e, faulted]
      obtain ⟨startPos, status, mem, shadow, written, tix, enc, pins⟩ :=
        common (x.faulted .estop r) rfl rfl rfl rfl rfl
      rw [xpins] at low
      have still := x.tr.faulted_immediate (f := .estop) rfl
      refine ⟨startPos, fun h => absurd h (by omega), fun h => absurd h (by omega), status, fun h => absurd h (by omega),
        fun _ => ⟨first, numberHeld (s.rep.seq + 1) s.rep.staging ++ more, ?_, event, number,
          fun high => absurd (high.symm.trans low) nofun, fun _ _ => ⟨?_, ?_, still.1, still.2, (x.tr.faulted_outputs _).1, ?_⟩⟩,
        fun h => ?_, mem, shadow, written, tix, enc, pins⟩
      · change r.staging = _
        rw [behind, staged]
        rfl
      · change x.seq.faulted .estop = _
        rw [xseq]
        rfl
      · change r.latched &&& _ ≠ 0
        rw [latched]
        exact or_bit_and_ne_zero _ _
      · rw [List.take_append_of_le_length (by rw [numberHeld_length]), List.take_of_length_le (by rw [numberHeld_length]),
          numberHeld_events]
      · obtain h | high := h
        · omega
        · rw [low] at high; cases high
  · next more =>
    exact ⟨rfl, ok.skipped, ok.setup, ok.status, fun _ => ⟨seq, ok.frame.staging⟩, fun h => absurd h (by omega),
      fun _ => ⟨tr, path⟩, fun a => congrArg (Memory.readByte a) ok.mem, ok.frame.shadow, ok.frame.written, ok.tix, enc, pins⟩

/-! ### The jog's end (R130 to R133) -/

theorem heightCheck_of_set {s : State} {r : SetRecord} (set : s.acc.set = some r) : heightCheck s = { s with
    acc := { s.acc with set := some (if heightFails r s then r.add .height else r) } } := by
  rw [heightCheck, set]
  dsimp only
  split
  · rfl
  · rw [← set]

/-- R131: the stack-height check, as the gauge and setup words 33, 34 and 39 have it. -/
theorem heightFails_iff (r : SetRecord) (s : State) : heightFails r s = true ↔
    (s.setup 39).getLsbD 1 = true ∧ r.owner ≠ .purge ∧ ¬ (s.pins.gauge.valid = true ∧
      ((s.pins.gauge.reading.toNat * 5 : Int) - r.sheets.length * s.setupN 33).natAbs ≤ s.setupN 33 / 2 + s.setupN 34) := by
  simp only [heightFails, heightPasses, heightTolerance]
  push_cast
  cases s.pins.gauge.valid <;> simp [and_assoc]

/-- R132: the set drops into an EMPTY hold pocket and waits before a full one. -/
theorem placeSet_only (s : State) : placeSet s = { s with
    acc := if s.rel.hold = .empty then { s.acc with
        state := .dropping, drop := true, dropTimer := Timer.start (s.setupN 29) }
      else { s.acc with state := .waitDrop }
    rep := (placeSet s).rep } := by
  rw [placeSet]
  split <;> rfl

/-- Settles O27: the check by `heightCheck_of_set`, the place by `placeSet_only`. -/
theorem jogEndPlacesSet : Obligations.JogEndPlacesSet := by
  unfold Obligations.JogEndPlacesSet
  intro s g r fails run due set check
  have done : exec (.jogEnd g) s = .next (endStep (endJog (setGauge g s))) := by
    change Host.Outcome.next (jogEnds (setGauge g s)) = _
    rw [jogEnds, show (setGauge g s).seq.line.running = true from run,
      show (setGauge g s).acc.jogTimer.expired = true from (expired_iff _).mpr due]
    rfl
  have outside : Outside s (endStep (endJog (setGauge g s))) :=
    ((setGauge_step g s).trans ((endJog_keeps _).trans (endStep_keeps _)).step).toOffBus.outside
  obtain rfl : heightFails r (setGauge g s) = fails := by
    rw [Bool.eq_iff_iff, check]
    exact heightFails_iff r (setGauge g s)
  have checked := heightCheck_of_set
    (s := { setGauge g s with acc := { s.acc with jog := false, jogTimer := Timer.stopped } }) set
  have ended : ∃ p, endJog (setGauge g s) = { setGauge g s with
      acc := if s.rel.hold = .empty then { s.acc with
          jog := false, jogTimer := Timer.stopped, state := .dropping, drop := true
          dropTimer := Timer.start (s.setupN 29)
          set := some (if heightFails r (setGauge g s) then r.add .height else r) }
        else { s.acc with
          jog := false, jogTimer := Timer.stopped, state := .waitDrop
          set := some (if heightFails r (setGauge g s) then r.add .height else r) }
      rep := p } := by
    refine ⟨(endJog (setGauge g s)).rep, ?_⟩
    rw [endJog]
    erw [checked]
    rw [placeSet_only]
    rfl
  obtain ⟨p, ended⟩ := ended
  refine ⟨_, done, ?_⟩
  simp only [endStep_acc, endStep_pins, endStep_rel, endStep_trk, endStep_col, endStep_enc, endStep_rd, endStep_tr,
    endStep_seq]
  rw [ended] at outside ⊢
  have common (a b : Accumulator) (P : Accumulator → Prop) (ha : P a) (hb : P b) : P (if s.rel.hold = .empty then a else b) := by
    split <;> assumption
  refine ⟨common _ _ (·.jog = false) rfl rfl, common _ _ (·.jogTimer = _) rfl rfl, common _ _ (·.set = _) rfl rfl,
    fun empty => ?_, fun full => ?_, rfl, rfl, rfl, rfl, rfl, rfl, rfl, rfl, outside⟩
  · rw [if_pos empty]
    exact ⟨rfl, rfl, rfl⟩
  · rw [if_neg full]
    exact ⟨rfl, rfl, rfl⟩

/-! ### What a set's outcome leaves in the pockets -/

/-- The build pocket but its set, and the pieces on their way to the exit. -/
def State.besideSets (s : State) : Accumulator × List ExitEntry := ({ s.acc with set := none }, s.rel.exitList)

theorem releaseTest_besideSets (s : State) : (releaseTest s).besideSets = s.besideSets := by
  obtain ⟨e, -⟩ | ⟨-, -, r, -, ⟨-, -, e⟩ | ⟨-, -, -, -, e⟩⟩ := releaseTest_cases s <;> rw [e] <;> rfl

@[simp] theorem releaseTest_exitList (s : State) : (releaseTest s).rel.exitList = s.rel.exitList :=
  congrArg Prod.snd (releaseTest_besideSets s)

@[simp] theorem releaseTest_acc (s : State) : (releaseTest s).acc = s.acc := by
  obtain ⟨e, -⟩ | ⟨-, -, r, -, ⟨-, -, e⟩ | ⟨-, -, -, -, e⟩⟩ := releaseTest_cases s <;> rw [e] <;> rfl

theorem addTicketReason_besideSets (ring : Index) (reason : Reason) (s : State) :
    (addTicketReason ring reason s).besideSets = s.besideSets := by
  rw [addTicketReason, holdReasonFor]
  split
  · rw [releaseTest_besideSets]
    rfl
  · rfl

theorem addReasons_besideSets (ring : Index) (reasons : BitVec 12) (s : State) :
    (addReasons ring reasons s).besideSets = s.besideSets := by
  rw [addReasons]
  induction allReasons generalizing s with
  | nil => rfl
  | cons r l ih =>
    rw [List.foldl_cons, ih]
    split
    · rfl
    · exact addTicketReason_besideSets _ _ _

theorem disposeIfFinal_besideSets (ring : Index) (s : State) : (disposeIfFinal ring s).besideSets = s.besideSets := by
  obtain e | ⟨o, t, e⟩ := disposeIfFinal_cases ring s <;> rw [e]
  rfl

theorem reportOutcome_besideSets (owner : Owner) (reasons : BitVec 12) (diverted : Bool) (s : State) :
    (reportOutcome owner reasons diverted s).besideSets = s.besideSets := by
  obtain ⟨e, -⟩ | ⟨ring, k, -, -, -, e⟩ := reportOutcome_cases owner reasons diverted s <;> rw [e]
  rw [disposeIfFinal_besideSets]
  exact addReasons_besideSets _ _ _

theorem reportOutcome_of_changesNoTicket {owner : Owner} {s : State} (h : changesNoTicket s owner) (why : BitVec 12)
    (diverted : Bool) : reportOutcome owner why diverted s = s := by
  obtain ⟨e, -⟩ | ⟨ring, k, rfl, found, live, -⟩ := reportOutcome_cases owner why diverted s
  · exact e
  · obtain purge | ⟨_, same, none⟩ := h
    · cases purge
    · cases same
      exact absurd live (not_or.mpr (none k found))

/-- An outcome is a matter of the table and the waiting dispositions. -/
theorem reachesOutcome.congr {s s' t t' : State} {k : Ticket} {why : BitVec 12} {diverted : Bool}
    (h : reachesOutcome s t k why diverted) (table : s'.tix.table = s.tix.table) (waiting : s'.tix.waiting = s.tix.waiting)
    (table' : t'.tix.table = t.tix.table) (waiting' : t'.tix.waiting = t.tix.waiting) :
    reachesOutcome s' t' k why diverted := by
  rw [reachesOutcome] at h ⊢
  rwa [table, waiting, table', waiting']

/-! ### RELEASE_END -/

/-- R132: a set that waits for the hold pocket drops. -/
theorem holdEmptied_only (s : State) : holdEmptied s = { s with
    acc := if s.acc.state = .waitDrop then { s.acc with
        state := .dropping, drop := true, dropTimer := Timer.start (s.setupN 29) } else s.acc
    rep := (holdEmptied s).rep } := by
  rw [holdEmptied]
  split <;> rfl

/-- R144: a divert reaches its outcome, or its purge set is reported. -/
theorem divertOutcome_tix (r : SetRecord) (s : State) :
    (divertOutcome r s).tix = (reportOutcome r.owner r.reasons true s).tix := by
  rw [divertOutcome]
  cases r.owner with
  | purge => exact offer_tix _ _
  | ticket ring => rfl

theorem divertOutcome_besideSets (r : SetRecord) (s : State) : (divertOutcome r s).besideSets = s.besideSets := by
  rw [divertOutcome]
  split
  · rw [offer_only]
    rfl
  · exact reportOutcome_besideSets _ _ _ _

/-- R144: the release that ends, before the build pocket is told. -/
def endedRelease (r : SetRecord) (s : State) : State :=
  match s.rel.verdict with
  | .divert => divertOutcome r (emptyHold s)
  | .good => enterFolder r (emptyHold s)

theorem endedRelease_offPockets (r : SetRecord) (s : State) : (endedRelease r s).offPockets = s.offPockets := by
  rw [endedRelease]
  split
  · exact divertOutcome_offPockets r _
  · rfl

theorem endedRelease_acc (r : SetRecord) (s : State) : (endedRelease r s).besideSets.1 = s.besideSets.1 := by
  rw [endedRelease]
  split
  · rw [divertOutcome_besideSets]
    rfl
  · rfl

/-- Settles O29: the release by its verdict, then the build pocket by `holdEmptied_only`. -/
theorem releaseEndEmptiesHold : Obligations.ReleaseEndEmptiesHold := by
  unfold Obligations.ReleaseEndEmptiesHold
  intro s r run due set
  have ends : endRelease s = holdEmptied (endedRelease r s) := by
    rw [endRelease, set]
    rfl
  have done : exec .releaseEnd s = .next (endStep (endRelease s)) := by
    change Host.Outcome.next (releaseEnds s) = _
    rw [releaseEnds, run, (expired_iff _).mpr due]
    rfl
  have outside : Outside s (endStep (endRelease s)) := ((endRelease_keeps s).trans (endStep_keeps _)).outside
  have off := endedRelease_offPockets r s
  have beside := endedRelease_acc r s
  have setup (n : Nat) : (endedRelease r s).setupN n = s.setupN n := by
    rw [State.setupN, State.setup, show (endedRelease r s).path = s.path from congrArg OffPockets.path off]
    rfl
  have acc {α : Type} (f : Accumulator → α) (h : ∀ a, f { a with set := none } = f a) :
      f (endedRelease r s).acc = f s.acc := by
    rw [← h, ← h s.acc]
    exact congrArg f beside
  have state : (endedRelease r s).acc.state = s.acc.state := acc Accumulator.state fun _ => rfl
  refine ⟨_, done, ?_⟩
  simp only [endStep_acc, endStep_pins, endStep_rel, endStep_trk, endStep_enc, endStep_tr, endStep_seq, endStep_table,
    endStep_waiting]
  rw [ends] at outside ⊢
  rw [holdEmptied_only] at outside ⊢
  refine ⟨fun good => ?_, fun divert => ?_, fun waits => ?_, fun other => ?_, congrArg OffPockets.trk off,
    congrArg OffPockets.enc off, congrArg OffPockets.tr off, congrArg OffPockets.seq off, congrArg OffPockets.pins off,
    outside⟩
  · have e : endedRelease r s = enterFolder r (emptyHold s) := by rw [endedRelease, good]
    rw [e]
    exact ⟨rfl, rfl, rfl⟩
  · have e : endedRelease r s = divertOutcome r (emptyHold s) := by rw [endedRelease, divert]
    rw [e]
    refine ⟨divertOutcome_rel (by simp [emptyHold]) r, fun none => ?_, fun ring k owner found live => ?_⟩
    · rw [divertOutcome_tix, reportOutcome_of_changesNoTicket (s := emptyHold s) none]
      exact ⟨rfl, rfl⟩
    · have tix : (divertOutcome r (emptyHold s)).tix = (reportOutcome (.ticket ring) r.reasons true (emptyHold s)).tix := by
        rw [divertOutcome_tix, owner]
      exact (reportOutcome_does (s := emptyHold s) found live r.reasons true).congr rfl rfl
        ((endStep_table _).trans (congrArg TicketUnit.table tix)) ((endStep_waiting _).trans (congrArg TicketUnit.waiting tix))
  · rw [if_pos (state.trans waits), setup]
    exact ⟨rfl, rfl, rfl⟩
  · rw [if_neg (state.trans_ne other)]
    exact ⟨state, acc Accumulator.drop fun _ => rfl⟩

/-! ### FOLD_DONE -/

theorem completeFold_rel (p : Piece) {s : State} (hold : s.rel.hold ≠ .holding) : (completeFold p s).rel = { s.rel with
    exitList := s.rel.exitList ++ [{ piece := p, timer := Timer.start (s.setupN 32) }]
    foldReq := false, folding := false, folder := none, foldTimer := Timer.stopped } := by
  rw [completeFold]
  obtain ⟨e, -⟩ | ⟨holding, -⟩ := releaseTest_cases (hand [8] s { s with rel := { s.rel with
    exitList := s.rel.exitList ++ [{ piece := p, timer := Timer.start (s.setupN 32) }]
    foldReq := false, folding := false, folder := none, foldTimer := Timer.stopped } })
  · rw [e]
    rfl
  · exact absurd holding hold

/-- What a release start leaves of the folder. -/
theorem releaseTest_folder (s : State) : (releaseTest s).rel.folding = s.rel.folding ∧
    (releaseTest s).rel.folder = s.rel.folder ∧ (releaseTest s).rel.foldTimer = s.rel.foldTimer := by
  obtain ⟨e, -⟩ | ⟨-, -, r, -, ⟨-, -, e⟩ | ⟨-, -, -, -, e⟩⟩ := releaseTest_cases s <;> rw [e] <;> exact ⟨rfl, rfl, rfl⟩

/-- Settles O30: the piece by `completeFold`, the release unit where no set is held by `completeFold_rel`. -/
theorem foldDoneSendsPieceToExit : Obligations.FoldDoneSendsPieceToExit := by
  unfold Obligations.FoldDoneSendsPieceToExit
  intro s level
  have done : exec (.foldDone level) s = .next (foldDoneLevel level s) := rfl
  have outside : Outside s (foldDoneLevel level s) := (LineStep.ofPins _ (foldDoneLevel_keeps level s)).toOffBus.outside
  refine ⟨_, done, ?_⟩
  rw [foldDoneLevel] at outside ⊢
  dsimp only at outside ⊢
  split
  · next rises =>
    rw [if_pos rises] at outside
    simp only [Bool.and_eq_true, Bool.not_eq_true'] at rises
    obtain ⟨⟨⟨high, low⟩, run⟩, folding⟩ := rises
    have never {P : Prop} (h : level = false ∨ s.pins.foldDone = true ∨ s.seq.line.running = false ∨
        s.rel.folding = false) : P := by
      rw [high, low, run, folding] at h
      simp at h
    cases folder : s.rel.folder with
    | none => exact ⟨rfl, fun p _ _ _ _ h => absurd h nofun, never, rfl, rfl, rfl, rfl, rfl, by rwa [folder] at outside⟩
    | some p =>
      rw [folder] at outside
      dsimp only at outside ⊢
      generalize hu : ({ s with pins := { s.pins with foldDone := level } } : State) = u at outside ⊢
      have off : (completeFold p u).offPockets = u.offPockets := releaseTest_offPockets _
      simp only [endStep_acc, endStep_pins, endStep_rel, endStep_trk, endStep_enc, endStep_tr, endStep_seq]
      refine ⟨(congrArg OffPockets.pins off).trans (by rw [← hu]; rfl), fun q _ _ _ _ same => ?_, never,
        (releaseTest_acc _).trans (by rw [← hu]; rfl), (congrArg OffPockets.trk off).trans (by rw [← hu]; rfl),
        (congrArg OffPockets.enc off).trans (by rw [← hu]; rfl), (congrArg OffPockets.tr off).trans (by rw [← hu]; rfl),
        (congrArg OffPockets.seq off).trans (by rw [← hu]; rfl), outside⟩
      obtain rfl := Option.some.inj same
      subst hu
      obtain ⟨idle, empty, stopped⟩ := releaseTest_folder _
      refine ⟨releaseTest_exitList _, idle, empty, stopped, fun hold => ?_⟩
      have rel := completeFold_rel p (s := { s with pins := { s.pins with foldDone := level } }) hold
      exact ⟨(congrArg ReleaseUnit.foldReq rel :), (congrArg ReleaseUnit.style rel :), (congrArg ReleaseUnit.hold rel :)⟩
  · next still =>
    rw [if_neg still] at outside
    exact ⟨rfl, fun p high low run folding _ => absurd (by rw [high, low, run, folding]; rfl) still, fun _ => rfl, rfl, rfl,
      rfl, rfl, rfl, outside⟩

/-! ### EXIT_EDGE -/

/-- R150: a confirmed piece. -/
structure Confirmed (e : ExitEntry) (es : List ExitEntry) (s t : State) : Prop where
  exitList : t.rel.exitList = es
  pins : t.pins = s.pins
  enc : t.enc = s.enc
  trk : t.trk = s.trk
  tr : t.tr = s.tr
  seq : t.seq = s.seq
  none : changesNoTicket s e.piece.owner → t.tix.table = s.tix.table ∧ t.tix.waiting = s.tix.waiting
  outcome : ∀ ring k, e.piece.owner = .ticket ring → findTicket ring s.tix.table = some k →
    k.state = .collating ∨ k.state = .closed → reachesOutcome s t k e.piece.reasons false

theorem exitRise_confirms {s : State} {e : ExitEntry} {es : List ExitEntry} (list : s.rel.exitList = e :: es) :
    Confirmed e es s (exitRise s) := by
  obtain ⟨u, rise, off, left, tix⟩ : ∃ u : State,
      exitRise s = endStep (releaseTest (reportOutcome e.piece.owner e.piece.reasons false u)) ∧
      u.offPockets = s.offPockets ∧ u.rel.exitList = es ∧ u.tix = s.tix :=
    ⟨hand [8] s { s with rel := { s.rel with exitList := es } }, by rw [exitRise, list], rfl, rfl, rfl⟩
  have same : (releaseTest (reportOutcome e.piece.owner e.piece.reasons false u)).offPockets = s.offPockets := by
    simpa using off
  rw [rise]
  refine ⟨?list, (endStep_pins _).trans (congrArg OffPockets.pins same), (endStep_enc _).trans (congrArg OffPockets.enc same),
    (endStep_trk _).trans (congrArg OffPockets.trk same), (endStep_tr _).trans (congrArg OffPockets.tr same),
    (endStep_seq _).trans (congrArg OffPockets.seq same), fun none => ?none, fun ring k owner found live => ?outcome⟩
  case list =>
    rw [endStep_rel, releaseTest_exitList]
    exact (congrArg Prod.snd (reportOutcome_besideSets _ _ _ u)).trans left
  case none =>
    rw [endStep_table, endStep_waiting, releaseTest_tix, reportOutcome_of_changesNoTicket, tix]
    · exact ⟨rfl, rfl⟩
    · rw [changesNoTicket, tix]
      exact none
  case outcome =>
    rw [← tix] at found
    rw [owner]
    exact (reportOutcome_does found live e.piece.reasons false).congr (by rw [tix]) (by rw [tix])
      ((endStep_table _).trans (by rw [releaseTest_tix])) ((endStep_waiting _).trans (by rw [releaseTest_tix]))

theorem exitRise_stray {s : State} (list : s.rel.exitList = []) :
    exitRise s = takeFault .strayExit s.rel.folding 0 s := by rw [exitRise, list]

/-- Settles O32: the oldest piece's outcome by `reportOutcome_does`, the stray exit by `takeFault_first`. -/
theorem exitEdgeConfirmsOldestPiece : Obligations.ExitEdgeConfirmsOldestPiece := by
  unfold Obligations.ExitEdgeConfirmsOldestPiece
  intro s level
  have done : exec (.exitEdge level) s = .next (exitEdgeLevel level s) := rfl
  have step := LineStep.ofPins _ (exitEdgeLevel_keeps level s)
  have keeps := (exitEdgeLevel_keeps level s).enc_command
  have outside : Outside s (exitEdgeLevel level s) := step.toOffBus.outside
  refine ⟨_, done, ?_⟩
  rw [exitEdgeLevel] at outside ⊢
  dsimp only at outside ⊢
  split
  · next rises =>
    rw [if_pos rises] at outside
    simp only [Bool.and_eq_true, Bool.not_eq_true'] at rises
    obtain ⟨⟨high, low⟩, run⟩ := rises
    have never {P : Prop} (h : level = false ∨ s.pins.exitEdge = true ∨ s.seq.line.running = false) : P := by
      rw [high, low, run] at h
      simp at h
    cases list : s.rel.exitList with
    | nil =>
      rw [exitRise_stray (by exact list)] at outside ⊢
      refine ⟨takeFault_pins _ _ _ _, fun e es _ _ _ h => absurd h nofun, fun _ _ _ _ up => ?_, never,
        takeFault_enc _ _ _ _, takeFault_command _ _ _ _, outside⟩
      obtain ⟨r, e, -⟩ := takeFault_first .strayExit s.rel.folding 0
        (s := { s with pins := { s.pins with exitEdge := level } }) up (running_line run)
      rw [e]
      exact ⟨rfl, rfl⟩
    | cons e es =>
      obtain ⟨left, pins, enc, trk, tr, seq, none, outcome⟩ :=
        exitRise_confirms (s := { s with pins := { s.pins with exitEdge := level } }) list
      refine ⟨pins, fun x xs _ _ _ same => ?_, fun _ _ _ h => (List.cons_ne_nil _ _ h).elim, never, enc,
        congrArg Transport.command tr, outside⟩
      obtain ⟨rfl, rfl⟩ := List.cons.inj same
      exact ⟨left, seq, trk, tr, none, outcome⟩
  · next still =>
    rw [if_neg still] at outside
    exact ⟨rfl, fun e es high low run _ => absurd (by rw [high, low, run]; rfl) still,
      fun high low run _ _ => absurd (by rw [high, low, run]; rfl) still, fun _ => rfl, rfl, rfl, outside⟩

/-! ### The hold pocket's inputs -/

/-- R141: with no set to judge the release unit stays. -/
theorem releaseTest_idle {s : State} (h : s.rel.hold ≠ .holding ∨ s.seq.line.running = false ∨ s.rel.set = none) :
    releaseTest s = s := by
  obtain ⟨e, -⟩ | ⟨hold, run, r, set, -⟩ := releaseTest_cases s
  · exact e
  · obtain other | rest | none := h
    · exact absurd hold other
    · rw [run] at rest; cases rest
    · rw [set] at none; cases none

/-- R137: the verdict is DIVERT of a purge set and of a set with a reason. -/
theorem verdict_divert (r : SetRecord) : r.verdict = .divert ↔ r.owner = .purge ∨ r.reasons ≠ 0 := by
  rw [SetRecord.verdict]
  cases r.owner <;> by_cases h : r.reasons = 0 <;> simp [h]

theorem verdict_good (r : SetRecord) : r.verdict = .good ↔ r.owner ≠ .purge ∧ r.reasons = 0 := by
  rw [← not_iff_not, not_and_or, not_not, ← ne_eq, ← ne_eq, ← verdict_divert]
  cases r.verdict <;> decide

theorem releaseReady_of_set {s : State} {r : SetRecord} (hold : s.rel.hold = .holding) (run : s.seq.line.running = true)
    (set : s.rel.set = some r) : releaseReady s = if r.owner ≠ .purge ∧ r.reasons = 0 then
      s.pins.foldReady && !s.rel.folding && decide (s.rel.exitList.length < 2) else !s.pins.rejectFull := by
  rw [releaseReady, hold, run, set]
  by_cases good : r.owner ≠ .purge ∧ r.reasons = 0
  · rw [if_pos good]
    simp only [(verdict_good r).mpr good, Bool.true_and, decide_true]; rfl
  · rw [if_neg good]
    have divert : r.verdict = .divert := by
      cases v : r.verdict with
      | divert => rfl
      | good => exact absurd ((verdict_good r).mp v) good
    simp only [divert, Bool.true_and, decide_true]

/-- R142: the release of a set the reject tray takes. -/
theorem releaseTest_divert {s : State} {r : SetRecord} (ready : releaseReady s = true) (set : s.rel.set = some r)
    (bad : r.owner = .purge ∨ r.reasons ≠ 0) : releaseTest s = startDivert s := by
  rw [releaseTest, if_pos ready, set]
  simp only [(verdict_divert r).mpr bad]

/-- R143: the release of a set the folder takes. -/
theorem releaseTest_good {s : State} {r : SetRecord} (ready : releaseReady s = true) (set : s.rel.set = some r)
    (good : r.owner ≠ .purge ∧ r.reasons = 0) : releaseTest s = startFold r s := by
  rw [releaseTest, if_pos ready, set]
  simp only [(verdict_good r).mpr good]

theorem releaseTest_not_ready {s : State} (h : releaseReady s = false) : releaseTest s = s := by
  rw [releaseTest, h]
  rfl

/-- R141 to R143: a set that is HOLDING is released exactly when the conditions of its verdict hold. -/
structure ReleaseJudged (s t : State) : Prop where
  divert : ∀ r, s.rel.hold = .holding → s.seq.line.running = true → s.rel.set = some r →
    r.owner = .purge ∨ r.reasons ≠ 0 → s.pins.rejectFull = false →
    t.rel = { s.rel with
      hold := .releasing, verdict := .divert, divert := true, release := true
      releaseTimer := { running := true, left := s.setupN 30 } }
  fold : ∀ r, s.rel.hold = .holding → s.seq.line.running = true → s.rel.set = some r →
    r.owner ≠ .purge → r.reasons = 0 → s.pins.foldReady = true → s.rel.folding = false → s.rel.exitList.length < 2 →
    t.rel = { s.rel with
      hold := .releasing, verdict := .good, divert := false, release := true, foldReq := true
      style := r.style.code, releaseTimer := { running := true, left := s.setupN 30 } }
  idle : s.rel.hold ≠ .holding ∨ s.seq.line.running = false ∨ s.rel.set = none → t.rel = s.rel
  held : ∀ r, s.rel.set = some r → (r.owner = .purge ∨ r.reasons ≠ 0) ∧ s.pins.rejectFull = true ∨
    r.owner ≠ .purge ∧ r.reasons = 0 ∧
      (s.pins.foldReady = false ∨ s.rel.folding = true ∨ 2 ≤ s.rel.exitList.length) → t.rel = s.rel
  rest : t.offPockets = s.offPockets
  acc : t.acc = s.acc

theorem releaseTest_judged (s : State) : ReleaseJudged s (releaseTest s) := by
  refine ⟨fun r hold run set bad room => ?_, fun r hold run set owner none fold idle exits => ?_, fun idle => ?_,
    fun r set waits => ?_, releaseTest_offPockets s, releaseTest_acc s⟩
  · have ready : releaseReady s = true := by
      rw [releaseReady_of_set hold run set, if_neg, room]
      · rfl
      · rintro ⟨owner, none⟩
        exact bad.elim owner fun some => some none
    rw [releaseTest_divert ready set bad]
    rfl
  · have ready : releaseReady s = true := by
      rw [releaseReady_of_set hold run set, if_pos ⟨owner, none⟩, fold, idle, decide_eq_true exits]
      rfl
    rw [releaseTest_good ready set ⟨owner, none⟩]
    rfl
  · rw [releaseTest_idle idle]
  · by_cases live : s.rel.hold = .holding ∧ s.seq.line.running = true
    · rw [releaseTest_not_ready]
      rw [releaseReady_of_set live.1 live.2 set]
      obtain ⟨bad, full⟩ | ⟨owner, none, busy⟩ := waits
      · rw [if_neg, full]
        · rfl
        · rintro ⟨owner, none⟩
          exact bad.elim owner fun some => some none
      · rw [if_pos ⟨owner, none⟩]
        obtain low | folding | exits := busy
        · rw [low]; rfl
        · rw [folding, Bool.not_true, Bool.and_false]; rfl
        · rw [decide_eq_false (Nat.not_lt.mpr exits), Bool.and_false]
    · rw [releaseTest_idle]
      rw [not_and_or, Bool.not_eq_true] at live
      exact live.imp_right .inl

/-- Settles O33: the test of the release conditions by `releaseTest_judged`. -/
theorem trayAndFolderInputsRelease : Obligations.TrayAndFolderInputsRelease := by
  unfold Obligations.TrayAndFolderInputsRelease
  intro s level i p which
  obtain ⟨u, done, pins, frame⟩ : ∃ u : State, exec i s = .next (endStep (releaseTest u)) ∧ u.pins = p ∧
      u = { s with pins := p } := by
    obtain ⟨rfl, rfl⟩ | ⟨rfl, rfl⟩ := which <;> exact ⟨_, rfl, rfl, rfl⟩
  have outside : Outside s (endStep (releaseTest u)) := by
    rw [frame]
    exact (LineStep.ofPins p ((releaseTest_keeps _).trans (endStep_keeps _))).toOffBus.outside
  obtain ⟨divert, fold, idle, held, rest, acc⟩ := releaseTest_judged u
  have off {α : Type} (f : OffPockets → α) : f (releaseTest u).offPockets = f u.offPockets := congrArg f rest
  refine ⟨_, done, ?_⟩
  simp only [endStep_acc, endStep_pins, endStep_rel, endStep_trk, endStep_enc, endStep_tr, endStep_seq]
  subst frame
  exact ⟨off OffPockets.pins, divert, fold, idle, held, acc, off OffPockets.trk, off OffPockets.enc, off OffPockets.tr,
    off OffPockets.seq, outside⟩

/-! ### What the planner and the nip leave

In and after `refresh`, `fireTest` and `settleEnd` only the records that stand at the nip, the target and its parked flag,
a halt that completes and a release that it starts can differ. -/

/-- The transport but what a target changes. -/
def Transport.beside (t : Transport) : Transport :=
  { t with state := .still, speed := 0, remainder := 0, due := 0, targetW := none, targetC := none, metTold := false }

/-- What a target met changes of the web's motion. -/
def Transport.motion (t : Transport) : MoveState × Nat × Nat × Nat := (t.state, t.speed, t.remainder, t.due)

/-- All of a state but what the planner and the nip change. -/
structure OffNip where
  pins : Pins
  enc : Encoder
  rd : Reader
  tix : TicketUnit
  col : Collator
  acc : Accumulator
  path : MemoryPath
  port : PortAnswer
  mem : Memory
  pending : List Instr
  tr : Transport
  trk : Tracking
  seq : Sequencer
  haltKind : HaltKind
  haltSheet : HaltSheet
  haltTarget : Option Word
  limited : Bool
  snapshot : Nat × Bool

/-- The part of a state that the planner and the nip leave alone. -/
def State.offNip (s : State) : OffNip :=
  { pins := s.pins, enc := s.enc, rd := s.rd, tix := { s.tix with low := false }, col := s.col, acc := s.acc
    path := s.path, port := s.port, mem := s.mem, pending := s.pending, tr := s.tr.beside
    trk := { s.trk with queue := [], snap := false, snapTimer := Timer.stopped }, seq := { s.seq with line := .idle }
    haltKind := s.pln.haltKind, haltSheet := s.pln.haltSheet, haltTarget := s.pln.haltTarget, limited := s.pln.limited
    snapshot := (s.rep.snapCount, s.rep.snapDue) }

/-- A record that stands at the nip: READ_DONE or FIRED. -/
def Sheet.atNip (r : Sheet) : Prop := r.stage = .readDone ∨ r.stage = .fired

/-- R50 to R52: what the nip can do with the records of a queue: those whose anchor names a READ_DONE or FIRED record are
fired or separated. -/
def nipped (q : List Sheet) (f : Sheet → Sheet) : Prop :=
  ∀ r ∈ q, f r = r ∨ (∃ y ∈ q, y.anchor = r.anchor ∧ y.atNip) ∧
    ((f r).stage = .fired ∨ (f r).stage = .separated) ∧ f r = { r with stage := (f r).stage, sepPos := (f r).sepPos }

theorem nipped_id (q : List Sheet) : nipped q id := fun _ _ => .inl rfl

theorem nipped.anchor {q : List Sheet} {f : Sheet → Sheet} (h : nipped q f) {r : Sheet} (hr : r ∈ q) :
    (f r).anchor = r.anchor := by
  obtain e | ⟨-, -, e⟩ := h r hr <;> rw [e]

/-- The nip takes no record that is not READ_DONE or FIRED back there. -/
theorem nipped.atNip {q : List Sheet} {f : Sheet → Sheet} (h : nipped q f) {y : Sheet} (hy : y ∈ q) (at' : (f y).atNip) :
    ∃ z ∈ q, z.anchor = y.anchor ∧ z.atNip := by
  obtain e | ⟨nip, -⟩ := h y hy
  · exact ⟨y, hy, rfl, e ▸ at'⟩
  · exact nip

theorem nipped.comp {q : List Sheet} {f g : Sheet → Sheet} (hf : nipped q f) (hg : nipped (q.map f) g) :
    nipped q (g ∘ f) := by
  intro r hr
  obtain e | ⟨⟨y, hy, anchor, nip⟩, stage, e⟩ := hg (f r) (List.mem_map_of_mem hr)
  · rw [Function.comp, e]
    exact hf r hr
  · obtain ⟨z, hz, rfl⟩ := List.mem_map.mp hy
    obtain ⟨w, hw, same, nip⟩ := hf.atNip hz nip
    rw [hf.anchor hz, hf.anchor hr] at anchor
    refine .inr ⟨⟨w, hw, same.trans anchor, nip⟩, stage, ?_⟩
    rw [Function.comp]
    obtain e' | ⟨-, -, e'⟩ := hf r hr
    · rwa [e'] at e ⊢
    · refine e.trans ?_
      generalize g (f r) = x
      rw [e']

/-- What the planner and the nip may do from `s` to `t`. -/
structure Nipped (s t : State) : Prop where
  rest : t.offNip = s.offNip
  line : t.seq.line = s.seq.line ∨ s.seq.line = .halting ∧ t.seq.line = .halted ∧ t.latches .halted
  rel : releaseReady s = false → t.rel = s.rel
  queue : ∃ f, t.trk.queue = s.trk.queue.map f ∧ nipped s.trk.queue f
  latched : ∀ c, s.latches c → t.latches c
  motion : t.tr.motion = s.tr.motion ∨ t.tr.motion = (.still, 0, 0, s.tr.emitted)

theorem Nipped.emitted {s t : State} (h : Nipped s t) : t.tr.emitted = s.tr.emitted :=
  congrArg (fun o => o.tr.emitted) h.rest

theorem Nipped.line_running {s t : State} (h : Nipped s t) : t.seq.line.running = s.seq.line.running := by
  obtain e | ⟨halting, halted, -⟩ := h.line
  · rw [e]
  · rw [halting, halted]
    rfl

theorem Nipped.notReady {s t : State} (h : Nipped s t) (ready : releaseReady s = false) : releaseReady t = false := by
  rw [← ready, releaseReady, releaseReady, h.rel ready, h.line_running,
    show t.pins = s.pins from congrArg OffNip.pins h.rest]

theorem Nipped.trans {s t u : State} (h : Nipped s t) (k : Nipped t u) : Nipped s u := by
  obtain ⟨f, hq, hf⟩ := h.queue
  obtain ⟨g, kq, hg⟩ := k.queue
  refine ⟨k.rest.trans h.rest, ?_, fun ready => (k.rel (h.notReady ready)).trans (h.rel ready),
    ⟨g ∘ f, by rw [kq, hq, List.map_map], hf.comp (hq ▸ hg)⟩, fun c hc => k.latched c (h.latched c hc), ?_⟩
  rotate_left
  · obtain kept | met := k.motion
    · exact h.motion.imp kept.trans kept.trans
    · exact .inr (h.emitted ▸ met)
  obtain hl | ⟨halting, halted, latched⟩ := h.line
  · obtain kl | ⟨halting, kl⟩ := k.line
    · exact .inl (kl.trans hl)
    · exact .inr ⟨hl.symm.trans halting, kl⟩
  · obtain kl | ⟨-, kl⟩ := k.line
    · exact .inr ⟨halting, kl.trans halted, k.latched _ latched⟩
    · exact .inr ⟨halting, kl⟩

theorem Nipped.after {s t u : State} (k : Nipped t u) (h : Nipped s t) : Nipped s u := h.trans k

/-- A step of the planner and the transport's target alone. -/
theorem Nipped.plain {s t : State} (rest : t.offNip = s.offNip) (line : t.seq.line = s.seq.line) (rel : t.rel = s.rel)
    (queue : t.trk.queue = s.trk.queue) (latched : t.rep.latched = s.rep.latched)
    (motion : t.tr.motion = s.tr.motion) : Nipped s t :=
  ⟨rest, .inl line, fun _ => rel, ⟨id, by rw [queue, List.map_id], nipped_id _⟩, fun c hc => by
    rwa [State.latches, latched], .inl motion⟩

theorem Nipped.refl (s : State) : Nipped s s := .plain rfl rfl rfl rfl rfl rfl

theorem latch_keeps_latched (c d : Cause) {s : State} (h : s.latches d) : (latch c s).latches d := by
  intro none
  rw [latch_rep_latched, BitVec.and_or_distrib_right] at none
  exact h (BitVec.or_eq_zero_iff.mp none).1

theorem Nipped.latch (c : Cause) (s : State) : Nipped s (latch c s) :=
  ⟨rfl, .inl rfl, fun _ => rfl, ⟨id, (List.map_id _).symm, nipped_id _⟩, fun _ => latch_keeps_latched _ _, .inl rfl⟩

theorem offer_snapshot (e : Event) (s : State) :
    (offer e s).rep.snapCount = s.rep.snapCount ∧ (offer e s).rep.snapDue = s.rep.snapDue := by
  rw [offer]
  split
  · rw [stage]
    split <;> split <;> exact ⟨rfl, rfl⟩
  · exact ⟨rfl, rfl⟩

theorem Nipped.offer (e : Event) (s : State) : Nipped s (offer e s) := by
  obtain ⟨count, due⟩ := offer_snapshot e s
  refine .plain ?_ (congrArg Sequencer.line (offer_seq e s)) (offer_rel e s) (congrArg Tracking.queue (offer_trk e s))
    (offer_latched e s) (by rw [offer_tr])
  simp only [State.offNip, count, due]
  rw [offer_only]

/-! ### The parts of the planner -/

theorem holdReasonTest_nipped (s : State) : Nipped s (holdReasonTest s) := by
  have told : Nipped s (hand [0] s { s with pln := { s.pln with holdReason := holdReasonNow s } }) :=
    .plain rfl rfl rfl rfl rfl rfl
  rw [holdReasonTest]
  split
  · exact told.trans (.latch _ _)
  · exact told

theorem parkTest_nipped (s : State) : Nipped s (parkTest s) := by
  rw [parkTest]
  split
  · exact (holdReasonTest_nipped s).trans (.latch _ _)
  · exact holdReasonTest_nipped s

theorem releaseTest_snapshot (s : State) : (releaseTest s).rep.snapCount = s.rep.snapCount ∧
    (releaseTest s).rep.snapDue = s.rep.snapDue ∧ (releaseTest s).rep.latched = s.rep.latched := by
  obtain ⟨e, -⟩ | ⟨-, -, r, -, ⟨-, -, e⟩ | ⟨-, -, -, -, e⟩⟩ := releaseTest_cases s <;> rw [e] <;> exact ⟨rfl, rfl, rfl⟩

/-- A release that starts is a matter of the release unit alone. -/
theorem releaseTest_only (s : State) : releaseTest s = { s with rel := (releaseTest s).rel, rep := (releaseTest s).rep } := by
  obtain ⟨e, -⟩ | ⟨-, -, r, -, ⟨-, -, e⟩ | ⟨-, -, -, -, e⟩⟩ := releaseTest_cases s <;> rw [e] <;> rfl

theorem releaseTest_nipped (s : State) : Nipped s (releaseTest s) := by
  obtain ⟨count, due, latched⟩ := releaseTest_snapshot s
  refine ⟨?_, .inl (congrArg Sequencer.line (releaseTest_seq s)), fun ready => by rw [releaseTest_not_ready ready],
    ⟨id, ?_, nipped_id _⟩, fun c hc => by rwa [State.latches, latched], .inl (by rw [releaseTest_only])⟩
  · simp only [State.offNip, count, due]
    rw [releaseTest_only]
  · rw [List.map_id, releaseTest_only]

/-- R104, R167: a halt that completes. -/
theorem haltComplete_nipped {s : State} (halting : s.seq.line = .halting) : Nipped s (haltComplete s) := by
  obtain ⟨u, halted, moved⟩ : ∃ u, haltComplete s = latch .halted (releaseTest (offer (.lineState .halted (some s.seq.line)
      s.seq.haltKind) u)) ∧ u = hand [0] s { s with seq := { s.seq with line := .halted } } := ⟨_, rfl, rfl⟩
  have later : Nipped u (releaseTest (offer (.lineState .halted (some s.seq.line) s.seq.haltKind) u)) :=
    (Nipped.offer _ u).trans (releaseTest_nipped _)
  have same : u.offNip = s.offNip := by rw [moved]; rfl
  have rel : u.rel = s.rel := by rw [moved]; rfl
  have queue : u.trk = s.trk := by rw [moved]; rfl
  have rep : u.rep.latched = s.rep.latched := by rw [moved]; rfl
  have line : u.seq.line = .halted := by rw [moved]; rfl
  have ready (none : releaseReady s = false) : releaseReady u = false := by
    rw [← none, releaseReady, releaseReady, rel, line, halting, show u.pins = s.pins from congrArg OffNip.pins same]
    rfl
  rw [halted]
  refine ⟨later.rest.trans same, .inr ⟨halting, ?_, latch_latches _ _⟩, fun none => (later.rel (ready none)).trans rel,
    ?_, fun c hc => latch_keeps_latched _ _ (later.latched c (by rwa [State.latches, rep])),
    ?_⟩
  rotate_left 2
  · exact later.motion.imp (·.trans (by rw [moved]; rfl)) (·.trans (by rw [moved]; rfl))
  · obtain e | ⟨h, -⟩ := later.line
    · exact e.trans line
    · rw [line] at h; cases h
  · obtain ⟨f, e, hf⟩ := later.queue
    rw [queue] at e hf
    exact ⟨f, e, hf⟩

theorem reportMet_nipped (s : State) : Nipped s (reportMet s) := by
  have told : Nipped s { s with tr := { s.tr with metTold := true }, pln := { s.pln with parked := true } } :=
    .plain rfl rfl rfl rfl rfl rfl
  have completed : Nipped s (if (s.pln.cause.halts && decide (s.seq.line = .halting)) = true then
      haltComplete { s with tr := { s.tr with metTold := true }, pln := { s.pln with parked := true } }
      else { s with tr := { s.tr with metTold := true }, pln := { s.pln with parked := true } }) := by
    split
    · next h =>
      obtain ⟨-, halting⟩ := Bool.and_eq_true_iff.mp h
      exact told.trans (haltComplete_nipped (of_decide_eq_true halting))
    · exact told
  rw [reportMet]
  split
  · exact completed
  · exact completed.trans (parkTest_nipped _)

theorem targetMet_nipped (s : State) : Nipped s (targetMet s) := by
  have stopped : Nipped s (hand [0] s { s with
      tr := { s.tr with state := .still, speed := 0, remainder := 0, due := s.tr.emitted } }) :=
    ⟨rfl, .inl rfl, fun _ => rfl, ⟨id, (List.map_id _).symm, nipped_id _⟩, fun _ => id, .inr rfl⟩
  rw [targetMet]
  split
  · exact stopped.trans (reportMet_nipped _)
  · exact stopped

theorem taking_nipped (o : Option Word) (s : State) : Nipped s (s.taking o) := .plain rfl rfl rfl rfl rfl rfl

theorem takeTarget_nipped (old new : Option Word) (s : State) : Nipped s (takeTarget old new s) := by
  obtain ⟨e, -⟩ | ⟨t, -, -, -, ⟨-, e⟩ | ⟨-, e⟩⟩ := takeTarget_cases old new s <;> rw [e]
  · exact .plain rfl rfl rfl rfl rfl rfl
  · exact .plain rfl rfl rfl rfl rfl rfl
  · exact (targetMet_nipped _).after (.plain rfl rfl rfl rfl rfl rfl)

theorem retell_nipped (c : StopCause) (s : State) : Nipped s (retell c s) := by
  obtain ⟨e, -⟩ | ⟨e, -⟩ := retell_cases c s <;> rw [e]
  · exact .refl s
  · exact .plain rfl rfl rfl rfl rfl rfl

theorem setPlanner_nipped (s u : State) (h : u.pln = s.pln) : Nipped u (u.setPlanner (planNow s)) := by
  refine .plain ?_ rfl rfl rfl rfl rfl
  simp only [State.offNip, State.setPlanner, h]
  rfl

theorem refreshOnce_nipped (s : State) : Nipped s (refreshOnce s) := by
  rw [refreshOnce]
  split
  · have pln : (retell (planNow s).cause s).pln = s.pln := by
      obtain ⟨e, -⟩ | ⟨e, -⟩ := retell_cases (planNow s).cause s <;> rw [e]
    have named : Nipped s ((retell (planNow s).cause s).setPlanner (planNow s)) :=
      (retell_nipped _ s).trans (setPlanner_nipped s _ pln)
    dsimp only
    split
    · exact named
    · exact named.trans (takeTarget_nipped _ _ _)
  · exact .refl s

theorem refresh_nipped (s : State) : Nipped s (refresh s) := (refreshOnce_nipped s).trans (refreshOnce_nipped _)

/-! ### The nip -/

theorem frontOf_some {st : Stage} {q : List Sheet} {r : Sheet} (h : frontOf st q = some r) : r ∈ q ∧ r.stage = st :=
  ⟨List.mem_of_find?_eq_some h, by simpa using List.find?_some h⟩

/-- A record at the nip fired or separated. -/
theorem editSheet_nipped {s t : State} {y : Sheet} {f : Sheet → Sheet} (hy : y ∈ s.trk.queue) (nip : y.atNip)
    (stage : ∀ r, ((f r).stage = .fired ∨ (f r).stage = .separated) ∧
      f r = { r with stage := (f r).stage, sepPos := (f r).sepPos })
    (rest : t.offNip = s.offNip) (line : t.seq = s.seq) (rel : t.rel = s.rel) (rep : t.rep = s.rep) (motion : t.tr.motion = s.tr.motion)
    (queue : t.trk.queue = editSheet y.anchor f s.trk.queue) : Nipped s t := by
  refine ⟨rest, .inl (by rw [line]), fun _ => rel, ⟨_, queue, fun r hr => ?_⟩, fun c hc => by rwa [State.latches, rep],
    .inl motion⟩
  split
  · next same => exact .inr ⟨⟨y, hy, same.symm, nip⟩, stage r⟩
  · exact .inl rfl

theorem separateFired_nipped (n : Nat) (s : State) : Nipped s (separateFired n s) := by
  induction n generalizing s with
  | zero => exact .refl s
  | succ n ih =>
    rw [separateFired]
    split
    · exact .refl s
    · next r front =>
      obtain ⟨hr, fired⟩ := frontOf_some front
      split
      · have separated : Nipped s (s.editSheet r.anchor fun x =>
            { x with stage := .separated, sepPos := some s.enc.belt }) :=
          editSheet_nipped hr (.inr fired) (fun _ => ⟨.inr rfl, rfl⟩) rfl rfl rfl rfl rfl rfl
        exact separated.trans (ih _)
      · exact .refl s

theorem goSheet_nipped {s : State} {r : Sheet} (hr : r ∈ s.trk.queue) (done : r.stage = .readDone) :
    Nipped s (goSheet r s) := by
  have fires (snap : Bool) (timer : Timer) : Nipped s { s with trk := { s.trk with
      queue := editSheet r.anchor (fun x => { x with stage := .fired }) s.trk.queue, snap := snap, snapTimer := timer } } :=
    editSheet_nipped hr (.inl done) (fun _ => ⟨.inl rfl, rfl⟩) rfl rfl rfl rfl rfl rfl
  rw [goSheet]
  split
  · exact editSheet_nipped hr (.inl done) (fun _ => ⟨.inr rfl, rfl⟩) rfl rfl rfl rfl rfl rfl
  · exact (fires _ _).trans (separateFired_nipped _ _)
  · exact (fires _ _).trans (separateFired_nipped _ _)

theorem fireFor_nipped (n : Nat) (s : State) : Nipped s (fireFor n s) := by
  induction n generalizing s with
  | zero => exact .refl s
  | succ n ih =>
    rw [fireFor]
    split
    · exact .refl s
    · next r front =>
      obtain ⟨hr, done⟩ := frontOf_some front
      split
      · exact ((goSheet_nipped hr done).trans (refresh_nipped _)).trans (ih _)
      · exact .refl s

theorem fireTest_nipped (s : State) : Nipped s (fireTest s) := fireFor_nipped _ s

theorem settle_nipped (s : State) : Nipped s (settle s) := (refresh_nipped s).trans (fireTest_nipped _)

theorem settleSince_nipped (old s : State) : Nipped s (settleSince old s) := by
  obtain ⟨e, -⟩ | ⟨e, -⟩ := settleSince_cases old s <;> rw [e]
  · exact settle_nipped s
  · exact refresh_nipped s

theorem ticketsLowTest_nipped (s : State) : Nipped s (ticketsLowTest s) := by
  have told : Nipped s { s with tix := { s.tix with low := ticketsLowNow s } } := .plain rfl rfl rfl rfl rfl rfl
  rw [ticketsLowTest]
  split
  · exact told.trans (.latch _ _)
  · exact told

theorem endStep_nipped (s : State) : Nipped s (endStep s) := (ticketsLowTest_nipped s).trans (holdReasonTest_nipped _)

theorem settleEnd_nipped (old s : State) : Nipped s (settleEnd old s) :=
  (settleSince_nipped old s).trans (endStep_nipped _)

/-! ### The frames of a step that settles -/

/-- What the planner and the nip leave, field by field. -/
structure NipFrame (s t : State) : Prop where
  pins : t.pins = s.pins
  enc : t.enc = s.enc
  rd : t.rd = s.rd
  col : t.col = s.col
  acc : t.acc = s.acc
  path : t.path = s.path
  mem : t.mem = s.mem
  port : t.port = s.port
  pending : t.pending = s.pending
  table : t.tix.table = s.tix.table
  command : t.tr.command = s.tr.command
  haltKind : t.pln.haltKind = s.pln.haltKind
  haltSheet : t.pln.haltSheet = s.pln.haltSheet
  haltTarget : t.pln.haltTarget = s.pln.haltTarget
  seq : t.seq = { s.seq with line := t.seq.line }

theorem Nipped.frame {s t : State} (h : Nipped s t) : NipFrame s t where
  pins := congrArg OffNip.pins h.rest
  enc := congrArg OffNip.enc h.rest
  rd := congrArg OffNip.rd h.rest
  col := congrArg OffNip.col h.rest
  acc := congrArg OffNip.acc h.rest
  path := congrArg OffNip.path h.rest
  mem := congrArg OffNip.mem h.rest
  port := congrArg OffNip.port h.rest
  pending := congrArg OffNip.pending h.rest
  table := congrArg (fun o => o.tix.table) h.rest
  command := congrArg (fun o => o.tr.command) h.rest
  haltKind := congrArg OffNip.haltKind h.rest
  haltSheet := congrArg OffNip.haltSheet h.rest
  haltTarget := congrArg OffNip.haltTarget h.rest
  seq := (congrArg (fun o => { o.seq with line := t.seq.line }) h.rest :)

/-- A line that is not HALTING stays as it is. -/
theorem Nipped.seq {s t : State} (h : Nipped s t) (other : s.seq.line ≠ .halting) : t.seq = s.seq := by
  obtain e | ⟨halting, -⟩ := h.line
  · rw [h.frame.seq, e]
  · exact absurd halting other

/-- A line that is HALTING can only become HALTED. -/
theorem Nipped.halts {s t : State} (h : Nipped s t) (halting : s.seq.line = .halting) :
    t.seq.line = .halting ∨ t.seq.line = .halted :=
  h.line.imp (·.trans halting) fun h => h.2.1

theorem Nipped.anchors {s t : State} (h : Nipped s t) :
    t.trk.queue.map Sheet.anchor = s.trk.queue.map Sheet.anchor := by
  obtain ⟨f, e, hf⟩ := h.queue
  rw [e, List.map_map]
  exact List.map_congr_left fun r hr => hf.anchor hr

/-! ### A halt requested of the run -/

/-- R100, R102: the halt sheet and the halt target that a list of candidates gives. -/
def Planner.choosing (c : List Sheet) (s : State) (p : Planner) : Planner :=
  { p with
    haltSheet := (c.find? fun r => reachable (s.park r) s).elim .awaiting fun r => .sheet r.anchor
    haltTarget := (c.find? fun r => reachable (s.park r) s).map s.park }

theorem chooseHalt_only (c : List Sheet) (s : State) : chooseHalt c s = { s with pln := s.pln.choosing c s } := by
  rw [chooseHalt.eq_def, Planner.choosing]
  split
  · next found => rw [found]; rfl
  · next none => rw [none]; rfl

/-- R100, R102: the candidates of a halt of the kind. -/
def HaltKind.candidates (k : HaltKind) (q : List Sheet) : List Sheet :=
  match k with
  | .stop => q.filter Sheet.stopCandidate
  | _ => q.filter Sheet.pauseCandidate

/-- R100, R102, R103: a halt request, unless RUNOUT stands. -/
theorem requestHalt_only (kind : HaltKind) (s : State) : requestHalt kind s = { s with
    pln := if s.pln.haltKind = .runout then s.pln
      else { s.pln with haltKind := kind }.choosing (kind.candidates s.trk.queue) s } := by
  rw [requestHalt]
  split
  · rfl
  · cases kind <;> exact chooseHalt_only _ _

/-- R156: a change of line state, with the release it may start (R141). -/
theorem changeLine_only (new : LineState) (kind : HaltKind) (s : State) : changeLine new kind s = { s with
    seq := { s.seq with line := new, haltKind := kind }, rel := (changeLine new kind s).rel
    rep := (changeLine new kind s).rep } := by
  rw [changeLine]
  split
  · rw [releaseTest_only, offer_only]
    rfl
  · rw [offer_only]
    rfl

/-- R165, R166: the line in HALTING with the halt request made, before the planner and the nip follow. -/
theorem enterHalting_only (kind : HaltKind) (s : State) : ∃ u, enterHalting kind s = settleEnd s u ∧ u = { s with
    seq := { s.seq with line := .halting, haltKind := kind }, rel := u.rel, rep := u.rep
    pln := if s.pln.haltKind = .runout then s.pln
      else { s.pln with haltKind := kind }.choosing (kind.candidates s.trk.queue) s } := by
  refine ⟨_, rfl, ?_⟩
  rw [requestHalt_only, changeLine_only]
  rfl

/-- Settles O35: the entry by `enterHalting_only`, what follows by `settleEnd_nipped`. -/
theorem paperLowRiseHaltsRun : Obligations.PaperLowRiseHaltsRun := by
  unfold Obligations.PaperLowRiseHaltsRun
  intro s level
  have done : exec (.paperLow level) s = .next (paperLowLevel level s) := rfl
  have outside : Outside s (paperLowLevel level s) := (LineStep.ofPins _ (paperLowLevel_keeps level s)).toOffBus.outside
  refine ⟨_, done, ?_⟩
  rw [paperLowLevel] at outside ⊢
  dsimp only at outside ⊢
  split
  · next rises =>
    rw [if_pos rises] at outside
    simp only [Bool.and_eq_true, Bool.not_eq_true', decide_eq_true_eq] at rises
    obtain ⟨⟨⟨high, low⟩, run⟩, option⟩ := rises
    obtain ⟨u, e, hu⟩ := enterHalting_only .paperLow { s with pins := { s.pins with paperLow := level } }
    rw [e] at outside ⊢
    have nip := settleEnd_nipped { s with pins := { s.pins with paperLow := level } } u
    have frame := nip.frame
    refine ⟨frame.pins.trans (by rw [hu]), fun _ _ _ _ => ⟨nip.halts (by rw [hu]), ?kind, fun other => ?request⟩,
      fun same => ?_, frame.enc.trans (by rw [hu]), frame.command.trans (by rw [hu]), outside⟩
    case kind =>
      rw [frame.seq, hu]
    case request =>
      rw [frame.haltKind, hu]
      exact congrArg Planner.haltKind (if_neg other)
    · rw [high, low, option] at same
      simp [run] at same
  · next still =>
    rw [if_neg still] at outside
    exact ⟨rfl, fun high low run option => absurd (by rw [high, low, decide_eq_true run]; exact option) still, fun _ => rfl,
      rfl, rfl, outside⟩

/-! ### DROP_END -/

theorem releaseTest_released (s : State) : releaseReady (releaseTest s) = false := by
  have moved {u : State} (h : u.rel.hold = .releasing) : releaseReady u = false := by
    rw [releaseReady, h]
    rfl
  obtain ⟨e, ready⟩ | ⟨-, -, r, -, ⟨-, -, e⟩ | ⟨-, -, -, -, e⟩⟩ := releaseTest_cases s <;> rw [e]
  · exact ready
  · exact moved rfl
  · exact moved rfl

/-- R141 to R143: what a release that starts leaves in the release unit. -/
theorem releaseTest_starts {s : State} {r : SetRecord} (ready : releaseReady s = true) (set : s.rel.set = some r) :
    (releaseTest s).rel.set = some r ∧ (releaseTest s).rel.hold = .releasing ∧ (releaseTest s).rel.release = true ∧
      (releaseTest s).rel.releaseTimer = { running := true, left := s.setupN 30 } ∧
      (releaseTest s).rel.divert = !decide (r.owner ≠ .purge ∧ r.reasons = 0) := by
  by_cases good : r.owner ≠ .purge ∧ r.reasons = 0
  · rw [releaseTest_good ready set good, decide_eq_true good]
    exact ⟨set, rfl, rfl, rfl, rfl⟩
  · have bad : r.owner = .purge ∨ r.reasons ≠ 0 := by
      rwa [not_and_or, not_not] at good
    rw [releaseTest_divert ready set bad, decide_eq_false good]
    exact ⟨set, rfl, rfl, rfl, rfl⟩

/-- Settles O28: the release by `releaseReady_of_set`, what follows by `settleEnd_nipped`. -/
theorem dropEndHandsSetToHold : Obligations.DropEndHandsSetToHold := by
  unfold Obligations.DropEndHandsSetToHold
  intro s r ready run due set which
  obtain ⟨u, drops, hu⟩ : ∃ u, endDrop s = releaseTest u ∧ u = { s with
      acc := { s.acc with state := .empty, set := none, drop := false, dropTimer := Timer.stopped }
      rel := { s.rel with hold := .holding, set := some r }, rep := u.rep } := by
    refine ⟨_, by rw [endDrop, set]; rfl, rfl⟩
  have done : exec .dropEnd s = .next (settleEnd s (endDrop s)) := by
    change Host.Outcome.next (dropEnds s) = _
    rw [dropEnds, run, (expired_iff _).mpr due]
    rfl
  have outside : Outside s (settleEnd s (endDrop s)) := ((endDrop_keeps s).trans (settleEnd_keeps s _)).outside
  have judged : releaseReady u = ready := by
    rw [releaseReady_of_set (r := r) (by rw [hu]) (by rw [hu]; exact run) (by rw [hu]), which, hu]
  rw [drops] at done outside
  have nip := settleEnd_nipped s (releaseTest u)
  have frame := ((releaseTest_nipped u).trans nip).frame
  have rel : (settleEnd s (releaseTest u)).rel = (releaseTest u).rel := nip.rel (releaseTest_released u)
  refine ⟨_, done, frame.acc.trans (by rw [hu]; rfl), ?_⟩
  rw [rel]
  suffices released : (releaseTest u).rel.set = some r ∧
      (releaseTest u).rel.hold = (if ready = true then .releasing else .holding) ∧
      (ready = true → (releaseTest u).rel.release = true ∧
        (releaseTest u).rel.releaseTimer = { running := true, left := s.setupN 30 } ∧
        (releaseTest u).rel.divert = !decide (r.owner ≠ .purge ∧ r.reasons = 0)) ∧
      (ready = false → (releaseTest u).rel = { s.rel with hold := .holding, set := some r }) by
    obtain ⟨set, hold, starts, holds⟩ := released
    exact ⟨set, hold, starts, holds, frame.enc.trans (by rw [hu]), frame.pins.trans (by rw [hu]),
      frame.command.trans (by rw [hu]), outside⟩
  have rel : u.rel = { s.rel with hold := .holding, set := some r } := by rw [hu]
  cases ready with
  | true =>
    obtain ⟨set, hold, release, timer, divert⟩ := releaseTest_starts judged (show u.rel.set = some r by rw [rel])
    have setup : u.setupN 30 = s.setupN 30 := by rw [hu]; rfl
    exact ⟨set, hold, fun _ => ⟨release, by rw [timer, setup], divert⟩, nofun⟩
  | false =>
    rw [releaseTest_not_ready judged, rel]
    exact ⟨rfl, rfl, nofun, fun _ => rfl⟩

/-! ### STEP_PULSE -/

theorem Transport.stopNow_stepOut (t : Transport) : t.stopNow.stepOut = t.stepOut := by
  rw [Transport.stopNow]
  split <;> rfl

theorem Transport.faulted_stepOut (f : LineFault) (t : Transport) : (t.faulted f).stepOut = t.stepOut := by
  rw [Transport.faulted]
  split
  · rw [Transport.stopNow_stepOut]
  · rw [Transport.rampDown.eq_def]
    split <;> rfl

/-- A fault leaves STEP as it is. -/
theorem takeFault_stepOut (f : LineFault) (flag : Bool) (detail : Word) (s : State) :
    (takeFault f flag detail s).tr.stepOut = s.tr.stepOut := by
  by_cases up : s.seq.startupComplete = true
  · by_cases line : s.seq.line = .fault
    · obtain ⟨r, e⟩ := takeFault_added f flag detail up line
      rw [e]
      dsimp only
      split
      · exact Transport.stopNow_stepOut _
      · rfl
    · obtain ⟨r, e, -⟩ := takeFault_first f flag detail up line
      rw [e]
      exact Transport.faulted_stepOut f _
  · rw [takeFault_early f flag detail (Bool.eq_false_iff.mpr up)]

/-- R118: the slip test, with DRIVE_ENABLE high. -/
theorem slipTest_cases (s : State) :
    s.setupN 21 < s.deviation.toInt.natAbs ∧ s.tr.slipReported = false ∧
        slipTest true s = takeFault .slip false s.deviation { s with tr := { s.tr with slipReported := true } } ∨
      (s.deviation.toInt.natAbs ≤ s.setupN 21 ∨ s.tr.slipReported = true) ∧
        slipTest true s = { s with tr := { s.tr with
          slipReported := decide (s.setupN 21 < s.deviation.toInt.natAbs) } } := by
  rw [slipTest, if_pos rfl]
  split
  · next far =>
    split
    · next told =>
      refine .inr ⟨.inr told, ?_⟩
      rw [decide_eq_true far, ← told]
    · next new => exact .inl ⟨far, Bool.eq_false_iff.mpr new, rfl⟩
  · next near => exact .inr ⟨.inl (Nat.not_lt.mp near), by rw [decide_eq_false near]⟩

/-- R110: the pulse counted, before it is tested. -/
def State.pulsed (s : State) : State :=
  { s with tr := { s.tr with command := s.tr.command + 1, emitted := s.tr.emitted + 1, stepOut := true } }

theorem emitPulse_due {s : State} (more : s.tr.emitted < s.tr.due) (drive : s.tr.driveEnable = true) :
    emitPulse s = if atTarget (slipTest true s.pulsed) then targetMet (slipTest true s.pulsed)
      else slipTest true s.pulsed := by
  rw [emitPulse, if_pos ⟨more, drive⟩]
  rfl

theorem emitPulse_none {s : State} (h : ¬ (s.tr.emitted < s.tr.due ∧ s.tr.driveEnable = true)) :
    emitPulse s = { s with tr := { s.tr with stepOut := false } } := if_neg h

/-- After the slip test a pulse can only meet its target. -/
theorem emitPulse_nipped {s : State} (more : s.tr.emitted < s.tr.due) (drive : s.tr.driveEnable = true) :
    Nipped (slipTest true s.pulsed) (emitPulse s) := by
  rw [emitPulse_due more drive]
  split
  · exact targetMet_nipped _
  · exact .refl _

theorem slipTest_counts (s : State) : (slipTest true s).tr.command = s.tr.command ∧
    (slipTest true s).tr.stepOut = s.tr.stepOut := by
  obtain ⟨-, -, e⟩ | ⟨-, e⟩ := slipTest_cases s <;> rw [e]
  · exact ⟨takeFault_command _ _ _ _, takeFault_stepOut _ _ _ _⟩
  · exact ⟨rfl, rfl⟩

theorem Nipped.stepOut {s t : State} (h : Nipped s t) : t.tr.stepOut = s.tr.stepOut ∧
    t.tr.driveEnable = s.tr.driveEnable :=
  ⟨congrArg (fun o => o.tr.stepOut) h.rest, congrArg (fun o => o.tr.driveEnable) h.rest⟩

/-- A web at rest stays so. -/
theorem Nipped.still {s t : State} (h : Nipped s t) (still : s.tr.state = .still) : t.tr.state = .still := by
  obtain e | e := h.motion
  · exact (congrArg Prod.fst e :).trans still
  · exact congrArg Prod.fst e

/-- Settles O24: the slip by `slipTest_cases` and `takeFault_immediate`, what follows by `settleEnd_nipped`. -/
theorem stepPulseCountsCommand : Obligations.StepPulseCountsCommand := by
  unfold Obligations.StepPulseCountsCommand
  intro s
  have done : exec .stepPulse s = .next (settleEnd s (emitPulse s)) := rfl
  have outside : Outside s (settleEnd s (emitPulse s)) :=
    ((stepped_step s).trans (pulse_keeps s).step).toOffBus.outside
  have settled := settleEnd_nipped s (emitPulse s)
  refine ⟨_, done, ?_⟩
  by_cases pulses : s.tr.emitted < s.tr.due ∧ s.tr.driveEnable = true
  · obtain ⟨more, drive⟩ := pulses
    have nip := (emitPulse_nipped more drive).trans settled
    have frame := nip.frame
    obtain ⟨command, stepOut⟩ := slipTest_counts s.pulsed
    obtain ⟨enc, pins⟩ : (slipTest true s.pulsed).enc = s.enc ∧ (slipTest true s.pulsed).pins = s.pins := by
      obtain ⟨-, -, e⟩ | ⟨-, e⟩ := slipTest_cases s.pulsed <;> rw [e]
      · exact ⟨takeFault_enc _ _ _ _, takeFault_pins _ _ _ _⟩
      · exact ⟨rfl, rfl⟩
    refine ⟨fun _ _ => ⟨frame.command.trans command, nip.stepOut.1.trans stepOut, fun far new up => ?slip⟩,
      fun none => absurd ⟨more, drive⟩ none, frame.enc.trans enc, frame.pins.trans pins, outside⟩
    case slip =>
      obtain ⟨-, -, e⟩ | ⟨near | told, -⟩ := slipTest_cases s.pulsed
      · rw [e] at nip
        obtain ⟨line, -, still, low, first, added⟩ := takeFault_immediate .slip false s.pulsed.deviation
          (s := { s.pulsed with tr := { s.pulsed.tr with slipReported := true } }) rfl up
        rw [nip.seq (by rw [line]; nofun)]
        exact ⟨line, nip.still still, nip.stepOut.2.trans low, fun other => (first other).1, added⟩
      · exact absurd far (Nat.not_lt.mpr near)
      · exact absurd (new.symm.trans told) nofun
  · rw [emitPulse_none pulses] at settled outside ⊢
    have frame := settled.frame
    exact ⟨fun more drive => absurd ⟨more, drive⟩ pulses, fun _ => ⟨frame.command, settled.stepOut.1⟩, frame.enc, frame.pins,
      outside⟩

/-! ### The pulse that meets a target removed in the meantime -/

/-- A record of the counterexample: READ_OPEN or READ_DONE, at a position of a set or unassigned. -/
def strayRecord (anchor : Word) (st : Stage) (position : Option Nat) : Sheet :=
  { newSheet anchor .read with
    stage := st, assignment := position.map fun p => { owner := .purge, number := 1, position := p } }

/-- RUN with the gate open for the oldest record, two more records of one anchor, the older unassigned and the other
assigned and at its firing point, and a target that the planner has removed; the parked flag is set. -/
def twiceNamed : State :=
  { State.reset with
    seq := { Sequencer.reset with startupComplete := true, line := .run }
    enc := { Encoder.reset with web := 50000, highWater := 50000 }
    trk := { Tracking.reset with queue :=
      [strayRecord 1000 .readOpen (some 1), strayRecord 2000 .readOpen none, strayRecord 2000 .readDone (some 2)] }
    tr := { Transport.reset with
      state := .moving, speed := 1000, command := 49999, due := 1, driveEnable := true, beltRun := true
      targetW := some 0, targetC := some 50000 }
    pln := { Planner.reset with gateSheet := some 1000, gateOpen := true, parked := true } }

/-- Refutes O25: no hypothesis makes the anchors of the records distinct. In `twiceNamed` the front READ_DONE record
counts as assigned in the step, because its anchor is also that of an unassigned one (R50); it fires, the gate shuts
behind it (R96), and the gate target so set clears the parked flag (R98). -/
theorem not_stepPulseMeetsHaltTarget : ¬ Obligations.StepPulseMeetsHaltTarget := by
  unfold Obligations.StepPulseMeetsHaltTarget
  intro h
  obtain ⟨t, done, -, -, -, removed⟩ := h twiceNamed 50000 (by decide) rfl rfl (by decide) (by decide)
  have parked : (pulse twiceNamed).pln.parked = false := by decide
  have moved : t = pulse twiceNamed := (Host.Outcome.next.inj done).symm
  obtain ⟨-, kept, -⟩ := removed (by decide) (by decide)
  rw [moved, parked] at kept
  exact absurd kept (by decide)

/-! ### The belt sensor (R54 to R58) -/

/-- What an edge does against its candidate's window. -/
theorem attributeEdge_some (lead : Bool) (r : Sheet) (take : Sheet → State → State) (s : State) :
    (reached s.enc.belt (windowFrom lead r s) = false → attributeEdge lead (some r) take s = strayEdge lead s) ∧
      (reached s.enc.belt (windowFrom lead r s) = true → passed s.enc.belt (windowTo lead r s) = true →
        attributeEdge lead (some r) take s = missingEdge lead r s) ∧
      (reached s.enc.belt (windowFrom lead r s) = true → passed s.enc.belt (windowTo lead r s) = false →
        attributeEdge lead (some r) take s = take r s) := by
  simp only [attributeEdge]
  exact ⟨fun early => by rw [early]; rfl, fun opened late => by rw [opened, late]; rfl,
    fun opened inside => by rw [opened, inside]; rfl⟩

/-- R173: a first fault leaves the records as they are. -/
theorem takeFault_reports (f : LineFault) (flag : Bool) (detail : Word) {s : State} (up : s.seq.startupComplete = true)
    (run : s.seq.line.running = true) : (takeFault f flag detail s).seq.line = .fault ∧
      (takeFault f flag detail s).seq.firstFault = f ∧ (takeFault f flag detail s).trk.queue = s.trk.queue ∧
      (takeFault f flag detail s).acc.set = s.acc.set := by
  obtain ⟨r, e, -⟩ := takeFault_first f flag detail up (running_line run)
  rw [e]
  exact ⟨rfl, rfl, rfl, rfl⟩

theorem takeFault_col (f : LineFault) (flag : Bool) (detail : Word) (s : State) :
    (takeFault f flag detail s).col = s.col := by
  by_cases up : s.seq.startupComplete = true
  · by_cases line : s.seq.line = .fault
    · obtain ⟨r, e⟩ := takeFault_added f flag detail up line
      rw [e]
    · obtain ⟨r, e, -⟩ := takeFault_first f flag detail up line
      rw [e]
      rfl
  · rw [takeFault_early f flag detail (Bool.eq_false_iff.mpr up)]

/-- What an edge leaves when its record is taken without touching them. -/
theorem attributeEdge_frame (lead : Bool) (candidate : Option Sheet) {take : Sheet → State → State} (s : State)
    (taken : ∀ r, (take r s).pins = s.pins ∧ (take r s).enc = s.enc ∧ (take r s).tr.command = s.tr.command ∧
      (take r s).col = s.col) :
    (attributeEdge lead candidate take s).pins = s.pins ∧ (attributeEdge lead candidate take s).enc = s.enc ∧
      (attributeEdge lead candidate take s).tr.command = s.tr.command ∧
      (attributeEdge lead candidate take s).col = s.col := by
  have faulted (f : LineFault) (flag : Bool) (detail : Word) : (takeFault f flag detail s).pins = s.pins ∧
      (takeFault f flag detail s).enc = s.enc ∧ (takeFault f flag detail s).tr.command = s.tr.command ∧
      (takeFault f flag detail s).col = s.col :=
    ⟨takeFault_pins _ _ _ _, takeFault_enc _ _ _ _, takeFault_command _ _ _ _, takeFault_col _ _ _ _⟩
  rw [attributeEdge.eq_def]
  split
  · exact faulted _ _ _
  · split
    · exact faulted _ _ _
    · split
      · exact faulted _ _ _
      · exact taken _

theorem windowFrom_leading {r : Sheet} {p : Word} (sep : r.sepPos = some p) (s : State) :
    windowFrom true r s = p + s.setup 23 - s.setup 9 - s.setup 25 ∧
      windowTo true r s = p + s.setup 23 - s.setup 9 + s.setup 25 := by
  rw [windowFrom, windowTo, windowCentre, sep]
  exact ⟨rfl, rfl⟩

theorem windowFrom_trailing {r : Sheet} {p : Word} (sep : r.sepPos = some p) (s : State) :
    windowFrom false r s = p + s.setup 23 - s.setup 25 ∧ windowTo false r s = p + s.setup 23 + s.setup 25 := by
  rw [windowFrom, windowTo, windowCentre, sep]
  exact ⟨rfl, rfl⟩

/-- R57, R58: the fault of an edge that no record takes: the records stay. -/
structure EdgeFault (f : LineFault) (s t : State) : Prop where
  line : t.seq.line = .fault
  fault : t.seq.firstFault = f
  queue : t.trk.queue = s.trk.queue

theorem takeFault_edge (f : LineFault) (flag : Bool) (detail : Word) {s : State} (up : s.seq.startupComplete = true)
    (run : s.seq.line.running = true) : EdgeFault f s (takeFault f flag detail s) := by
  obtain ⟨line, fault, queue, -⟩ := takeFault_reports f flag detail up run
  exact ⟨line, fault, queue⟩

section
variable {lead : Bool} {candidate : Option Sheet} {take : Sheet → State → State} {s : State} {r : Sheet}

theorem attributeEdge_none (up : s.seq.startupComplete = true) (run : s.seq.line.running = true)
    (none : candidate = none) : EdgeFault .strayEdge s (attributeEdge lead candidate take s) := by
  rw [none]
  exact takeFault_edge _ _ _ up run

theorem attributeEdge_early (up : s.seq.startupComplete = true) (run : s.seq.line.running = true)
    (front : candidate = some r) (early : reached s.enc.belt (windowFrom lead r s) = false) :
    EdgeFault .strayEdge s (attributeEdge lead candidate take s) := by
  rw [front, (attributeEdge_some lead r take s).1 early]
  exact takeFault_edge _ _ _ up run

theorem attributeEdge_late (up : s.seq.startupComplete = true) (run : s.seq.line.running = true)
    (front : candidate = some r) (opened : reached s.enc.belt (windowFrom lead r s) = true)
    (late : passed s.enc.belt (windowTo lead r s) = true) :
    EdgeFault .missingSheet s (attributeEdge lead candidate take s) := by
  rw [front, (attributeEdge_some lead r take s).2.1 opened late]
  exact takeFault_edge _ _ _ up run

end

/-- Settles O20: the record by `attributeEdge_some`, the faults by `takeFault_edge`. -/
theorem leadingEdgeIsAttributed : Obligations.LeadingEdgeIsAttributed := by
  unfold Obligations.LeadingEdgeIsAttributed
  intro s
  have done : exec .leadingEdge s = .next (beltEdgeRises s) := rfl
  have outside : Outside s (beltEdgeRises s) := (LineStep.ofPins _ (beltEdgeRises_keeps s)).toOffBus.outside
  refine ⟨_, done, ?_⟩
  by_cases rises : ¬ s.pins.beltEdge ∧ s.seq.line.running = true
  · obtain ⟨u, e, hu⟩ : ∃ u, beltEdgeRises s = attributeEdge true (frontOf .separated s.trk.queue) takeLeading u ∧
        u = { s with pins := { s.pins with beltEdge := true } } := ⟨_, if_pos rises, rfl⟩
    obtain ⟨low, run⟩ := rises
    rw [e] at outside ⊢
    have urun : u.seq.line.running = true := by rw [hu]; exact run
    obtain ⟨pins, enc, command, col⟩ := attributeEdge_frame true (frontOf .separated s.trk.queue)
      (take := takeLeading) u fun r => ⟨rfl, rfl, rfl, rfl⟩
    have window {r : Sheet} {p : Word} (sep : r.sepPos = some p) : reached u.enc.belt (windowFrom true r u) =
        reached s.enc.belt (p + s.setup 23 - s.setup 9 - s.setup 25) ∧
        passed u.enc.belt (windowTo true r u) = passed s.enc.belt (p + s.setup 23 - s.setup 9 + s.setup 25) := by
      rw [(windowFrom_leading sep u).1, (windowFrom_leading sep u).2, hu]
      exact ⟨rfl, rfl⟩
    have faulted {f : LineFault} {t : State} (h : EdgeFault f u t) :
        t.seq.line = .fault ∧ t.seq.firstFault = f ∧ t.trk.queue = s.trk.queue :=
      ⟨h.line, h.fault, h.queue.trans (by rw [hu])⟩
    have up' (up : s.seq.startupComplete = true) : u.seq.startupComplete = true := by rw [hu]; exact up
    refine ⟨pins.trans (by rw [hu]), ?_, ?_, outside, col.trans (by rw [hu]), fun same => ?_, fun _ _ =>
      ⟨fun r p front sep opened inside => ?_,
        fun r p front sep early up => faulted (attributeEdge_early (up' up) urun front ((window sep).1.trans early)),
        fun r p front sep opened late up => faulted
          (attributeEdge_late (up' up) urun front ((window sep).1.trans opened) ((window sep).2.trans late)),
        fun none up => faulted (attributeEdge_none (up' up) urun none)⟩⟩
    · rw [sameCounters, enc, command, hu]
      exact ⟨rfl, rfl, rfl, rfl⟩
    · rw [sameClock, enc, hu]
      exact ⟨rfl, rfl, rfl⟩
    · rw [run] at same
      exact absurd same (by simp [low])
    · rw [front, (attributeEdge_some true r takeLeading u).2.2 ((window sep).1.trans opened) ((window sep).2.trans inside), hu]
      rfl
  · have e : beltEdgeRises s = { s with pins := { s.pins with beltEdge := true } } := if_neg rises
    rw [e] at outside ⊢
    have never {P : Prop} (low : s.pins.beltEdge = false) (run : s.seq.line.running = true) : P :=
      absurd ⟨by simp [low], run⟩ rises
    exact ⟨rfl, ⟨rfl, rfl, rfl, rfl⟩, ⟨rfl, rfl, rfl⟩, outside, rfl, fun _ => rfl, never⟩

/-- R56: the verdict of a measured length against the form length and its tolerance. -/
theorem lengthVerdict_eq {l : Word} {v : LengthVerdict} {s : State}
    (h : v = .ok ∧ (l.toInt - s.setupN 9).natAbs ≤ s.setupN 26 ∨ v = .short ∧ l.toInt + s.setupN 26 < s.setupN 9 ∨
      v = .long ∧ (s.setupN 9 : Int) + s.setupN 26 < l.toInt) : lengthVerdict l s = v := by
  rw [lengthVerdict]
  obtain ⟨rfl, near⟩ | ⟨rfl, short⟩ | ⟨rfl, long⟩ := h
  · rw [if_pos near]
  · rw [if_neg (by omega), if_pos (by omega)]
  · rw [if_neg (by omega), if_neg (by omega)]

/-- R56: a trailing edge that is taken changes the record and the reports alone. -/
theorem takeTrailing_only (r : Sheet) (s : State) : takeTrailing r s = { s with
    trk := { s.trk with queue := editSheet r.anchor (fun x => { x with
      stage := .clear, length := some (s.enc.belt - r.leadPos.getD 0)
      verdict := some (lengthVerdict (s.enc.belt - r.leadPos.getD 0) s) }) s.trk.queue }
    rep := (takeTrailing r s).rep } := by
  rw [takeTrailing]
  split
  · rfl
  · rw [offer_only]
    rfl

/-- Settles O21: the record by `takeTrailing_only` and `lengthVerdict_eq`, the faults by `takeFault_edge`. -/
theorem trailingEdgeMeasuresLength : Obligations.TrailingEdgeMeasuresLength := by
  unfold Obligations.TrailingEdgeMeasuresLength
  intro s
  have done : exec .trailingEdge s = .next (beltEdgeFalls s) := rfl
  have outside : Outside s (beltEdgeFalls s) := (LineStep.ofPins _ (beltEdgeFalls_keeps s)).toOffBus.outside
  refine ⟨_, done, ?_⟩
  by_cases falls : s.pins.beltEdge = true ∧ s.seq.line.running = true
  · obtain ⟨u, e, hu⟩ : ∃ u, beltEdgeFalls s = attributeEdge false (frontOf .leadSeen s.trk.queue) takeTrailing u ∧
        u = { s with pins := { s.pins with beltEdge := false } } := ⟨_, if_pos falls, rfl⟩
    obtain ⟨high, run⟩ := falls
    rw [e] at outside ⊢
    have urun : u.seq.line.running = true := by rw [hu]; exact run
    obtain ⟨pins, enc, command, col⟩ := attributeEdge_frame false (frontOf .leadSeen s.trk.queue)
      (take := takeTrailing) u fun r => by rw [takeTrailing_only]; exact ⟨rfl, rfl, rfl, rfl⟩
    have window {r : Sheet} {p : Word} (sep : r.sepPos = some p) : reached u.enc.belt (windowFrom false r u) =
        reached s.enc.belt (p + s.setup 23 - s.setup 25) ∧
        passed u.enc.belt (windowTo false r u) = passed s.enc.belt (p + s.setup 23 + s.setup 25) := by
      rw [(windowFrom_trailing sep u).1, (windowFrom_trailing sep u).2, hu]
      exact ⟨rfl, rfl⟩
    have faulted {f : LineFault} {t : State} (h : EdgeFault f u t) :
        t.seq.line = .fault ∧ t.seq.firstFault = f ∧ t.trk.queue = s.trk.queue :=
      ⟨h.line, h.fault, h.queue.trans (by rw [hu])⟩
    have up' (up : s.seq.startupComplete = true) : u.seq.startupComplete = true := by rw [hu]; exact up
    refine ⟨pins.trans (by rw [hu]), ?_, ?_, outside, col.trans (by rw [hu]), fun same => ?_, fun _ _ =>
      ⟨fun r p q v front sep lead opened inside verdict => ?_,
        fun r p front sep early up => faulted (attributeEdge_early (up' up) urun front ((window sep).1.trans early)),
        fun r p front sep opened late up => faulted
          (attributeEdge_late (up' up) urun front ((window sep).1.trans opened) ((window sep).2.trans late)),
        fun none up => faulted (attributeEdge_none (up' up) urun none)⟩⟩
    · rw [sameCounters, enc, command, hu]
      exact ⟨rfl, rfl, rfl, rfl⟩
    · rw [sameClock, enc, hu]
      exact ⟨rfl, rfl, rfl⟩
    · rw [high, run] at same
      simp at same
    · rw [front, (attributeEdge_some false r takeTrailing u).2.2 ((window sep).1.trans opened)
        ((window sep).2.trans inside), takeTrailing_only, hu]
      have judged : lengthVerdict (s.enc.belt - r.leadPos.getD 0) { s with pins := { s.pins with beltEdge := false } } = v := by
        rw [lead]
        exact lengthVerdict_eq verdict
      dsimp only
      rw [judged, lead]
      exact ⟨rfl, rfl, rfl, rfl, rfl, rfl⟩
  · have e : beltEdgeFalls s = { s with pins := { s.pins with beltEdge := false } } := if_neg falls
    rw [e] at outside ⊢
    have never {P : Prop} (high : s.pins.beltEdge = true) (run : s.seq.line.running = true) : P :=
      absurd ⟨high, run⟩ falls
    exact ⟨rfl, ⟨rfl, rfl, rfl, rfl⟩, ⟨rfl, rfl, rfl⟩, outside, rfl, fun _ => rfl, never⟩

/-! ### The steps of an encoder (R1, R2) -/

/-- The step that a pair of levels makes, as the four kinds of pairs name it. -/
theorem quadStep_iff (a b a' b' : Bool) :
    (quadStep a b a' b' = .forward ↔ forwardPair a b a' b' = true) ∧
      (quadStep a b a' b' = .reverse ↔ reversePair a b a' b' = true) ∧
      (quadStep a b a' b' = .illegal ↔ illegalPair a b a' b' = true) ∧
      (quadStep a b a' b' = .same ↔ a' = a ∧ b' = b) := by
  revert a b a' b'
  decide

/-! ### What an illegal pair leaves -/

theorem takeFault_rd (f : LineFault) (flag : Bool) (detail : Word) (s : State) :
    (takeFault f flag detail s).rd = s.rd ∨ (takeFault f flag detail s).seq.line = .fault := by
  by_cases up : s.seq.startupComplete = true
  · exact .inr (takeFault_line f flag detail up)
  · exact .inl (by rw [takeFault_early f flag detail (Bool.eq_false_iff.mpr up)])

/-- R2: ENCODER, outside FAULT. -/
theorem takeFault_encoder (flag : Bool) {s : State} (up : s.seq.startupComplete = true) (other : s.seq.line ≠ .fault) :
    (endStep (takeFault .encoder flag 0 s)).seq.line = .fault ∧
      (endStep (takeFault .encoder flag 0 s)).seq.firstFault = .encoder ∧
      (endStep (takeFault .encoder flag 0 s)).tr.state = .still := by
  obtain ⟨line, -, still, -, first, -⟩ := takeFault_immediate .encoder flag 0 rfl up
  rw [endStep_seq, endStep_tr]
  exact ⟨line, (first other).1, still⟩

/-! ### What a step of the belt leaves (R58, R59) -/

/-- What tracking keeps on a step of the belt. -/
structure BeltKept (s t : State) : Prop where
  pins : t.pins = s.pins
  enc : t.enc = s.enc
  command : t.tr.command = s.tr.command
  fault : s.seq.line = .fault → t.seq.line = .fault
  rd : t.rd = s.rd ∨ t.seq.line = .fault

theorem BeltKept.refl (s : State) : BeltKept s s := ⟨rfl, rfl, rfl, id, .inl rfl⟩

theorem BeltKept.trans {s t u : State} (h : BeltKept s t) (k : BeltKept t u) : BeltKept s u := by
  refine ⟨k.pins.trans h.pins, k.enc.trans h.enc, k.command.trans h.command, k.fault ∘ h.fault, ?_⟩
  obtain e | e := k.rd
  · exact h.rd.imp e.trans k.fault
  · exact .inr e

theorem BeltKept.takeFault (f : LineFault) (flag : Bool) (detail : Word) (s : State) :
    BeltKept s (takeFault f flag detail s) := by
  refine ⟨takeFault_pins _ _ _ _, takeFault_enc _ _ _ _, takeFault_command _ _ _ _, fun line => ?_, takeFault_rd _ _ _ _⟩
  by_cases up : s.seq.startupComplete = true
  · exact takeFault_line f flag detail up
  · rwa [takeFault_early f flag detail (Bool.eq_false_iff.mpr up)]

theorem BeltKept.nipped {s t : State} (h : Nipped s t) : BeltKept s t :=
  ⟨h.frame.pins, h.frame.enc, h.frame.command, fun line => by rw [h.seq (by rw [line]; nofun), line], .inl h.frame.rd⟩

theorem BeltKept.offPockets {s t : State} (h : t.offPockets = s.offPockets) : BeltKept s t :=
  ⟨congrArg OffPockets.pins h, congrArg OffPockets.enc h, congrArg (fun o => o.tr.command) h,
    fun line => (congrArg (fun o => o.seq.line) h :).trans line, .inl (congrArg OffPockets.rd h)⟩

theorem windowEndTest_kept (lead : Bool) (st : Stage) (s : State) : BeltKept s (windowEndTest lead st s) := by
  rw [windowEndTest]
  split
  · split
    · split
      · exact .takeFault _ _ _ _
      · exact .refl s
    · exact .refl s
  · exact .refl s

@[simp] theorem landSheet_offPockets (r : Sheet) (s : State) : (landSheet r s).offPockets = s.offPockets := by
  rw [landSheet]
  split
  · rfl
  · split
    · dsimp only
      split
      · exact closeSet_offPockets _
      · rfl
    · dsimp only
      split
      · exact closeSet_offPockets _
      · rfl

theorem landFor_kept (n : Nat) (s : State) : BeltKept s (landFor n s) := by
  induction n generalizing s with
  | zero => exact .refl s
  | succ n ih =>
    rw [landFor]
    split
    · exact .refl s
    · next r _ =>
      split
      · have dropped : BeltKept s (dropSheet r.anchor s) := ⟨rfl, rfl, rfl, id, .inl rfl⟩
        have landed : BeltKept s (landSheet r (dropSheet r.anchor s)) :=
          dropped.trans (.offPockets (landSheet_offPockets r (dropSheet r.anchor s)))
        exact landed.trans (ih _)
      · exact .refl s

theorem landings_kept (s : State) : BeltKept s (landings s) := by
  rw [landings]
  split
  · exact landFor_kept _ _
  · exact .refl s

theorem trackBelt_kept (s : State) : BeltKept s (trackBelt s) :=
  ((windowEndTest_kept true .separated s).trans (windowEndTest_kept false .leadSeen _)).trans (landings_kept _)

/-! ### The ends of the belt windows -/

theorem windowEndTest_none {lead : Bool} {st : Stage} {s : State} (none : frontOf st s.trk.queue = none) :
    windowEndTest lead st s = s := by
  rw [windowEndTest, none]
  split <;> rfl

theorem windowEndTest_passed {lead : Bool} {st : Stage} {s : State} {r : Sheet} (run : s.seq.line.running = true)
    (front : frontOf st s.trk.queue = some r) (late : passed s.enc.belt (windowTo lead r s) = true) :
    windowEndTest lead st s = missingEdge lead r s := by
  rw [windowEndTest, if_pos run, front]
  exact if_pos late

theorem windowEndTest_rest {lead : Bool} {st : Stage} {s : State} (rest : s.seq.line.running = false) :
    windowEndTest lead st s = s := by
  rw [windowEndTest, rest]
  rfl

theorem landings_rest {s : State} (rest : s.seq.line.running = false) : landings s = s := by
  rw [landings, rest]
  rfl

/-- R58: a belt that has passed a window's end, the leading one's first. -/
theorem trackBelt_missing {s : State} {r : Sheet} {q : Word} (run : s.seq.line.running = true)
    (up : s.seq.startupComplete = true) (sep : r.sepPos = some q)
    (late : frontOf .separated s.trk.queue = some r ∧
        passed s.enc.belt (q + s.setup 23 - s.setup 9 + s.setup 25) = true ∨
      frontOf .separated s.trk.queue = none ∧ frontOf .leadSeen s.trk.queue = some r ∧
        passed s.enc.belt (q + s.setup 23 + s.setup 25) = true) :
    (trackBelt s).seq.line = .fault ∧ (trackBelt s).seq.firstFault = .missingSheet ∧
      (trackBelt s).trk.queue = s.trk.queue ∧ (trackBelt s).acc.set = s.acc.set := by
  have faulted (lead : Bool) : (missingEdge lead r s).seq.line.running = false := by
    rw [missingEdge, (takeFault_reports .missingSheet _ _ up run).1]
    rfl
  have missing : ∃ lead, trackBelt s = missingEdge lead r s := by
    obtain ⟨front, late⟩ | ⟨none, front, late⟩ := late
    · rw [← (windowFrom_leading sep s).2] at late
      refine ⟨true, ?_⟩
      rw [trackBelt, windowEndTest_passed run front late, windowEndTest_rest (faulted true), landings_rest (faulted true)]
    · rw [← (windowFrom_trailing sep s).2] at late
      refine ⟨false, ?_⟩
      rw [trackBelt, windowEndTest_none none, windowEndTest_passed run front late, landings_rest (faulted false)]
  obtain ⟨lead, e⟩ := missing
  rw [e, missingEdge]
  exact takeFault_reports _ _ _ up run

/-! ### The landing (R59, R123 to R129) -/

/-- R125: the reasons a landed sheet folds in. -/
theorem landedReasons_eq {r : Sheet} {k : Assignment} (s : State) (assigned : r.assignment = some k) :
    landedReasons r s = (if r.result = .noFrame ∨ r.result = .badCheck ∨ r.result = .smudge ∨ r.result = .format ∨
        r.result = .conflict then Reason.unread.bit else 0) |||
      (if k.owner = .purge ∧ r.result ≠ .leadIn ∧ ¬ (r.result = .ok ∧ r.frame.map Frame.tag = some 0) then
        Reason.orphan.bit else 0) |||
      (if (r.verdict = some .short ∨ r.verdict = some .long) ∧ (s.setup 39).getLsbD 2 = true then
        Reason.length.bit else 0) := by
  have unread : (r.result.unread = true) = (r.result = .noFrame ∨ r.result = .badCheck ∨ r.result = .smudge ∨
      r.result = .format ∨ r.result = .conflict) := by
    cases r.result <;> simp [ReadResult.unread]
  have separator : (r.separator = true) = (r.result = .ok ∧ r.frame.map Frame.tag = some 0) := by
    rw [Sheet.separator]
    cases r.frame <;> simp
  have orphan : (r.orphan = true) = (k.owner = .purge ∧ r.result ≠ .leadIn ∧
      ¬ (r.result = .ok ∧ r.frame.map Frame.tag = some 0)) := by
    rw [Sheet.orphan, assigned, ← separator]
    cases r.separator <;> simp
  have length : ((r.badLength && (s.setup 39).getLsbD 2) = true) =
      ((r.verdict = some .short ∨ r.verdict = some .long) ∧ (s.setup 39).getLsbD 2 = true) := by
    rw [Sheet.badLength, Bool.and_eq_true, Bool.or_eq_true, decide_eq_true_eq, decide_eq_true_eq]
  rw [landedReasons]
  simp only [unread, orphan, length]

/-- R123: the set record that a landing begins, or meets. -/
def State.beginsOrMeets (s : State) (k : Assignment) (u : SetRecord) : Prop :=
  s.acc.set = none ∧
      (k.owner = .purge ∧ u = { number := k.number, owner := .purge, sheets := [], reasons := 0, style := .flat } ∨
        ∃ ring x, k.owner = .ticket ring ∧ findTicket ring s.tix.table = some x ∧
          u = { number := k.number, owner := k.owner, sheets := [], reasons := x.reasons, style := x.style }) ∨
    s.acc.set = some u ∧ s.acc.state = .collecting

theorem newRecord_of_begins {s : State} {k : Assignment} {u : SetRecord}
    (h : k.owner = .purge ∧ u = { number := k.number, owner := .purge, sheets := [], reasons := 0, style := .flat } ∨
      ∃ ring x, k.owner = .ticket ring ∧ findTicket ring s.tix.table = some x ∧
        u = { number := k.number, owner := k.owner, sheets := [], reasons := x.reasons, style := x.style }) :
    newRecord k s = u := by
  obtain ⟨owner, rfl⟩ | ⟨ring, x, owner, found, rfl⟩ := h
  · rw [newRecord, owner]
  · rw [newRecord, owner]
    simp only [found]

/-- R129: a set whose jog time is not 0 is jogged at its close. -/
theorem closeSet_acc {s : State} {x : SetRecord} {t : Nat} (set : s.acc.set = some x)
    (time : t = s.setupN 27 + x.sheets.length * s.setupN 28) (more : 0 < t) : (closeSet s).acc = { s.acc with
      state := .jogging, jog := true, jogTimer := { running := true, left := t } } := by
  have jogs : jogTime ((s.acc.set.map fun r => r.sheets.length).getD 0) s = t := by rw [set, time]; rfl
  rw [closeSet]
  simp only [jogs, if_neg (Nat.pos_iff_ne_zero.mp more)]
  rfl

/-- R123, R124, R127: the set after a landing, and its close. -/
theorem landSheet_acc {s : State} {r : Sheet} {k : Assignment} {u : SetRecord} (assigned : r.assignment = some k)
    (set : s.beginsOrMeets k u) :
    (r.setEnd = false → (landSheet r s).acc = { s.acc with state := .collecting, set := some (u.land r s) }) ∧
      (∀ t, r.setEnd = true → t = s.setupN 27 + (u.sheets.length + 1) * s.setupN 28 → 0 < t →
        (landSheet r s).acc = { s.acc with
          state := .jogging, jog := true, jogTimer := { running := true, left := t }, set := some (u.land r s) }) := by
  have sheets : (u.land r s).sheets.length = u.sheets.length + 1 := List.length_append
  obtain ⟨v, landed, acc, path⟩ : ∃ v : State, landSheet r s = (if r.setEnd then closeSet v else v) ∧
      v.acc = { s.acc with state := .collecting, set := some (u.land r s) } ∧ v.path = s.path := by
    obtain ⟨empty, record⟩ | ⟨met, collecting⟩ := set
    · refine ⟨hand [6] s { s with acc := { s.acc with state := .collecting, set := some (u.land r s) } }, ?_, rfl, rfl⟩
      rw [landSheet, assigned, empty, ← newRecord_of_begins record]
    · refine ⟨{ s with acc := { s.acc with set := some (u.land r s) } }, ?_, by rw [← collecting], rfl⟩
      simp only [landSheet, assigned, met, collecting, and_true]
  rw [landed]
  refine ⟨fun more => by rw [more]; exact acc, fun t ends time pos => ?_⟩
  have setup (n : Nat) : v.setupN n = s.setupN n := setupN_congr (congrArg MemoryPath.shadow path) n
  rw [if_pos ends, closeSet_acc (x := u.land r s) (by rw [acc]) (by rw [setup, setup, sheets, time]) pos, acc]

/-! ### BELT_STEP -/

/-- R1, R3: the belt counter after a step of either direction. -/
def State.beltStepTo (s : State) (a b : Bool) (p : Word) : Prop :=
  forwardPair s.pins.beltA s.pins.beltB a b = true ∧ p = s.enc.belt + 1 ∨
    reversePair s.pins.beltA s.pins.beltB a b = true ∧ p = s.enc.belt - 1

/-- The levels and the belt counter taken, before tracking acts. -/
def State.atBelt (s : State) (a b : Bool) (g : Gauge) (p : Word) : State :=
  { s with pins := { s.pins with beltA := a, beltB := b, gauge := g }, enc := { s.enc with belt := p } }

theorem exec_beltStep {s : State} {a b : Bool} {p : Word} (h : s.beltStepTo a b p) (g : Gauge) :
    exec (.beltStep a b g) s = .next (settleEnd (setGauge g s) (trackBelt (s.atBelt a b g p))) := by
  change Host.Outcome.next (beltChannels a b (setGauge g s)) = _
  obtain ⟨forward, reverse, -, -⟩ := quadStep_iff s.pins.beltA s.pins.beltB a b
  obtain ⟨pair, rfl⟩ | ⟨pair, rfl⟩ := h
  · rw [beltChannels, show quadStep (setGauge g s).pins.beltA (setGauge g s).pins.beltB a b = .forward from forward.mpr pair]
    rfl
  · rw [beltChannels, show quadStep (setGauge g s).pins.beltA (setGauge g s).pins.beltB a b = .reverse from reverse.mpr pair,
      BitVec.sub_eq_add_neg]
    rfl

/-- What every BELT_STEP leaves. -/
theorem beltStep_counts (s : State) (a b : Bool) (g : Gauge) : ∃ t, exec (.beltStep a b g) s = .next t ∧
    t.pins = { s.pins with beltA := a, beltB := b, gauge := g } ∧
    (forwardPair s.pins.beltA s.pins.beltB a b = true → t.enc = { s.enc with belt := s.enc.belt + 1 }) ∧
    (reversePair s.pins.beltA s.pins.beltB a b = true → t.enc = { s.enc with belt := s.enc.belt - 1 }) ∧
    (illegalPair s.pins.beltA s.pins.beltB a b = true →
      t.enc = s.enc ∧ (s.seq.startupComplete = true → s.seq.line ≠ .fault →
        t.seq.line = .fault ∧ t.seq.firstFault = .encoder ∧ t.tr.state = .still)) ∧
    (a = s.pins.beltA → b = s.pins.beltB → t = { s with pins := { s.pins with gauge := g } }) ∧
    t.tr.command = s.tr.command ∧ (t.rd = s.rd ∨ t.seq.line = .fault) ∧ Outside s t := by
  have outside : Outside s (beltChannels a b (setGauge g s)) :=
    ((setGauge_step g s).trans (beltChannels_step a b _)).toOffBus.outside
  obtain ⟨forward, reverse, illegal, same⟩ := quadStep_iff s.pins.beltA s.pins.beltB a b
  cases kind : quadStep s.pins.beltA s.pins.beltB a b with
  | same =>
    rw [kind] at forward reverse illegal
    obtain ⟨rfl, rfl⟩ := same.mp kind
    have e : beltChannels s.pins.beltA s.pins.beltB (setGauge g s) = setGauge g s := by
      rw [beltChannels, show quadStep (setGauge g s).pins.beltA (setGauge g s).pins.beltB _ _ = .same from kind]
      rfl
    rw [e] at outside
    refine ⟨setGauge g s, congrArg Host.Outcome.next e, rfl, fun h => ?_, fun h => ?_, fun h => ?_, fun _ _ => rfl, rfl,
      Or.inl rfl, outside⟩
    · exact nomatch forward.mpr h
    · exact nomatch reverse.mpr h
    · exact nomatch illegal.mpr h
  | illegal =>
    rw [kind] at forward reverse same
    have e : beltChannels a b (setGauge g s) = endStep (takeFault .encoder true 0
        { s with pins := { s.pins with beltA := a, beltB := b, gauge := g } }) := by
      rw [beltChannels, show quadStep (setGauge g s).pins.beltA (setGauge g s).pins.beltB a b = .illegal from kind]
      rfl
    rw [e] at outside
    have kept := (BeltKept.takeFault .encoder true 0 { s with pins := { s.pins with beltA := a, beltB := b, gauge := g } }).trans
      (.nipped (endStep_nipped _))
    refine ⟨_, congrArg Host.Outcome.next e, kept.pins, fun h => ?_, fun h => ?_,
      fun _ => ⟨kept.enc, fun up other => takeFault_encoder true (by exact up) other⟩, fun ha hb => ?_, kept.command, kept.rd,
      outside⟩
    · exact nomatch forward.mpr h
    · exact nomatch reverse.mpr h
    · exact nomatch same.mpr ⟨ha, hb⟩
  | forward =>
    rw [kind] at reverse illegal same
    have e := exec_beltStep (s := s) (.inl ⟨forward.mp kind, rfl⟩) g
    rw [show beltChannels a b (setGauge g s) = _ from Host.Outcome.next.inj e] at outside
    have kept := (trackBelt_kept (s.atBelt a b g (s.enc.belt + 1))).trans (.nipped (settleEnd_nipped (setGauge g s) _))
    refine ⟨_, e, kept.pins, fun _ => kept.enc, fun h => ?_, fun h => ?_, fun ha hb => ?_, kept.command, kept.rd, outside⟩
    · exact nomatch reverse.mpr h
    · exact nomatch illegal.mpr h
    · exact nomatch same.mpr ⟨ha, hb⟩
  | reverse =>
    rw [kind] at forward illegal same
    have e := exec_beltStep (s := s) (.inr ⟨reverse.mp kind, rfl⟩) g
    rw [show beltChannels a b (setGauge g s) = _ from Host.Outcome.next.inj e] at outside
    have kept := (trackBelt_kept (s.atBelt a b g (s.enc.belt - 1))).trans (.nipped (settleEnd_nipped (setGauge g s) _))
    refine ⟨_, e, kept.pins, fun h => ?_, fun _ => kept.enc, fun h => ?_, fun ha hb => ?_, kept.command, kept.rd, outside⟩
    · exact nomatch forward.mpr h
    · exact nomatch illegal.mpr h
    · exact nomatch same.mpr ⟨ha, hb⟩

/-! ### The nip with the line at rest -/

theorem fireTest_rest {s : State} (rest : s.seq.line.running = false) : fireTest s = s := by
  have none (n : Nat) : fireFor n s = s := by
    cases n with
    | zero => rfl
    | succ n =>
      rw [fireFor, rest]
      split <;> rfl
  exact none _

theorem settle_rest {s : State} (rest : s.seq.line.running = false) : settle s = s := by
  rw [settle, refresh_of_not_running rest, fireTest_rest rest]

theorem settleSince_rest (old : State) {s : State} (rest : s.seq.line.running = false) : settleSince old s = s := by
  obtain ⟨e, -⟩ | ⟨e, -⟩ := settleSince_cases old s <;> rw [e, refresh_of_not_running rest]
  exact fireTest_rest rest

/-! ### The landing on a step of the belt -/

theorem frontOf_none {st : Stage} {q : List Sheet} (h : ∀ x ∈ q, x.stage ≠ st) : frontOf st q = none := by
  rw [frontOf, List.find?_eq_none]
  exact fun x hx same => h x hx (of_decide_eq_true same)

/-- The windows end nothing where no record is on its way to the sensor. -/
theorem trackBelt_landings {s : State} (none : ∀ x ∈ s.trk.queue, x.stage ≠ .separated ∧ x.stage ≠ .leadSeen)
    (run : s.seq.line.running = true) : trackBelt s = landFor s.trk.queue.length s := by
  have leading := windowEndTest_none (lead := true) (frontOf_none fun x hx => (none x hx).1)
  have trailing := windowEndTest_none (lead := false) (frontOf_none fun x hx => (none x hx).2)
  rw [trackBelt, leading, trailing, landings, if_pos run]

/-- R59: the one CLEAR record, short of its landing or landed. -/
theorem landFor_one {s : State} {r : Sheet} (front : frontOf .clear s.trk.queue = some r)
    (one : ∀ x ∈ s.trk.queue, x.stage = .clear → x = r) :
    (reached s.enc.belt (landingPoint r s) = false → landFor s.trk.queue.length s = s) ∧
      (reached s.enc.belt (landingPoint r s) = true →
        landFor s.trk.queue.length s = landSheet r (dropSheet r.anchor s)) := by
  obtain ⟨n, len⟩ : ∃ n, s.trk.queue.length = n + 1 :=
    Nat.exists_eq_succ_of_ne_zero (List.length_pos_of_mem (frontOf_some front).1).ne'
  rw [len, landFor, front]
  dsimp only
  refine ⟨fun short => by rw [short]; rfl, fun there => ?_⟩
  rw [if_pos there]
  have queue : (landSheet r (dropSheet r.anchor s)).trk = (dropSheet r.anchor s).trk :=
    congrArg OffPockets.trk (landSheet_offPockets _ _)
  have gone : frontOf .clear (landSheet r (dropSheet r.anchor s)).trk.queue = none := by
    rw [queue]
    refine frontOf_none fun x hx clear => ?_
    obtain ⟨hx, other⟩ := List.mem_filter.mp hx
    exact (of_decide_eq_true other) (one x hx clear ▸ rfl)
  cases n with
  | zero => rfl
  | succ n => rw [landFor, gone]

theorem dropSheet_anchors (a : Word) (s : State) :
    (dropSheet a s).trk.queue.map Sheet.anchor = (s.trk.queue.map Sheet.anchor).filter fun x => x ≠ a := by
  rw [List.filter_map]
  rfl

/-- Settles O18: the counts by `beltStep_counts`, the windows by `trackBelt_missing`, the landing by `landFor_one` and
`landSheet_acc`. -/
theorem beltStepCountsTravel : Obligations.BeltStepCountsTravel := by
  unfold Obligations.BeltStepCountsTravel
  refine ⟨beltStep_counts, fun s a b g p q r moved run up sep late => ?missing,
    fun s a b g p q l r k u why jog moved run front _ none lead length assigned set reasons time => ?lands⟩
  case missing =>
    obtain ⟨line, fault, queue, acc⟩ := trackBelt_missing (s := s.atBelt a b g p) run up sep late
    have nip := settleEnd_nipped (setGauge g s) (trackBelt (s.atBelt a b g p))
    have rest := settleSince_rest (setGauge g s) (s := trackBelt (s.atBelt a b g p)) (by rw [line]; rfl)
    refine ⟨_, exec_beltStep moved g, ?_⟩
    rw [nip.seq (by rw [line]; nofun), nip.frame.acc, settleEnd, rest]
    exact ⟨line, fault, (congrArg Tracking.queue (endStep_trk _)).trans queue, acc⟩
  case lands =>
    have nip := settleEnd_nipped (setGauge g s) (trackBelt (s.atBelt a b g p))
    have point : landingPoint r (s.atBelt a b g p) = q + l + s.setup 24 := by
      rw [landingPoint, lead, length]
      rfl
    obtain ⟨short, there⟩ := landFor_one (s := s.atBelt a b g p) front fun x hx => (none x hx).2.2
    have lands := trackBelt_landings (s := s.atBelt a b g p) (fun x hx => ⟨(none x hx).1, (none x hx).2.1⟩) run
    rw [point] at short there
    refine ⟨_, exec_beltStep moved g, fun early => ?_, fun on => ?_⟩
    · rw [nip.anchors, nip.frame.acc, lands, short early]
      exact ⟨rfl, rfl⟩
    · have trk : (landSheet r (dropSheet r.anchor (s.atBelt a b g p))).trk = (dropSheet r.anchor (s.atBelt a b g p)).trk :=
        congrArg OffPockets.trk (landSheet_offPockets _ _)
      have folded : u.land r (dropSheet r.anchor (s.atBelt a b g p)) =
          { u with sheets := u.sheets ++ [r.anchor], reasons := u.reasons ||| why } := by
        rw [SetRecord.land, landedReasons_eq _ assigned, reasons]
        rfl
      obtain ⟨more, ends⟩ := landSheet_acc (s := dropSheet r.anchor (s.atBelt a b g p)) assigned set
      rw [folded] at more ends
      rw [nip.anchors, nip.frame.acc, lands, there on, trk]
      exact ⟨dropSheet_anchors _ _, more, fun last pos => ends jog last time pos⟩

/-! ### What the grants of an access can latch -/

/-- The grants leave the latched set and the fetch, or they make the one fetch read that is due, which may latch
RANGE. -/
def fetchesAtMost (s t : State) : Prop :=
  t.rep.latched = s.rep.latched ∧ t.tix.fetch = s.tix.fetch ∨
    fetchDue s = true ∧ fetchDue t = false ∧ t.tix.fetch ≠ .idle ∧
      (t.rep.latched = s.rep.latched ∨ t.rep.latched = s.rep.latched ||| Cause.range.bit)

theorem fetchesAtMost.trans {s t u : State} (h : fetchesAtMost s t) (k : fetchesAtMost t u) : fetchesAtMost s u := by
  obtain ⟨hl, hf⟩ | ⟨due, idle, busy, hl⟩ := h
  · obtain ⟨kl, kf⟩ | ⟨kdue, kidle, busy, kl⟩ := k
    · exact .inl ⟨kl.trans hl, kf.trans hf⟩
    · rw [hl] at kl
      exact .inr ⟨by rwa [fetchDue, ← hf], kidle, busy, kl⟩
  · obtain ⟨kl, kf⟩ | ⟨kdue, -⟩ := k
    · rw [← kl] at hl
      exact .inr ⟨due, by rwa [fetchDue, kf], kf ▸ busy, hl⟩
    · rw [idle] at kdue
      cases kdue

/-- A fetch read that was made is no longer due. -/
theorem fetchesAtMost.fetch_ne {s t : State} (due : fetchDue s = true) (idle : fetchDue t = false) :
    s.tix.fetch ≠ t.tix.fetch := by
  intro same
  rw [fetchDue, same] at due
  exact absurd (due.symm.trans idle) nofun

theorem drainQueue_fetches (b : Bool) (s : State) : fetchesAtMost s (drainQueue b s) := by
  rw [drainQueue]
  split <;> exact .inl ⟨rfl, rfl⟩

theorem ownRange_latched (a : Word) (s : State) :
    (ownRange a s).rep.latched = s.rep.latched ∨ (ownRange a s).rep.latched = s.rep.latched ||| Cause.range.bit := by
  obtain e | e := ownRange_cases a s <;> rw [e]
  · exact .inl rfl
  · exact .inr rfl

theorem grantFetchRead_fetches (s : State) : fetchesAtMost s (grantFetchRead s) := by
  rw [grantFetchRead.eq_def]
  cases fetch : s.tix.fetch with
  | due0 =>
    exact .inr ⟨by rw [fetchDue, fetch], rfl, nofun, ownRange_latched _ (setArbiter s.path.arbiter.grantFetch s)⟩
  | due1 w0 =>
    exact .inr ⟨by rw [fetchDue, fetch], rfl, nofun, ownRange_latched _ (setArbiter s.path.arbiter.grantFetch s)⟩
  | _ => exact .inl ⟨rfl, rfl⟩

theorem makeGrant_fetches (g : Grant) (s : State) : fetchesAtMost s (makeGrant g s) := by
  cases g with
  | burst => exact drainQueue_fetches true s
  | queue => exact drainQueue_fetches false s
  | fetch => exact grantFetchRead_fetches s
  | controller => exact .inl ⟨rfl, rfl⟩

theorem granted_fetches (want : Party) (s : State) : fetchesAtMost s (granted want s) := by
  have grants (n : Nat) (u : State) : fetchesAtMost u (grantUntil want n u) := by
    induction n generalizing u with
    | zero => exact .inl ⟨rfl, rfl⟩
    | succ n ih =>
      rw [grantUntil]
      split
      · exact .inl ⟨rfl, rfl⟩
      · split
        · exact makeGrant_fetches _ u
        · exact (makeGrant_fetches _ u).trans (ih _)
  exact grants _ s

theorem granted_idle (want : Party) (s : State) : (granted want s).tix.fetch = .idle ↔ s.tix.fetch = .idle := by
  obtain ⟨-, e⟩ | ⟨due, -, busy, -⟩ := granted_fetches want s
  · rw [e]
  · refine ⟨fun idle => absurd idle busy, fun idle => ?_⟩
    rw [fetchDue, idle] at due
    cases due

/-! ### A setup write at the port -/

/-- The grants before a write change nothing that judges it. -/
theorem granted_judgeSetup (n : Nat) (m : Word) (s : State) :
    judgeSetup n m (granted .controller s) = judgeSetup n m s := by
  have g := granted_granted .controller s
  have locked : setupLocked n (granted .controller s) = setupLocked n s := by
    have publish : (granted .controller s).publish = s.publish := congrArg (BitVec.setWidth 16) (g.setup 3)
    have idle := granted_idle .controller s
    rw [setupLocked, setupLocked, publish, g.retireIndex, g.line.2.2.2.2.2]
    simp only [ne_eq, idle]
  rw [judgeSetup, judgeSetup, locked, g.indexRefused_eq, g.top, g.setupN]

/-- R180, R181: what a setup write comes to, with the judgment made on the state as it was presented to. -/
theorem setupWrites_judged {n : Nat} (hn : n < 40) (lanes : Lanes) (data : Word) (s : State) :
    (∀ r, judgeSetup n (mergedSetup n lanes data s) s = .error r →
      setupWrites n lanes data s = refuseSetup n (mergedSetup n lanes data s) r (granted .controller s)) ∧
    (∀ v, judgeSetup n (mergedSetup n lanes data s) s = .ok v →
      setupWrites n lanes data s = handSetup n v (storeSetup n v (granted .controller s))) := by
  rw [setupWrites_eq hn, setupWriteAt, (granted_granted .controller s).mergedSetup_eq]
  rw [granted_judgeSetup]
  exact ⟨fun r judged => by rw [judged], fun v judged => by rw [judged]; rfl⟩

/-- R180: an accepted value is the word's, and no other word's changes. -/
theorem storeSetup_granted {n : Nat} (hn : n < 40) (v : Word) {s : State} (h : ShadowOk s) :
    (storeSetup n v (granted .controller s)).setup n = v ∧
      IndexFrame n s (storeSetup n v (granted .controller s)) := by
  have g := granted_granted .controller s
  refine ⟨storeSetup_setup_same ?_ v, (g.indexFrame n).trans (storeSetup_indexFrame n v _)⟩
  rw [g.shadow, h.1]
  exact hn

/-! ### INTERRUPT_ACKNOWLEDGE and INTERRUPT_ENABLE -/

theorem irqN_low (s : State) : s.irqN = false ↔ s.rep.latched &&& (s.setup 2).setWidth 8 ≠ 0 := by
  rw [State.irqN, decide_eq_false_iff_not, State.enabledCauses]

/-- R212: the byte of a merged word of one byte's fields. -/
theorem mergedSetup_byte {n : Nat} (hn : n = 1 ∨ n = 2) (lanes : Lanes) (data : Word) (s : State) :
    (mergedSetup n lanes data s).setWidth 8 = (mergeLanes lanes (s.setup n) data).setWidth 8 ∧
      mergedSetup n lanes data s = ((mergeLanes lanes (s.setup n) data).setWidth 8).setWidth 32 := by
  have fields : setupFields n = 0x000000FF := by obtain rfl | rfl := hn <;> rfl
  rw [mergedSetup, fields]
  refine ⟨?_, BitVec.eq_of_toNat_eq ?_⟩
  · rw [BitVec.setWidth_and]
    exact BitVec.and_allOnes
  · rw [BitVec.toNat_and, BitVec.toNat_setWidth, BitVec.toNat_setWidth,
      show (0x000000FF : Word).toNat = 2 ^ 8 - 1 from rfl, Nat.and_two_pow_sub_one_eq_mod]
    omega

theorem judgeSetup_interrupts {n : Nat} (hn : n = 1 ∨ n = 2) (m : Word) (s : State) : judgeSetup n m s = .ok m := by
  obtain rfl | rfl := hn <;> rfl

/-- Settles O45: the words by `setupWrites_judged`, the cause a fetch read latches by `granted_fetches`. -/
theorem interruptWordsDriveIrq : Obligations.InterruptWordsDriveIrq := by
  unfold Obligations.InterruptWordsDriveIrq
  refine ⟨irqN_low, fun st p s => ⟨State.afterPinReset st p s.mem s.pending, rfl, rfl, rfl, ?_⟩, ?_⟩
  · simp [State.irqN, State.enabledCauses, State.afterPinReset, Reporter.reset]
  · rintro s lanes data c e ok rfl rfl
    have fetches := granted_fetches .controller s
    refine ⟨?_, ?_⟩
    · obtain ⟨byte, -⟩ := mergedSetup_byte (.inl rfl) lanes data s
      have write := (setupWrites_judged (n := 1) (by decide) lanes data s).2 _ (judgeSetup_interrupts (.inl rfl) _ s)
      obtain ⟨-, frame⟩ := storeSetup_granted (n := 1) (by decide) (mergedSetup 1 lanes data s) ok
      have latched : (setupWrites 1 lanes data s).rep.latched = (granted .controller s).rep.latched &&&
          ~~~ (mergeLanes lanes (s.setup 1) data).setWidth 8 := by
        rw [write, ← byte]
        rfl
      rw [write] at latched
      refine ⟨_, congrArg Host.Outcome.next write, rfl, ?_, ?_, ?_, frame.setup, frame.line, frame.pending⟩
      · rw [latched, BitVec.and_assoc, mergeLanes, BitVec.not_and_self]
        exact BitVec.and_zero
      · rw [latched]
        obtain ⟨same, -⟩ | ⟨due, idle, -, same | range⟩ := fetches
        · exact .inl (by rw [same]; rfl)
        · exact .inl (by rw [same]; rfl)
        · exact .inr ⟨by rw [range]; rfl, fetchesAtMost.fetch_ne due idle⟩
      · rw [irqN_low, ← frame.setup 2 (by decide)]
        rfl
    · obtain ⟨byte, word⟩ := mergedSetup_byte (.inr rfl) lanes data s
      have write := (setupWrites_judged (n := 2) (by decide) lanes data s).2 _ (judgeSetup_interrupts (.inr rfl) _ s)
      obtain ⟨stored, frame⟩ := storeSetup_granted (n := 2) (by decide) (mergedSetup 2 lanes data s) ok
      refine ⟨_, congrArg Host.Outcome.next write, rfl, stored.trans word, ?_, ?_, frame.setup, frame.line, frame.pending⟩
      · rw [irqN_low]
        change _ &&& ((storeSetup 2 _ _).setup 2).setWidth 8 ≠ 0 ↔ _
        rw [stored, byte]
        rfl
      · obtain ⟨same, -⟩ | ⟨due, idle, -, same | range⟩ := fetches
        · exact .inl same
        · exact .inl same
        · exact .inr ⟨range, fetchesAtMost.fetch_ne due idle⟩

/-! ### TICKETS_LOW_MARK -/

theorem mergedSetup_full {n : Nat} (full : setupFields n = 0xFFFFFFFF) (lanes : Lanes) (data : Word) (s : State) :
    mergedSetup n lanes data s = mergeLanes lanes (s.setup n) data := by
  rw [mergedSetup, full]
  exact BitVec.and_allOnes

/-- R180: a word of the clamp class is taken at the nearer end of its range. -/
theorem judgeRange_clamps {top hi6 n lo hi : Nat} {v : Word} (own : n ≠ 35 ∧ n ≠ 36 ∧ n ≠ 37)
    (cls : (setupRow n).cls = .clamp) (low : (setupRow n).lo = lo)
    (high : (if n = 6 then hi6 else (setupRow n).hi) = hi) (ordered : lo ≤ hi) :
    judgeRange top hi6 n v = some (word (max lo (min hi v.toNat))) := by
  obtain ⟨h35, h36, h37⟩ := own
  rw [judgeRange, if_neg h35, if_neg h36, if_neg h37]
  simp only [cls, low, high]
  split
  · next under =>
    rw [Nat.max_eq_left (by omega)]
  · next least =>
    split
    · next above =>
      rw [Nat.min_eq_left (by omega), Nat.max_eq_right ordered]
    · next most =>
      rw [Nat.min_eq_right (by omega), Nat.max_eq_right (by omega), word, BitVec.ofNat_toNat, BitVec.setWidth_eq]

theorem judgeSetup_taken {n : Nat} {m v : Word} {s : State} (free : setupLocked n s = false)
    (index : indexRefused n m s = false) (range : judgeRange s.top (s.setupN 38) n m = some v) :
    judgeSetup n m s = .ok v := by
  rw [judgeSetup, free, index, range]
  rfl

/-- Settles O42: the clamp by `judgeRange_clamps`, the condition by `ticketsLowTest`. -/
theorem ticketsLowMarkIsClamped : Obligations.TicketsLowMarkIsClamped := by
  unfold Obligations.TicketsLowMarkIsClamped
  rintro s lanes data m ok rfl
  have merged := mergedSetup_full (n := 7) rfl lanes data s
  generalize hm : mergeLanes lanes (s.setup 7) data = m at merged
  have judged : judgeSetup 7 (mergedSetup 7 lanes data s) s = .ok (word (min 16 m.toNat)) := by
    rw [merged]
    refine judgeSetup_taken rfl rfl ?_
    rw [judgeRange_clamps (lo := 0) (hi := 16) (by decide) rfl rfl rfl (by decide), Nat.zero_max]
  have write := (setupWrites_judged (n := 7) (by decide) lanes data s).2 _ judged
  obtain ⟨stored, frame⟩ := storeSetup_granted (n := 7) (by decide) (word (min 16 m.toNat)) ok
  have mark : (storeSetup 7 (word (min 16 m.toNat)) (granted .controller s)).setupN 7 = min 16 m.toNat := by
    rw [State.setupN, stored, toNat_word (by omega)]
  have whole := frame.trans (ticketsLowTest_indexFrame 7 _)
  have g := granted_granted .controller s
  refine ⟨_, congrArg Host.Outcome.next write, ticketsLowTest_port _, ?_, whole.setup, fun high fewer last => ?_, whole.line,
    whole.table, whole.pending⟩
  · rw [show (s.setup 7 &&& ~~~laneMask lanes ||| data &&& laneMask lanes) = m from hm]
    exact (setupN_congr (ticketsLowTest_keeps _).shadow 7).trans mark
  · rw [show (s.setup 7 &&& ~~~laneMask lanes ||| data &&& laneMask lanes) = m from hm] at fewer
    have publish : (storeSetup 7 (word (min 16 m.toNat)) (granted .controller s)).publish = s.publish :=
      congrArg (BitVec.setWidth 16) (frame.setup 3 (by decide))
    have now : ticketsLowNow (storeSetup 7 (word (min 16 m.toNat)) (granted .controller s)) = true := by
      rw [ticketsLowNow, mark, publish, frame.fetchIndex, frame.table, decide_eq_true last, Bool.and_true]
      exact decide_eq_true fewer
    change (ticketsLowTest (storeSetup 7 (word (min 16 m.toNat)) (granted .controller s))).latches .ticketsLow
    rw [ticketsLowTest, now, show (storeSetup 7 (word (min 16 m.toNat)) (granted .controller s)).tix.low = false from
      g.low.trans high]
    exact latch_latches _ _

/-! ### EVENT_RING_LAYOUT -/

/-- Settles O44: outside IDLE the words are locked; in IDLE a value in range is taken and the slot restarts. -/
theorem eventRingLayoutRestartsSlot : Obligations.EventRingLayoutRestartsSlot := by
  unfold Obligations.EventRingLayoutRestartsSlot
  rintro s slots lanes data m n ok hn rfl
  obtain ⟨layout, hn40, fields⟩ : (n = 37 ∨ n = 38) ∧ n < 40 ∧ setupFields n = 0xFFFFFFFF := by
    cases slots <;> subst hn <;> decide
  have locks : setupLocked n s = decide (s.seq.line ≠ .idle) := by
    obtain rfl | rfl := layout <;> simp [setupLocked]
  have index (m : Word) : indexRefused n m s = false := by obtain rfl | rfl := layout <;> rfl
  have merged := mergedSetup_full fields lanes data s
  change mergedSetup n lanes data s = (s.setup n &&& ~~~laneMask lanes ||| data &&& laneMask lanes) at merged
  rw [← merged]
  have done : exec (.eventRingLayout slots lanes data) s = .next (setupWrites n lanes data s) := by rw [hn]; rfl
  obtain ⟨refused, taken⟩ := setupWrites_judged hn40 lanes data s
  refine ⟨_, done, ?_⟩
  cases judged : judgeSetup n (mergedSetup n lanes data s) s with
  | error r =>
    rw [refused r judged]
    have frame := ((granted_granted .controller s).indexFrame n).trans
      (refuseSetup_indexFrame n (mergedSetup n lanes data s) r _)
    refine ⟨fun idle inSlots inBase => ?_, fun _ => ⟨refuseSetup_port _ _ _ _, ?_, frame.writeSlot⟩, frame.setup,
      frame.writeIndex, frame.table, frame.line, frame.pending⟩
    · have range : judgeRange s.top (s.setupN 38) n (mergedSetup n lanes data s) = some (mergedSetup n lanes data s) := by
        cases slots with
        | true =>
          obtain rfl : n = 38 := hn
          have slots := inSlots rfl
          have inside : ¬ ((mergedSetup 38 lanes data s).toNat < 16 ∨ 4096 < (mergedSetup 38 lanes data s).toNat) := by omega
          exact if_neg inside
        | false =>
          obtain rfl : n = 37 := hn
          exact if_pos (inBase rfl)
      rw [judgeSetup_taken (by rw [locks, idle]; rfl) (index _) range] at judged
      cases judged
    · exact (refuseSetup_setup _ _ _ _ n).trans ((granted_granted .controller s).setup n)
  | ok v =>
    obtain ⟨free, -, range⟩ := judgeSetup_ok judged
    rw [locks, decide_eq_false_iff_not, not_not] at free
    obtain ⟨stored, frame⟩ := storeSetup_granted hn40 v ok
    rw [taken v judged, handSetup_layout layout]
    have same : v = mergedSetup n lanes data s := by
      obtain rfl | rfl := layout
      · rw [judgeRange] at range
        simp only [show (37 : Nat) ≠ 35 by decide, show (37 : Nat) ≠ 36 by decide, if_false, if_true] at range
        split at range
        · exact (Option.some.inj range).symm
        · cases range
      · have range : (if (mergedSetup 38 lanes data s).toNat < 16 ∨ 4096 < (mergedSetup 38 lanes data s).toNat then none
            else some (mergedSetup 38 lanes data s)) = some v := range
        split at range
        · cases range
        · exact (Option.some.inj range).symm
    refine ⟨fun _ _ _ => ⟨rfl, stored.trans same, rfl⟩, fun busy => absurd free busy, frame.setup, frame.writeIndex,
      frame.table, frame.line, frame.pending⟩

/-! ### Lanes (R210) -/

namespace Memory

theorem laneMask_byte : ∀ (lanes : Lanes) (i : Nat), i < 4 →
    (laneMask lanes).extractLsb' (8 * i) 8 = if lanes.getLsbD i then BitVec.allOnes 8 else 0 := by decide

/-- R210: each byte of a merged word is that of its lane's side. -/
theorem mergeLanes_byte (lanes : Lanes) (old new : Word) {i : Nat} (hi : i < 4) :
    (mergeLanes lanes old new).extractLsb' (8 * i) 8 =
      if lanes.getLsbD i then new.extractLsb' (8 * i) 8 else old.extractLsb' (8 * i) 8 := by
  have complement : (~~~ laneMask lanes).extractLsb' (8 * i) 8 = ~~~ (laneMask lanes).extractLsb' (8 * i) 8 := by
    ext j hj
    simp [BitVec.getElem_extractLsb', show 8 * i + j < 32 by omega]
  rw [mergeLanes, BitVec.extractLsb'_or, BitVec.extractLsb'_and, BitVec.extractLsb'_and, complement,
    laneMask_byte lanes i hi]
  split
  · rw [BitVec.not_allOnes, BitVec.and_allOnes]
    exact (congrArg (· ||| _) BitVec.and_zero).trans BitVec.zero_or
  · exact (congrArg₂ (· ||| ·) BitVec.and_allOnes BitVec.and_zero).trans BitVec.or_zero

/-- The bytes of four put together. -/
theorem bytes_of_append (x y z w : Byte) : (x ++ y ++ z ++ w : Word).extractLsb' 0 8 = w ∧
    (x ++ y ++ z ++ w : Word).extractLsb' 8 8 = z ∧ (x ++ y ++ z ++ w : Word).extractLsb' 16 8 = y ∧
    (x ++ y ++ z ++ w : Word).extractLsb' 24 8 = x := by
  refine ⟨?_, ?_, ?_, ?_⟩ <;> apply BitVec.eq_of_getLsbD_eq <;> intro j hj <;>
    simp only [BitVec.getLsbD_extractLsb', BitVec.getLsbD_append, hj, decide_true, Bool.true_and]
  · simp [hj]
  · simp [show ¬ 8 + j < 8 by omega, Nat.not_le.mpr hj]
  · simp [show ¬ 16 + j < 8 by omega, show 16 + j - 8 = 8 + j by omega, Nat.not_le.mpr hj]
  · simp [show ¬ 24 + j < 8 by omega, show 24 + j - 8 = 16 + j by omega, show ¬ 16 + j < 8 by omega,
      show 16 + j - 8 = 8 + j by omega]

theorem byte_readWord (a : Nat) (m : Memory) {i : Nat} (hi : i < 4) :
    (readWord a m).extractLsb' (8 * i) 8 = readByte (a + i) m := by
  obtain ⟨b0, b1, b2, b3⟩ := bytes_of_append (readByte (a + 3) m) (readByte (a + 2) m) (readByte (a + 1) m) (readByte a m)
  match i, hi with
  | 0, _ => exact b0
  | 1, _ => exact b1
  | 2, _ => exact b2
  | 3, _ => exact b3

/-- A word is its four bytes. -/
theorem eq_of_bytes {v w : Word} (h : ∀ i, i < 4 → v.extractLsb' (8 * i) 8 = w.extractLsb' (8 * i) 8) : v = w := by
  rw [← append_bytes v, ← append_bytes w, show v.extractLsb' 24 8 = _ from h 3 (by decide),
    show v.extractLsb' 16 8 = _ from h 2 (by decide), show v.extractLsb' 8 8 = _ from h 1 (by decide),
    show v.extractLsb' 0 8 = _ from h 0 (by decide)]

/-- R184: a word reads with the lanes written and the others as they were. -/
theorem readWord_writeLanes (lanes : Lanes) (a : Nat) (w : Word) {m : Memory} (hm : wf m = true) :
    readWord a (writeLanes lanes a w m) = mergeLanes lanes (readWord a m) w := by
  refine eq_of_bytes fun i hi => ?_
  rw [byte_readWord _ _ hi, mergeLanes_byte _ _ _ hi, byte_readWord _ _ hi]
  split
  · next on => exact readByte_writeLanes_inside hi on w hm
  · next off =>
    refine readByte_writeLanes_outside (fun k _ same => ?_) w m
    rw [← show i = k by omega]
    exact Bool.eq_false_iff.mpr off

theorem readWord_writeLanes_apart {a b : Nat} (h : b + 4 ≤ a ∨ a + 4 ≤ b) (lanes : Lanes) (w : Word) (m : Memory) :
    readWord b (writeLanes lanes a w m) = readWord b m := by
  refine eq_of_bytes fun i hi => ?_
  rw [byte_readWord _ _ hi, byte_readWord _ _ hi]
  exact readByte_writeLanes_outside (fun k hk same => by omega) w m

end Memory

/-! ### The word an access addresses -/

theorem wordAddr_eq (addr : Word) : wordAddr addr = addr &&& 0xFFFFFFFC := rfl

theorem wordAddr_aligned (addr : Word) : (wordAddr addr).toNat % 4 = 0 := by
  rw [wordAddr_eq, BitVec.toNat_and, show (4 : Nat) = 2 ^ 2 from rfl, Nat.and_mod_two_pow]
  exact Nat.and_zero _

theorem wordAddr_le (addr : Word) : (wordAddr addr).toNat ≤ addr.toNat := by
  rw [wordAddr, BitVec.toNat_and]
  exact Nat.and_le_left

theorem wordAddr_wordIn {addr : Word} {s : State} (h : addr.toNat < s.top) : wordIn (wordAddr addr) s :=
  ⟨wordAddr_aligned addr, Nat.lt_of_le_of_lt (wordAddr_le addr) h⟩

/-- Two words lie apart. -/
theorem wordIn.apart {a b : Word} {s : State} (ha : wordIn a s) (hb : b.toNat % 4 = 0) (h : a ≠ b) :
    a.toNat + 4 ≤ b.toNat ∨ b.toNat + 4 ≤ a.toNat := by
  have other : a.toNat ≠ b.toNat := fun same => h (BitVec.eq_of_toNat_eq same)
  have := ha.1
  omega

theorem classify_outOfRange_iff (addr : Word) (s : State) : classify addr s = .outOfRange ↔ s.top ≤ addr.toNat := by
  have page := base_page_le_top s
  rw [classify]
  split
  · exact ⟨nofun, fun h => by omega⟩
  · split
    · exact ⟨nofun, fun h => by omega⟩
    · split
      · exact ⟨nofun, fun h => by omega⟩
      · split
        · exact ⟨nofun, fun h => by omega⟩
        · split
          · next h => exact ⟨fun _ => h, fun _ => rfl⟩
          · next h => exact ⟨nofun, fun top => absurd top h⟩

theorem Granted.classify {s t : State} (h : Granted s t) (addr : Word) : classify addr t = classify addr s := by
  rw [Machine.classify, Machine.classify, h.base, h.top, h.setupN, h.setupN, h.setupN, h.setupN]

/-- The latest values of all words of the memory fitted stay. -/
def keepsValues (s t : State) : Prop := ∀ a, wordIn a s → latestValue a t = latestValue a s

theorem granted_keepsValues {s : State} (ok : QueueOk s) (entries : EntriesIn s) (wf : Memory.wf s.mem = true)
    (want : Party) : keepsValues s (granted want s) := fun _ ha =>
  granted_latestValue want (storeOk_iff.mpr ⟨ok, wf⟩) entries ha

/-- What an event offered and a cause latched leave of a state. -/
theorem offer_store (e : Event) (s : State) : (offer e s).path = s.path ∧ (offer e s).mem = s.mem ∧
    (offer e s).tix = s.tix ∧ (offer e s).pending = s.pending ∧ sameLine s (offer e s) := by
  rw [offer_only]
  exact ⟨rfl, rfl, rfl, rfl, sameLine_refl s⟩

/-! ### CONTROLLER_READ -/

/-- Settles O38: the grants keep the latest values, and the read takes one of them. -/
theorem controllerReadSeesLatestWrite : Obligations.ControllerReadSeesLatestWrite := by
  unfold Obligations.ControllerReadSeesLatestWrite
  intro s addr lanes ok entries wf
  have g := granted_granted .controller s
  have values := granted_keepsValues ok entries wf .controller
  have done : exec (.controllerRead addr lanes) s = .next (portRead addr lanes (granted .controller s)) := rfl
  refine ⟨_, done, ?_⟩
  by_cases above : s.top ≤ addr.toNat
  · have out : classify addr (granted .controller s) = .outOfRange := by
      rw [g.classify, classify_outOfRange_iff]
      exact above
    rw [portRead, out]
    obtain ⟨path, mem, -, pending, line⟩ := offer_store (.rangeRead addr lanes)
      (latch .range { granted .controller s with port := .data allLanes 0xFFFFFFFF })
    refine ⟨fun below => absurd above (Nat.not_le.mpr below), fun _ => ⟨offer_port _ _, ?_⟩, fun a ha => ?_,
      (congrArg MemoryPath.shadow path).trans g.shadow, (congrArg MemoryPath.written path).trans g.written,
      sameLine_trans g.line line, pending.trans g.pending⟩
    · change (offer _ _).rep.latched &&& _ ≠ 0
      rw [offer_latched]
      exact latch_latches _ _
    · exact (latestValue_congr (congrArg MemoryPath.queue path) mem a).trans (values a ha)
  · have inside : portRead addr lanes (granted .controller s) = readThrough addr lanes (granted .controller s) := by
      rw [portRead.eq_def]
      split
      · next out => rw [g.classify, classify_outOfRange_iff] at out; exact absurd out above
      all_goals rfl
    rw [inside]
    refine ⟨fun below => ?_, fun h => absurd h above, values, g.shadow, g.written, g.line, g.pending⟩
    rw [← wordAddr_eq, ← values _ (wordAddr_wordIn below)]
    rfl

/-! ### CONTROLLER_WRITE -/

/-- R184, R187: what a write made at the port leaves. -/
structure WrittenThrough (addr : Word) (lanes : Lanes) (data : Word) (s t : State) : Prop where
  value : latestValue (wordAddr addr) t = mergeLanes lanes (latestValue (wordAddr addr) s) data
  others : ∀ a, wordIn a s → a ≠ wordAddr addr → latestValue a t = latestValue a s
  unqueued : queued (wordAddr addr) t.path.queue = none
  port : t.port = .done
  shadow : t.path.shadow = s.path.shadow
  written : t.path.written = s.path.written
  straps : t.path.straps = s.path.straps
  tix : t.tix = s.tix
  line : sameLine s t
  pending : t.pending = s.pending

theorem writeThrough_does (addr : Word) (lanes : Lanes) (data : Word) {s : State} (ok : StoreOk s) :
    WrittenThrough addr lanes data s (writeThrough addr lanes data s) := by
  have aligned := wordAddr_aligned addr
  rw [writeThrough]
  cases meets : queued (wordAddr addr) s.path.queue with
  | some d =>
    have gone := queued_removeQueued_same (a := wordAddr addr) ok.nodup
    refine ⟨?_, fun a ha other => ?_, gone, rfl, rfl, rfl, rfl, rfl, sameLine_refl s, rfl⟩
    · rw [latestValue_eq, latestValue_eq, meets]
      change (queued _ (removeQueued _ _)).getD _ = _
      rw [gone]
      exact Memory.readWord_writeWord _ _ ok.wf
    · rw [latestValue_eq, latestValue_eq]
      change (queued _ (removeQueued _ _)).getD (Memory.readWord _ (Memory.writeWord _ _ _)) = _
      rw [queued_removeQueued_other other, Memory.readWord_writeWord_apart (ha.apart aligned other)]
  | none =>
    refine ⟨?_, fun a ha other => ?_, meets, rfl, rfl, rfl, rfl, rfl, sameLine_refl s, rfl⟩
    · rw [latestValue_eq, latestValue_eq]
      change (queued _ s.path.queue).getD _ = _
      rw [meets]
      exact Memory.readWord_writeLanes _ _ _ ok.wf
    · rw [latestValue_eq, latestValue_eq]
      change (queued _ s.path.queue).getD (Memory.readWord _ (Memory.writeLanes _ _ _ _)) = _
      rw [Memory.readWord_writeLanes_apart (ha.apart aligned other)]

/-- A write that reaches the words as it is presented, with the grants before it. -/
theorem WrittenThrough.granted {addr : Word} {lanes : Lanes} {data : Word} {s t : State} (ok : QueueOk s)
    (entries : EntriesIn s) (wf : Memory.wf s.mem = true) (below : addr.toNat < s.top)
    (h : WrittenThrough addr lanes data (granted .controller s) t) :
    latestValue (wordAddr addr) t = mergeLanes lanes (latestValue (wordAddr addr) s) data ∧
      ∀ a, wordIn a s → a ≠ wordAddr addr → latestValue a t = latestValue a s := by
  have values := granted_keepsValues ok entries wf .controller
  have g := granted_granted .controller s
  refine ⟨?_, fun a ha other => ?_⟩
  · rw [h.value, values _ (wordAddr_wordIn below)]
  · rw [h.others a ⟨ha.1, by rw [g.top]; exact ha.2⟩ other, values a ha]

/-! ### The commands that wait -/

theorem OffBus.pending {s t : State} (h : OffBus s t) : t.pending = s.pending := (congrArg Fixed.pending h.outer :)

theorem Keeps.pending {s t : State} (h : Keeps s t) : t.pending = s.pending := (congrArg Fixed.pending h.fixed :)

theorem recordOutcome_pending (o : CommandOutcome) (line : LineState) (s : State) :
    (recordOutcome o line s).pending = s.pending := by
  rw [recordOutcome]
  exact (offer_keeps _ _).pending.trans ((placeResult_granted _).pending)

theorem decideCommand_pending (code : BitVec 8) (tag : Index) (s : State) :
    (decideCommand code tag s).pending = s.pending := by
  rw [decideCommand]
  split
  · rfl
  · refine (recordOutcome_pending _ _ _).trans ?_
    obtain ⟨e, -⟩ | ⟨-, -, c, -, admitted, -, e⟩ := commandEffect_cases code s <;> rw [e]
    exact (effect_step admitted).1.pending

theorem handSetup_pending (n : Nat) (v : Word) (s : State) : (handSetup n v s).pending = s.pending := by
  rw [handSetup]
  split
  · exact decideCommand_pending _ _ s
  · split
    · rfl
    · split
      · exact (ticketsLowTest_keeps s).pending
      · split <;> rfl

theorem amendTicket_keeps (t : Ticket) (one : Bool) (s : State) : Keeps s (amendTicket t one s) := by
  rw [amendTicket]
  split
  · exact .refl s
  · have edited : Keeps s (s.editTicket t.ring fun x => { x with amended := true }) := editTicket_keeps _ _ _ fun _ => rfl
    exact (edited.trans (addTicketReason_keeps _ _ _)).trans (offer_keeps _ _)

theorem amendSlot_keeps (slot : Nat) (one : Bool) (s : State) : Keeps s (amendSlot slot one s) := by
  rw [amendSlot]
  split
  · exact amendTicket_keeps _ _ s
  · exact .refl s

theorem handTicketWrite_pending (slot w : Nat) (lanes : Lanes) (s : State) :
    (handTicketWrite slot w lanes s).pending = s.pending := by
  rw [handTicketWrite]
  split
  · rw [amendFetch]
    split <;> exact (amendSlot_keeps _ _ s).pending
  · rfl

theorem writeThrough_pending (addr : Word) (lanes : Lanes) (data : Word) (s : State) :
    (writeThrough addr lanes data s).pending = s.pending := by
  rw [writeThrough]
  split <;> rfl

theorem portWrite_pending (addr : Word) (lanes : Lanes) (data : Word) (s : State) :
    (portWrite addr lanes data s).pending = s.pending := by
  rw [portWrite]
  split
  · next n _ =>
    obtain ⟨reason, -, e⟩ | ⟨v, -, e⟩ := setupWriteAt_cases n lanes data s <;> rw [e]
    · exact (offer_keeps _ _).pending
    · exact handSetup_pending n v _
  · exact (endStep_keeps _).pending.trans ((handTicketWrite_pending _ _ _ _).trans (writeThrough_pending _ _ _ s))
  · exact writeThrough_pending _ _ _ s
  · exact writeThrough_pending _ _ _ s
  · exact writeThrough_pending _ _ _ s
  · exact (offer_keeps _ _).pending

/-- Settles O39: the grants keep the latest values, and the write is `writeThrough_does`. -/
theorem controllerWriteIsLatest : Obligations.ControllerWriteIsLatest := by
  unfold Obligations.ControllerWriteIsLatest
  intro s addr lanes data ok entries wf
  have g := granted_granted .controller s
  have values := granted_keepsValues ok entries wf .controller
  have store : StoreOk (granted .controller s) := granted_storeOk .controller (storeOk_iff.mpr ⟨ok, wf⟩)
  have done : exec (.controllerWrite addr lanes data) s = .next (portWrite addr lanes data (granted .controller s)) := rfl
  refine ⟨_, done, fun cls => ?_, fun cls => ?_, (portWrite_pending addr lanes data _).trans g.pending⟩
  · have below : addr.toNat < s.top := by
      rw [← Nat.not_le, ← classify_outOfRange_iff]
      intro out
      rw [out] at cls
      simp at cls
    have written : portWrite addr lanes data (granted .controller s) = writeThrough addr lanes data (granted .controller s) := by
      rw [portWrite.eq_def, g.classify]
      obtain cls | cls | cls := cls <;> rw [cls]
    rw [written]
    have does := writeThrough_does addr lanes data store
    obtain ⟨value, others⟩ := does.granted ok entries wf below
    exact ⟨does.port, value, others, does.unqueued, does.shadow.trans g.shadow, does.written.trans g.written,
      (congrArg TicketUnit.table does.tix).trans g.table, sameLine_trans g.line does.line⟩
  · rw [portWrite, g.classify, cls]
    obtain ⟨path, mem, tix, -, line⟩ := offer_store (.rangeWrite addr lanes data)
      (latch .range { granted .controller s with port := .done })
    refine ⟨offer_port _ _, ?_, fun a ha => ?_, (congrArg MemoryPath.shadow path).trans g.shadow,
      (congrArg TicketUnit.table tix).trans g.table, sameLine_trans g.line line⟩
    · change (offer _ _).rep.latched &&& _ ≠ 0
      rw [offer_latched]
      exact latch_latches _ _
    · exact (latestValue_congr (congrArg MemoryPath.queue path) mem a).trans (values a ha)

/-! ### TICKET_WRITE -/

theorem amendTicket_offPockets (t : Ticket) (one : Bool) (s : State) :
    (amendTicket t one s).offPockets = s.offPockets := by
  rw [amendTicket]
  split
  · rfl
  · rw [offer_offPockets, addTicketReason_offPockets]
    rfl

theorem amendSlot_offPockets (slot : Nat) (one : Bool) (s : State) :
    (amendSlot slot one s).offPockets = s.offPockets := by
  rw [amendSlot]
  split
  · exact amendTicket_offPockets _ _ s
  · rfl

/-- R67: a write that meets the fetch changes the fetch unit's own mark alone. -/
theorem amendFetch_only (slot : Nat) (one : Bool) (s : State) :
    ∃ mark, amendFetch slot one s = { s with tix := { s.tix with fetchAmended := mark } } := by
  rw [amendFetch]
  split
  · exact ⟨_, rfl⟩
  · exact ⟨_, rfl⟩

theorem handTicketWrite_offPockets (slot w : Nat) (lanes : Lanes) (s : State) :
    (handTicketWrite slot w lanes s).offPockets = s.offPockets := by
  rw [handTicketWrite]
  split
  · obtain ⟨mark, e⟩ := amendFetch_only slot (decide (w = 1)) (amendSlot slot (decide (w = 1)) s)
    rw [e]
    exact amendSlot_offPockets _ _ s
  · rfl

theorem handTicketWrite_keepsIndexes (slot w : Nat) (lanes : Lanes) (s : State) :
    (handTicketWrite slot w lanes s).tix.fetchIndex = s.tix.fetchIndex ∧
      (handTicketWrite slot w lanes s).tix.retireIndex = s.tix.retireIndex := by
  rw [handTicketWrite]
  split
  · obtain ⟨mark, e⟩ := amendFetch_only slot (decide (w = 1)) (amendSlot slot (decide (w = 1)) s)
    have kept := (amendSlot_keeps slot (decide (w = 1)) s).fixed
    rw [e]
    exact ⟨congrArg Fixed.fetchIndex kept, congrArg Fixed.retireIndex kept⟩
  · exact ⟨rfl, rfl⟩

/-- R72: a ticket amended once takes the mark and the reason. -/
theorem amendTicket_table (t : Ticket) (one : Bool) (s : State) :
    (amendTicket t one s).tix.table = s.tix.table.map fun x =>
      if x.ring = t.ring ∧ t.amended = false then
        { x with amended := true, reasons := x.reasons ||| Reason.amended.bit } else x := by
  rw [amendTicket]
  split
  · next already => simp [already]
  · next fresh =>
    simp only [offer_tix, addTicketReason_tix, State.editTicket, List.map_map]
    refine List.map_congr_left fun x _ => ?_
    by_cases same : x.ring = t.ring <;> simp [same, fresh]

theorem amendable_iff (t : Ticket) :
    t.amendable = true ↔ t.state = .waiting ∨ t.state = .collating ∨ t.state = .closed := by
  rw [Ticket.amendable, Bool.or_eq_true, Bool.or_eq_true, decide_eq_true_eq, decide_eq_true_eq, decide_eq_true_eq, or_assoc]

/-- R72: the slot's one ticket is the one amended. -/
theorem amendSlot_of_only {slot : Nat} {one : Bool} {k : Ticket} {s : State} (hk : k ∈ s.tix.table)
    (at_slot : slotOf k.ring s = slot) (only : ∀ k' ∈ s.tix.table, slotOf k'.ring s = slot → k' = k)
    (live : k.amendable = true) : amendSlot slot one s = amendTicket k one s := by
  rw [amendSlot]
  split
  · next t found =>
    have here := List.find?_some found
    rw [Bool.and_eq_true, decide_eq_true_eq] at here
    rw [only t (List.mem_of_find?_eq_some found) here.2]
  · next missing =>
    have none := List.find?_eq_none.mp missing k hk
    rw [live, at_slot] at none
    exact absurd (decide_eq_true rfl) none

theorem amendSlot_of_none {slot : Nat} {one : Bool} {s : State}
    (none : ∀ k ∈ s.tix.table, slotOf k.ring s = slot → k.state = .disposing ∨ k.state = .disposed) :
    amendSlot slot one s = s := by
  rw [amendSlot]
  split
  · next t found =>
    have here := List.find?_some found
    rw [Bool.and_eq_true, decide_eq_true_eq, amendable_iff] at here
    obtain ⟨live, at_slot⟩ := here
    obtain e | e := none t (List.mem_of_find?_eq_some found) at_slot <;> rw [e] at live <;> simp at live
  · rfl

/-- R72, R185: what a write handed over does to the table. -/
theorem handTicketWrite_amends {slot w : Nat} {lanes : Lanes} {s : State} (some_lane : lanes ≠ 0) :
    (∀ k ∈ s.tix.table, w < 2 → slotOf k.ring s = slot → (∀ k' ∈ s.tix.table, slotOf k'.ring s = slot → k' = k) →
      k.amendable = true → (handTicketWrite slot w lanes s).tix.table = s.tix.table.map fun x =>
        if x.ring = k.ring ∧ k.amended = false then
          { x with amended := true, reasons := x.reasons ||| Reason.amended.bit } else x) ∧
    (2 ≤ w ∨ (∀ k ∈ s.tix.table, slotOf k.ring s = slot → k.state = .disposing ∨ k.state = .disposed) →
      (handTicketWrite slot w lanes s).tix.table = s.tix.table ∧ (handTicketWrite slot w lanes s).acc = s.acc ∧
        (handTicketWrite slot w lanes s).rel = s.rel) := by
  obtain ⟨mark, e⟩ := amendFetch_only slot (decide (w = 1)) (amendSlot slot (decide (w = 1)) s)
  refine ⟨fun k hk low at_slot only live => ?_, fun none => ?_⟩
  · rw [handTicketWrite, if_pos ⟨some_lane, low⟩, e]
    dsimp only
    rw [amendSlot_of_only hk at_slot only live, amendTicket_table]
  · rw [handTicketWrite]
    split
    · next low =>
      rw [e, amendSlot_of_none (none.resolve_left (Nat.not_le.mpr low.2))]
      exact ⟨rfl, rfl, rfl⟩
    · exact ⟨rfl, rfl, rfl⟩

/-- Settles O40: the word is written as any other (`writeThrough_does`), and the ticket unit amends the slot's ticket
(`handTicketWrite_amends`). -/
theorem ticketWriteAmendsTicket : Obligations.TicketWriteAmendsTicket := by
  unfold Obligations.TicketWriteAmendsTicket
  intro s addr lanes data slot w ok entries wf _ _ cls some_lane
  have g := granted_granted .controller s
  have store : StoreOk (granted .controller s) := granted_storeOk .controller (storeOk_iff.mpr ⟨ok, wf⟩)
  have does := writeThrough_does addr lanes data store
  have below : addr.toNat < s.top := by
    rw [← Nat.not_le, ← classify_outOfRange_iff, cls]
    exact nofun
  obtain ⟨value, others⟩ := does.granted ok entries wf below
  obtain ⟨u, hu⟩ : ∃ u, u = writeThrough addr lanes data (granted .controller s) := ⟨_, rfl⟩
  rw [← hu] at does value others
  have done : exec (.ticketWrite addr lanes data) s = .next (endStep (handTicketWrite slot w lanes u)) := by
    change Host.Outcome.next (portWrite addr lanes data (granted .controller s)) = _
    rw [portWrite, g.classify, cls, hu]
  have ended := endStep_keeps (handTicketWrite slot w lanes u)
  have handed := handTicketWrite_offPockets slot w lanes u
  obtain ⟨fetch, retire⟩ := handTicketWrite_keepsIndexes slot w lanes u
  have path : (endStep (handTicketWrite slot w lanes u)).path = u.path :=
    (endStep_path _).trans (congrArg OffPockets.path handed)
  have mem : (endStep (handTicketWrite slot w lanes u)).mem = u.mem :=
    (endStep_mem _).trans (congrArg OffPockets.mem handed)
  have same (a : Word) : latestValue a (endStep (handTicketWrite slot w lanes u)) = latestValue a u :=
    latestValue_congr (congrArg MemoryPath.queue path) mem a
  have table : u.tix.table = s.tix.table := (congrArg TicketUnit.table does.tix).trans g.table
  have slots (ring : Index) : slotOf ring u = ring.toNat % s.setupN 36 := by
    rw [slotOf, setupN_congr (does.shadow.trans g.shadow)]
  obtain ⟨amends, leaves⟩ := handTicketWrite_amends (s := u) (slot := slot) (w := w) some_lane
  simp only [table, slots, amendable_iff] at amends leaves
  obtain ⟨pins, enc, rd, ⟨trk, col, pln, acc, rel⟩, tr, seq⟩ := sameLine_trans g.line does.line
  refine ⟨_, done, ?_, (same _).trans value, fun a ha other => (same a).trans (others a ha other), ?_, ?_, ?_, ?_, ?_, ?_,
    ?_, ?_, ?_, ?_, ?_⟩
  · exact (congrArg Fixed.port ended.fixed).trans ((congrArg OffPockets.port handed).trans does.port)
  · exact fun k hk low at_slot only live => (endStep_table _).trans (amends k hk low at_slot only live)
  · intro none
    obtain ⟨t, a, r⟩ := leaves none
    exact ⟨(endStep_table _).trans t, (endStep_acc _).trans (a.trans acc), (endStep_rel _).trans (r.trans rel)⟩
  · exact (congrArg Fixed.fetchIndex ended.fixed).trans (fetch.trans
      ((congrArg TicketUnit.fetchIndex does.tix).trans g.fetchIndex))
  · exact (congrArg Fixed.retireIndex ended.fixed).trans (retire.trans
      ((congrArg TicketUnit.retireIndex does.tix).trans g.retireIndex))
  · exact (congrArg MemoryPath.shadow path).trans (does.shadow.trans g.shadow)
  · exact (endStep_trk _).trans ((congrArg OffPockets.trk handed).trans trk)
  · exact (endStep_col _).trans ((congrArg OffPockets.col handed).trans col)
  · exact (endStep_enc _).trans ((congrArg OffPockets.enc handed).trans enc)
  · exact (endStep_tr _).trans ((congrArg OffPockets.tr handed).trans tr)
  · exact (endStep_seq _).trans ((congrArg OffPockets.seq handed).trans seq)
  · exact ended.pending.trans ((congrArg OffPockets.pending handed).trans (does.pending.trans g.pending))

/-! ### Setup words judged (R180, R195) -/

/-- R195: the words and how each takes a merged value. -/
theorem setupWord_class (n : Nat) (hn : n = 5 ∨ n = 6 ∨ 8 ≤ n ∧ n < 40) :
    n = 5 ∨ n = 6 ∨ n = 35 ∨ n = 36 ∨ n = 37 ∨ n = 39 ∨ (∃ r ∈ clampRanges, r.1 = n) ∨ ∃ r ∈ refuseRanges, r.1 = n := by
  have all : ∀ k < 40, 8 ≤ k → k = 35 ∨ k = 36 ∨ k = 37 ∨ k = 39 ∨ (∃ r ∈ clampRanges, r.1 = k) ∨
      ∃ r ∈ refuseRanges, r.1 = k := by decide
  obtain h | h | ⟨least, most⟩ := hn
  · exact .inl h
  · exact .inr (.inl h)
  · exact .inr (.inr (all n most least))

theorem clampRanges_rows : ∀ r ∈ clampRanges, (r.1 ≠ 35 ∧ r.1 ≠ 36 ∧ r.1 ≠ 37) ∧ r.1 ≠ 6 ∧
    (setupRow r.1).cls = .clamp ∧ (setupRow r.1).lo = r.2.1 ∧ (setupRow r.1).hi = r.2.2 ∧ r.2.1 ≤ r.2.2 := by decide

theorem refuseRanges_rows : ∀ r ∈ refuseRanges, (r.1 ≠ 35 ∧ r.1 ≠ 36 ∧ r.1 ≠ 37) ∧ r.1 ≠ 6 ∧
    (setupRow r.1).cls = .refuse ∧ (setupRow r.1).lo = r.2.1 ∧ (setupRow r.1).hi = r.2.2 := by decide

theorem judgeRange_refuses {top hi6 : Nat} {r : Nat × Nat × Nat} (hr : r ∈ refuseRanges) (v : Word) :
    judgeRange top hi6 r.1 v = if r.2.1 ≤ v.toNat ∧ v.toNat ≤ r.2.2 then some v else none := by
  obtain ⟨⟨h35, h36, h37⟩, h6, cls, lo, hi⟩ := refuseRanges_rows r hr
  rw [judgeRange, if_neg h35, if_neg h36, if_neg h37]
  simp only [cls, lo, hi, if_neg h6]
  split
  · next outside => rw [if_neg (by omega)]
  · next inside => rw [if_pos (by omega)]

theorem isSlotCount_iff (v : Nat) : isSlotCount v = true ↔ v ∈ [16, 32, 64, 128, 256, 512, 1024] := by
  rw [isSlotCount, List.contains_eq_mem, decide_eq_true_eq]

/-- A setup word number, as a number. -/
theorem wordNumber_eq {n : BitVec 6} {k : Nat} (hk : k < 64) : n = BitVec.ofNat 6 k ↔ n.toNat = k := by
  rw [← BitVec.toNat_inj, BitVec.toNat_ofNat, Nat.mod_eq_of_lt hk]

/-- R180: what the write does once its word is judged to be stored. -/
theorem handSetup_storeOnly {n : Nat} (hn : n = 5 ∨ n = 6 ∨ 8 ≤ n) (v : Word) (s : State) :
    (handSetup n v s).path = s.path ∧ (handSetup n v s).mem = s.mem ∧ (handSetup n v s).port = s.port ∧
      sameLine s (handSetup n v s) := by
  have id (t : State) (e : t = s ∨ t = resetWriteSlot s) : t.path = s.path ∧ t.mem = s.mem ∧ t.port = s.port ∧
      sameLine s t := by
    obtain rfl | rfl := e
    · exact ⟨rfl, rfl, rfl, sameLine_refl t⟩
    · exact ⟨rfl, rfl, rfl, sameLine_refl s⟩
  refine id _ ?_
  rw [handSetup, if_neg (by omega), if_neg (by omega), if_neg (by omega)]
  split
  · exact .inr rfl
  · exact .inl rfl

/-- R187: the word stored is the latest value of its address, and every other word's stays. -/
theorem storeSetup_values (n : Nat) (v : Word) {s : State} (ok : StoreOk s) :
    latestValue (setupAddr n s) (storeSetup n v s) = v ∧
      ∀ a, wordIn a s → a ≠ setupAddr n s → latestValue a (storeSetup n v s) = latestValue a s := by
  refine ⟨?_, fun a ha other => ?_⟩
  · rw [latestValue_eq]
    change (queued _ (removeQueued _ _)).getD _ = _
    rw [queued_removeQueued_same ok.nodup]
    exact Memory.readWord_writeWord _ _ ok.wf
  · rw [latestValue_eq, latestValue_eq]
    change (queued _ (removeQueued _ _)).getD (Memory.readWord _ (Memory.writeWord _ _ _)) = _
    rw [queued_removeQueued_other other, Memory.readWord_writeWord_apart (ha.apart (setupAddr_aligned n s) other)]

theorem refuseSetup_store (n : Nat) (m : Word) (r : SetupRefusal) (s : State) :
    (refuseSetup n m r s).path = s.path ∧ (refuseSetup n m r s).mem = s.mem := by
  obtain ⟨path, mem, -⟩ := offer_store (.setupRefused n m r) { s with port := .busError }
  exact ⟨path, mem⟩

/-- R180: a value is refused by the lock or by its range. -/
theorem judgeSetup_eq {n : Nat} (hn : n ≠ 3 ∧ n ≠ 4) {m : Word} {v : Option Word} {s : State}
    (range : judgeRange s.top (s.setupN 38) n m = v) :
    (setupLocked n s = true ∨ v = none → ∃ r, judgeSetup n m s = .error r) ∧
      ∀ w, v = some w → setupLocked n s = false → judgeSetup n m s = .ok w := by
  have index : indexRefused n m s = false := by
    rw [indexRefused, decide_eq_false hn.1, decide_eq_false hn.2]
    rfl
  refine ⟨fun refused => ?_, fun w taken free => judgeSetup_taken free index (range.trans taken)⟩
  rw [judgeSetup, index, range]
  obtain locked | rfl := refused
  · exact ⟨_, if_pos locked⟩
  · split
    · exact ⟨_, rfl⟩
    · exact ⟨.range, rfl⟩

theorem setupLocked_iff (n : Nat) (s : State) : setupLocked n s = true ↔
    8 ≤ n ∧ s.seq.line ≠ .idle ∨ (n = 35 ∨ n = 36) ∧ (s.publish ≠ s.tix.retireIndex ∨ s.tix.fetch ≠ .idle) := by
  simp only [setupLocked, Bool.or_eq_true, Bool.and_eq_true, decide_eq_true_eq]

/-- Settles O41: the judgment by R195's classes, the stored word by `storeSetup_values`. -/
theorem setupWriteJudged : Obligations.SetupWriteJudged := by
  unfold Obligations.SetupWriteJudged
  intro s n lanes data m v hn ok entries wf shadow hm clamp refuse free h6 h35 h36 h37
  have at_ {k : Nat} (hk : k < 64) : n = BitVec.ofNat 6 k ↔ n.toNat = k := wordNumber_eq hk
  have a5 : n = 5 ↔ n.toNat = 5 := at_ (by decide)
  have a6 : n = 6 ↔ n.toNat = 6 := at_ (by decide)
  have a35 : n = 35 ↔ n.toNat = 35 := at_ (by decide)
  have a36 : n = 36 ↔ n.toNat = 36 := at_ (by decide)
  have a37 : n = 37 ↔ n.toNat = 37 := at_ (by decide)
  have a39 : n = 39 ↔ n.toNat = 39 := at_ (by decide)
  have done : exec (.setupWrite n lanes data) s = .next (setupWrites n.toNat lanes data s) := rfl
  simp only [a5, a6, a35, a36, a37, a39] at hn hm free h6 h35 h36 h37 ⊢
  generalize n.toNat = k at *
  have hk : k < 40 := by omega
  have merged : mergedSetup k lanes data s = m := by
    rw [hm, mergedSetup, setupFields, if_neg (by omega), if_neg (by omega), if_neg (by omega)]
    rfl
  have range : judgeRange s.top (s.setupN 38) k m = v := by
    obtain e | e | e | e | e | e | ⟨r, hr, rfl⟩ | ⟨r, hr, rfl⟩ := setupWord_class k hn
    · rw [free (.inl e), e]
      rfl
    · rw [h6 e, e]
      exact judgeRange_clamps (by decide) rfl rfl rfl (by have := shadow.eventSlots; omega)
    · rw [h35 e, e]
      rfl
    · rw [h36 e, e]
      simp only [judgeRange, isSlotCount_iff]
      rfl
    · rw [h37 e, e]
      rfl
    · rw [free (.inr e), e]
      rfl
    · obtain ⟨own, six, cls, lo, hi, ordered⟩ := clampRanges_rows r hr
      rw [clamp _ _ hr]
      exact judgeRange_clamps own cls lo (by rw [if_neg six, hi]) ordered
    · rw [refuse _ _ hr]
      exact judgeRange_refuses hr m
  obtain ⟨refuses, takes⟩ := judgeSetup_eq (by omega) range
  obtain ⟨refused, taken⟩ := setupWrites_judged hk lanes data s
  rw [merged] at refused taken
  have g := granted_granted .controller s
  have values := granted_keepsValues ok entries wf .controller
  refine ⟨_, done, ?_⟩
  cases judged : judgeSetup k m s with
  | error r =>
    rw [refused r judged]
    obtain ⟨path, mem⟩ := refuseSetup_store k m r (granted .controller s)
    have frame := (g.indexFrame k).trans (refuseSetup_indexFrame k m r _)
    refine ⟨fun _ => ⟨refuseSetup_port _ _ _ _, (congrArg MemoryPath.shadow path).trans g.shadow,
      (congrArg MemoryPath.written path).trans g.written, fun a ha =>
        (latestValue_congr (congrArg MemoryPath.queue path) mem a).trans (values a ha)⟩, fun w hw idle none => ?_,
      frame.line, frame.pending⟩
    have open_ : setupLocked k s = false := by
      rw [Bool.eq_false_iff, Ne, setupLocked_iff]
      rintro (⟨high, busy⟩ | ⟨ring, busy⟩)
      · exact busy (idle high)
      · obtain ⟨e, f⟩ := none ring
        exact busy.elim (· e) (· f)
    rw [takes w hw open_] at judged
    cases judged
  | ok u =>
    rw [taken u judged]
    have store : StoreOk (granted .controller s) := granted_storeOk .controller (storeOk_iff.mpr ⟨ok, wf⟩)
    obtain ⟨path, mem, port, line⟩ := handSetup_storeOnly (n := k) (by omega) u (storeSetup k u (granted .controller s))
    obtain ⟨-, frame⟩ := storeSetup_granted hk u shadow
    have addr : setupAddr k (granted .controller s) = setupAddr k s := by rw [setupAddr, setupAddr, g.base]
    obtain ⟨own, others⟩ := storeSetup_values k u store
    rw [addr] at own others
    have same (a : Word) := latestValue_congr (congrArg MemoryPath.queue path) mem a
    refine ⟨fun bad => ?_, fun w hw _ _ => ?_, sameLine_trans frame.line line,
      (handSetup_pending _ _ _).trans frame.pending⟩
    · rw [← or_assoc, ← setupLocked_iff] at bad
      obtain ⟨r, e⟩ := refuses bad
      rw [e] at judged
      cases judged
    · obtain ⟨-, -, range'⟩ := judgeSetup_ok judged
      obtain rfl : u = w := Option.some.inj (range'.symm.trans (range.trans hw))
      refine ⟨port, ?_, ?_, (same _).trans own, fun a ha other => (same a).trans ?_⟩
      · rw [path, ← g.shadow]
        rfl
      · rw [path, ← g.written]
        rfl
      · rw [others a ⟨ha.1, by rw [g.top]; exact ha.2⟩ other, values a ha]

/-! ### A command as it reaches the sequencer -/

/-- What the grants leave besides (R191): the event sequence and the retired serials. -/
theorem granted_beside (want : Party) (s : State) :
    (granted want s).rep.seq = s.rep.seq ∧ (granted want s).tix.retired = s.tix.retired := by
  have read (u : State) : (grantFetchRead u).rep.seq = u.rep.seq ∧ (grantFetchRead u).tix.retired = u.tix.retired := by
    have range (a : Word) (x : State) : (ownRange a x).rep.seq = x.rep.seq ∧ (ownRange a x).tix = x.tix := by
      obtain e | e := ownRange_cases a x <;> rw [e] <;> exact ⟨rfl, rfl⟩
    rw [grantFetchRead.eq_def]
    split
    · exact ⟨(range _ (setArbiter _ u)).1, (congrArg TicketUnit.retired (range _ (setArbiter _ u)).2 :)⟩
    · exact ⟨(range _ (setArbiter _ u)).1, (congrArg TicketUnit.retired (range _ (setArbiter _ u)).2 :)⟩
    all_goals exact ⟨rfl, rfl⟩
  have drain (b : Bool) (u : State) : (drainQueue b u).rep.seq = u.rep.seq ∧ (drainQueue b u).tix.retired = u.tix.retired := by
    rw [drainQueue]
    split <;> exact ⟨rfl, rfl⟩
  have one (g : Grant) (u : State) : (makeGrant g u).rep.seq = u.rep.seq ∧ (makeGrant g u).tix.retired = u.tix.retired := by
    cases g with
    | burst => exact drain true u
    | queue => exact drain false u
    | fetch => exact read u
    | controller => exact ⟨rfl, rfl⟩
  have grants (n : Nat) (u : State) :
      (grantUntil want n u).rep.seq = u.rep.seq ∧ (grantUntil want n u).tix.retired = u.tix.retired := by
    induction n generalizing u with
    | zero => exact ⟨rfl, rfl⟩
    | succ n ih =>
      rw [grantUntil]
      split
      · exact ⟨rfl, rfl⟩
      · split
        · exact one _ u
        · obtain ⟨seq, retired⟩ := ih (makeGrant _ u)
          exact ⟨seq.trans (one _ u).1, retired.trans (one _ u).2⟩
  exact grants _ s

/-- The state in which a command is decided: setup word 0 holds it, and of the line nothing changed. -/
structure Presented (code : BitVec 8) (tag : Index) (s u : State) : Prop extends IndexFrame 0 s u where
  port : u.port = .done
  straps : u.path.straps = s.path.straps
  staging : u.rep.staging = s.rep.staging
  repSeq : u.rep.seq = s.rep.seq
  waiting : u.tix.waiting = s.tix.waiting
  retired : u.tix.retired = s.tix.retired
  word : ShadowOk s → u.setup 0 = commandWord code tag

/-- R212: the code and the tag of a command word. -/
theorem commandWord_parts (code : BitVec 8) (tag : Index) : (commandWord code tag).setWidth 8 = code ∧
    (commandWord code tag).extractLsb' 16 16 = tag ∧ commandWord code tag &&& 0xFFFF00FF = commandWord code tag := by
  refine ⟨BitVec.eq_of_getLsbD_eq fun i hi => ?_, BitVec.eq_of_getLsbD_eq fun i hi => ?_,
    BitVec.eq_of_getLsbD_eq fun i hi => ?_⟩
  · simp only [commandWord, BitVec.getLsbD_setWidth, BitVec.getLsbD_or, BitVec.getLsbD_shiftLeft]
    simp [hi, show i < 16 by omega, show i < 32 by omega]
  · simp only [commandWord, BitVec.getLsbD_extractLsb', BitVec.getLsbD_or, BitVec.getLsbD_setWidth,
      BitVec.getLsbD_shiftLeft, BitVec.getLsbD_of_ge code (16 + i) (by omega)]
    simp only [hi, show 16 + i < 32 by omega, show ¬ 16 + i < 16 by omega, show i < 32 by omega, Nat.add_sub_cancel_left,
      decide_true, decide_false, Bool.and_false, Bool.false_or, Bool.true_and, Bool.not_false]
  · simp only [commandWord, BitVec.getLsbD_and, BitVec.getLsbD_or, BitVec.getLsbD_setWidth, BitVec.getLsbD_shiftLeft]
    by_cases low : i < 8
    · have all : ∀ k < 8, BitVec.getLsbD (0xFFFF00FF : Word) k = true := by decide
      rw [all i low, Bool.and_true]
    · rw [BitVec.getLsbD_of_ge code i (by omega)]
      by_cases high : i < 16
      · simp [high]
      · have all : ∀ k < 32, 16 ≤ k → BitVec.getLsbD (0xFFFF00FF : Word) k = true := by decide
        rw [all i hi (by omega), Bool.and_true]

theorem mergeLanes_all (old data : Word) : mergeLanes allLanes old data = data := by
  rw [mergeLanes, show laneMask allLanes = BitVec.allOnes 32 by decide, BitVec.not_allOnes, BitVec.and_zero,
    BitVec.zero_or, BitVec.and_allOnes]

/-- R157, R180: a full-word write to setup word 0 is stored, and its command is decided. -/
theorem commandWrites_eq (code : BitVec 8) (tag : Index) (s : State) :
    ∃ u, commandWrites code tag s = decideCommand code tag u ∧ Presented code tag s u := by
  obtain ⟨low, high, fields⟩ := commandWord_parts code tag
  have merged : mergedSetup 0 allLanes (commandWord code tag) s = commandWord code tag := by
    rw [mergedSetup, mergeLanes_all]
    exact fields
  have judged : judgeSetup 0 (mergedSetup 0 allLanes (commandWord code tag) s) s = .ok (commandWord code tag) := by
    rw [merged]
    exact judgeSetup_taken rfl rfl rfl
  have g := granted_granted .controller s
  obtain ⟨seq, retired⟩ := granted_beside .controller s
  refine ⟨storeSetup 0 (commandWord code tag) (granted .controller s), ?_,
    ⟨(g.indexFrame 0).trans (storeSetup_indexFrame 0 _ _), rfl, g.straps, g.staging, seq, g.waiting, retired,
      fun ok => (storeSetup_granted (by decide) _ ok).1⟩⟩
  rw [commandWrites, (setupWrites_judged (by decide) _ _ s).2 _ judged]
  rw [handSetup, if_pos rfl, low, high]

namespace Presented

variable {code : BitVec 8} {tag : Index} {s u : State}

theorem pins (h : Presented code tag s u) : u.pins = s.pins := h.line.1
theorem enc (h : Presented code tag s u) : u.enc = s.enc := h.line.2.1
theorem rd (h : Presented code tag s u) : u.rd = s.rd := h.line.2.2.1
theorem path (h : Presented code tag s u) : samePath s u := h.line.2.2.2.1
theorem trk (h : Presented code tag s u) : u.trk = s.trk := h.path.1
theorem col (h : Presented code tag s u) : u.col = s.col := h.path.2.1
theorem pln (h : Presented code tag s u) : u.pln = s.pln := h.path.2.2.1
theorem acc (h : Presented code tag s u) : u.acc = s.acc := h.path.2.2.2.1
theorem rel (h : Presented code tag s u) : u.rel = s.rel := h.path.2.2.2.2
theorem tr (h : Presented code tag s u) : u.tr = s.tr := h.line.2.2.2.2.1
theorem seq (h : Presented code tag s u) : u.seq = s.seq := h.line.2.2.2.2.2

theorem setupN (h : Presented code tag s u) {n : Nat} (hn : n ≠ 0) : u.setupN n = s.setupN n := by
  rw [State.setupN, h.setup n hn, State.setupN]

/-- The command is judged as in the state it was written in. -/
theorem judge (h : Presented code tag s u) (c : BitVec 8) : judgeCommand c u = judgeCommand c s := by
  have base : u.base = s.base := base_congr h.straps
  have top : u.top = s.top := top_congr h.straps
  have geometry : geometryOk u = geometryOk s := by
    simp only [geometryOk, h.setupN (show 9 ≠ 0 by decide), h.setupN (show 10 ≠ 0 by decide),
      h.setupN (show 11 ≠ 0 by decide), h.setupN (show 13 ≠ 0 by decide), h.setupN (show 14 ≠ 0 by decide),
      h.setupN (show 23 ≠ 0 by decide), h.setupN (show 25 ≠ 0 by decide)]
  have regions : regionsOk u = regionsOk s := by
    simp only [regionsOk, setupRegion, ticketRegion, eventRegion, base, top, h.setupN (show 35 ≠ 0 by decide),
      h.setupN (show 36 ≠ 0 by decide), h.setupN (show 37 ≠ 0 by decide), h.setupN (show 38 ≠ 0 by decide)]
  have drains : draining u = draining s := by rw [draining, draining, h.rel]
  have check (k : Command) : k.check u = k.check s := by
    cases k <;> simp only [Command.check, geometry, regions, h.seq, h.tr, drains]
  rw [judgeCommand.eq_def, judgeCommand.eq_def, h.seq]
  simp only [check]

end Presented

/-! ### What the record of an outcome leaves -/

/-- R157, R198: the outcome recorded: of the line only the outcome changed, and COMMAND is latched. -/
structure Recorded (o : CommandOutcome) (v t : State) : Prop where
  pins : t.pins = v.pins
  enc : t.enc = v.enc
  rd : t.rd = v.rd
  path : samePath v t
  tr : t.tr = v.tr
  seq : t.seq = { v.seq with outcome := some o }
  tix : t.tix = v.tix
  shadow : t.path.shadow = v.path.shadow
  port : t.port = v.port
  pending : t.pending = v.pending
  command : t.latches .command
  latched : ∀ c, v.latches c → t.latches c

theorem Recorded.trk {o : CommandOutcome} {v t : State} (h : Recorded o v t) : t.trk = v.trk := h.path.1
theorem Recorded.col {o : CommandOutcome} {v t : State} (h : Recorded o v t) : t.col = v.col := h.path.2.1
theorem Recorded.pln {o : CommandOutcome} {v t : State} (h : Recorded o v t) : t.pln = v.pln := h.path.2.2.1
theorem Recorded.acc {o : CommandOutcome} {v t : State} (h : Recorded o v t) : t.acc = v.acc := h.path.2.2.2.1
theorem Recorded.rel {o : CommandOutcome} {v t : State} (h : Recorded o v t) : t.rel = v.rel := h.path.2.2.2.2

theorem placeResult_latched (c : Cause) {s : State} (h : s.latches c) : (placeResult s).latches c := by
  have status (n : Nat) {u : State} (hu : u.latches c) : (placeIfReady n u).latches c := by
    rw [placeIfReady]
    split
    · rw [placeStatus]
      have placed : (place (statusAddr n u) (statusWord n u) u).latches c := by
        rw [place]
        split
        · exact hu
        · exact latch_keeps_latched _ _ hu
      exact placed
    · exact hu
  exact status 2 (status 1 (status 0 h))

theorem recordOutcome_recorded (o : CommandOutcome) (line : LineState) (v : State) :
    Recorded o v (recordOutcome o line v) := by
  obtain ⟨x, e, hx, latched⟩ : ∃ x, recordOutcome o line v =
      offer (.command o.code o.tag o.refusal line) (latch .command (placeResult x)) ∧
      x = { v with seq := { v.seq with outcome := some o }, rep := x.rep } ∧ x.rep.latched = v.rep.latched :=
    ⟨_, rfl, rfl, rfl⟩
  have g := placeResult_granted x
  obtain ⟨pins, enc, rd, path, tr, seq⟩ := g.line
  have tix := placeResult_tix x
  have whole : sameLine x (recordOutcome o line v) := by
    rw [e]
    exact sameLine_trans g.line (sameLine_trans (sameLine_refl _) (offer_store _ _).2.2.2.2)
  obtain ⟨pins, enc, rd, path, tr, seq⟩ := whole
  have causes (c : Cause) (h : (placeResult x).latches c ∨ c = .command) : (recordOutcome o line v).latches c := by
    rw [State.latches, e, offer_latched]
    obtain kept | rfl := h
    · exact latch_keeps_latched _ _ kept
    · exact latch_latches _ _
  refine ⟨pins.trans ?_, enc.trans ?_, rd.trans ?_, ?_, tr.trans ?_, seq.trans ?_, ?_, ?_, ?_, ?_, causes _ (.inr rfl),
    fun c hc => causes c (.inl (placeResult_latched c ?_))⟩
  · rw [hx]
  · rw [hx]
  · rw [hx]
  · obtain ⟨trk, col, pln, acc, rel⟩ := path
    rw [hx] at trk col pln acc rel
    exact ⟨trk, col, pln, acc, rel⟩
  · rw [hx]
  · rw [hx]
  · rw [e, offer_tix, latch_tix, tix, hx]
  · rw [e, offer_path, latch_path, g.shadow, hx]
  · rw [e, offer_port, latch_port, g.port, hx]
  · rw [e, offer_pending, latch_pending, g.pending, hx]
  · rwa [State.latches, latched]

/-! ### A command decided -/

/-- R157: a command of a code other than 0 is decided in the state that holds it, and its outcome is recorded. -/
theorem commandWrites_decides {code : BitVec 8} (some_code : code ≠ 0) (tag : Index) (s : State) :
    ∃ u, Presented code tag s u ∧
      Recorded { code := code, tag := tag, refusal := judgeCommand code s } (commandEffect code u)
        (commandWrites code tag s) := by
  obtain ⟨u, e, presented⟩ := commandWrites_eq code tag s
  refine ⟨u, presented, ?_⟩
  rw [e, decideCommand, if_neg some_code, presented.judge]
  exact recordOutcome_recorded _ _ _

/-- R157, R158: a command that its line state admits and its checks pass takes effect. -/
theorem commandWrites_accepted {code : BitVec 8} {c : Command} {tag : Index} {s : State} (named : commandOf code = some c)
    (up : s.seq.startupComplete = true) (admitted : c.admitted s.seq.line = true) (passes : c.check s = none) :
    ∃ u, Presented code tag s u ∧
      Recorded { code := code, tag := tag, refusal := none } (c.effect u) (commandWrites code tag s) := by
  have some_code : code ≠ 0 := by
    rintro rfl
    exact nomatch named
  have judged : judgeCommand code s = none := by
    rw [judgeCommand.eq_def, up, named]
    simp only [Bool.not_true, Bool.false_eq_true, if_false, admitted, if_true]
    exact passes
  obtain ⟨u, presented, recorded⟩ := commandWrites_decides some_code tag s
  refine ⟨u, presented, ?_⟩
  have effect : commandEffect code u = c.effect u := by
    rw [commandEffect.eq_def, presented.judge, judged, named]
  rwa [effect, judged] at recorded

/-! ### The working values under a command -/

theorem changeLine_path (new : LineState) (kind : HaltKind) (s : State) : (changeLine new kind s).path = s.path := by
  rw [changeLine_only]

theorem enterIdle_path (s : State) : (enterIdle s).path = s.path := by
  rw [enterIdle, changeLine_path]
  split <;> rfl

theorem pathReset_path (s : State) : (pathReset s).path = s.path := by
  change (abandonTickets s).path = s.path
  rw [abandonTickets_eq]

/-- No command changes a working value. -/
theorem effect_shadow {c : Command} {s : State} (admitted : c.admitted s.seq.line = true) :
    (c.effect s).path.shadow = s.path.shadow := by
  have watch (u : State) : (webBreakCheck u).path.shadow = u.path.shadow := by
    rw [webBreakCheck]
    split
    · rfl
    · exact (takeFault_keeps _ _ _ u).shadow
  have estop (u : State) : (estopCheck u).path.shadow = u.path.shadow := by
    rw [estopCheck]
    split
    · exact (takeFault_keeps _ _ _ u).shadow
    · rfl
  have halting (kind : HaltKind) : (enterHalting kind s).path.shadow = s.path.shadow := by
    obtain ⟨u, e, hu⟩ := enterHalting_only kind s
    rw [e, (settleEnd_nipped s u).frame.path, hu]
  cases c with
  | start => exact (watch _).trans (congrArg MemoryPath.shadow (changeLine_path _ _ _))
  | calibrate => exact (watch _).trans (congrArg MemoryPath.shadow (changeLine_path _ _ _))
  | pause => exact halting .pause
  | stop =>
    rw [Command.effect, stopRun]
    split
    · rfl
    · exact halting .stop
  | resume =>
    have cleared : (clearHalt s).path = s.path := by
      rw [clearHalt]
      split <;> rfl
    have asked (u : State) : (askRunout u).path.shadow = u.path.shadow := by
      rw [askRunout]
      split
      · rw [runoutMet]
        split
        · rw [(targetMet_nipped _).frame.path, (taking_nipped _ _).frame.path, (refresh_nipped _).frame.path, changeLine_path]
        · rw [(refresh_nipped _).frame.path, changeLine_path]
      · rfl
    rw [Command.effect, resumeRun, (settleEnd_nipped _ _).frame.path, asked, (runoutTest_keeps _).shadow, changeLine_path,
      cleared]
  | endRun => exact congrArg MemoryPath.shadow ((enterIdle_path _).trans (pathReset_path s))
  | clear => exact (estop _).trans (congrArg MemoryPath.shadow ((enterIdle_path _).trans (pathReset_path _)))

/-! ### The refusals -/

theorem geometryOk_iff (s : State) : geometryOk s = true ↔
    3 * s.setupN 9 + 2000 ≤ s.setupN 13 ∧ s.setupN 10 + 960 + s.setupN 11 ≤ s.setupN 9 ∧
      s.setupN 11 + 12 ≤ s.setupN 10 ∧ s.setupN 9 + s.setupN 25 + 400 ≤ s.setupN 23 ∧
      s.setupN 14 + 1000 ≤ s.setupN 9 := by
  simp only [geometryOk, Bool.and_eq_true, decide_eq_true_eq, and_assoc]

theorem regionsOk_iff (s : State) : regionsOk s = true ↔
    s.base + 224 ≤ s.top ∧ s.setupN 35 + s.setupN 36 * 32 ≤ s.top ∧ s.setupN 37 + s.setupN 38 * 24 ≤ s.top ∧
      (s.base + 224 ≤ s.setupN 35 ∨ s.setupN 35 + s.setupN 36 * 32 ≤ s.base) ∧
      (s.base + 224 ≤ s.setupN 37 ∨ s.setupN 37 + s.setupN 38 * 24 ≤ s.base) ∧
      (s.setupN 35 + s.setupN 36 * 32 ≤ s.setupN 37 ∨ s.setupN 37 + s.setupN 38 * 24 ≤ s.setupN 35) := by
  have below (r : Region) : r.below s.top = true ↔ r.base + r.length ≤ s.top := by rw [Region.below, decide_eq_true_iff]
  have apart (r t : Region) : r.apart t = true ↔ r.base + r.length ≤ t.base ∨ t.base + t.length ≤ r.base := by
    rw [Region.apart, Bool.or_eq_true, decide_eq_true_iff, decide_eq_true_iff]
  simp only [regionsOk, Bool.and_eq_true, below, apart, and_assoc]
  rfl

theorem draining_iff (s : State) : draining s = true ↔
    s.rel.hold ≠ .empty ∨ s.rel.folding = true ∨ s.rel.exitList ≠ [] := by
  simp only [draining, Bool.or_eq_true, decide_eq_true_eq, Bool.not_eq_true', List.isEmpty_eq_false_iff, or_assoc]

/-- R157: the judgment of a code that names a command, and of one that names none. -/
theorem judgeCommand_eq (code : BitVec 8) (s : State) : judgeCommand code s =
    if s.seq.startupComplete = true then
      (commandOf code).elim (some .unknown) fun c => if c.admitted s.seq.line = true then c.check s else some .state
    else some .state := by
  rw [judgeCommand.eq_def]
  cases s.seq.startupComplete <;> cases commandOf code <;> rfl

theorem commandOf_high {code : BitVec 8} (h : 8 ≤ code.toNat) : commandOf code = none := by
  have other {k : BitVec 8} (hk : k.toNat < 8) : code ≠ k := by
    rintro rfl
    omega
  rw [commandOf, if_neg (other (by decide)), if_neg (other (by decide)), if_neg (other (by decide)),
    if_neg (other (by decide)), if_neg (other (by decide)), if_neg (other (by decide)), if_neg (other (by decide))]

/-- R157: NONE is not decided. -/
theorem commandWrites_none (tag : Index) (s : State) : Presented 0 tag s (commandWrites 0 tag s) := by
  obtain ⟨u, e, presented⟩ := commandWrites_eq 0 tag s
  rw [e, decideCommand, if_pos rfl]
  exact presented

/-- What the record of a command's outcome leaves of the state it was presented to. -/
theorem commandWrites_decided {code : BitVec 8} (some_code : code ≠ 0) (tag : Index) {s : State} (ok : ShadowOk s)
    {no : Option CommandRefusal}
    (judged : judgeCommand code s = if s.seq.startupComplete = true then no else some .state) :
    (commandWrites code tag s).port = .done ∧ (commandWrites code tag s).setup 0 = commandWord code tag ∧
      (commandWrites code tag s).seq.outcome = some { code := code, tag := tag, refusal :=
        if s.seq.startupComplete = true then no else some .state } ∧
      (commandWrites code tag s).latches .command ∧
      (s.seq.startupComplete = false ∨ no ≠ none →
        (commandWrites code tag s).pins = s.pins ∧ (commandWrites code tag s).enc = s.enc ∧
        (commandWrites code tag s).rd = s.rd ∧ samePath s (commandWrites code tag s) ∧
        (commandWrites code tag s).tr = s.tr ∧
        (commandWrites code tag s).seq = { s.seq with outcome := (commandWrites code tag s).seq.outcome } ∧
        (commandWrites code tag s).tix.table = s.tix.table) ∧
      (∀ n, n ≠ 0 → (commandWrites code tag s).setup n = s.setup n) ∧
      (commandWrites code tag s).pending = s.pending := by
  obtain ⟨u, p, r⟩ := commandWrites_decides some_code tag s
  obtain ⟨shadow, port, pending, refused⟩ : (commandEffect code u).path.shadow = u.path.shadow ∧
      (commandEffect code u).port = u.port ∧ (commandEffect code u).pending = u.pending ∧
      (judgeCommand code s ≠ none → commandEffect code u = u) := by
    obtain ⟨e, -⟩ | ⟨accepted, -, c, -, admitted, -, e⟩ := commandEffect_cases code u <;> rw [e]
    · exact ⟨rfl, rfl, rfl, fun _ => rfl⟩
    · have outer := (effect_step admitted).1.outer
      rw [p.judge] at accepted
      exact ⟨effect_shadow admitted, congrArg Fixed.port outer, congrArg Fixed.pending outer,
        fun refused => absurd accepted refused⟩
  have words (n : Nat) : (commandWrites code tag s).setup n = u.setup n := setup_congr (r.shadow.trans shadow) n
  rw [← judged]
  refine ⟨r.port.trans (port.trans p.port), (words 0).trans (p.word ok), by rw [r.seq], r.command, fun no' => ?_,
    fun n hn => (words n).trans (p.setup n hn), r.pending.trans (pending.trans p.pending)⟩
  have same := refused (by
    rw [judged]
    split
    · next up => exact no'.resolve_left (by rw [up]; exact nofun)
    · exact nofun)
  rw [same] at r
  obtain ⟨trk, col, pln, acc, rel⟩ := p.path
  obtain ⟨trk', col', pln', acc', rel'⟩ := r.path
  exact ⟨r.pins.trans p.pins, r.enc.trans p.enc, r.rd.trans p.rd,
    ⟨trk'.trans trk, col'.trans col, pln'.trans pln, acc'.trans acc, rel'.trans rel⟩, r.tr.trans p.tr,
    by rw [r.seq, p.seq], (congrArg TicketUnit.table r.tix).trans p.table⟩

/-- Settles O46: the word by `commandWrites_eq`, the refusals by `judgeCommand_eq`. -/
theorem commandsAreDecided : Obligations.CommandsAreDecided := by
  unfold Obligations.CommandsAreDecided
  refine ⟨fun s tag i code no ok which => ?_, fun s tag ok => ?_⟩
  · simp only [← geometryOk_iff, ← regionsOk_iff, ← draining_iff] at which
    suffices facts : code ≠ 0 ∧ exec i s = .next (commandWrites code tag s) ∧
        (commandOf code).elim (some .unknown)
          (fun c => if c.admitted s.seq.line = true then c.check s else some .state) = no by
      obtain ⟨named, done, judged⟩ := facts
      exact ⟨_, done, commandWrites_decided named tag ok (by rw [judgeCommand_eq, judged])⟩
    obtain ⟨rfl, rfl, rfl⟩ | ⟨rfl, rfl, rfl⟩ | ⟨rfl, rfl, rfl⟩ | ⟨rfl, rfl, rfl⟩ | ⟨rfl, rfl, rfl⟩ | ⟨rfl, rfl, rfl⟩ |
      ⟨rfl, rfl, rfl⟩ | ⟨rfl, high, rfl⟩ := which
    · refine ⟨by decide, rfl, ?_⟩
      rw [show commandOf 1 = some .start from rfl]
      cases line : s.seq.line <;> simp [Command.admitted, Command.check]
    · refine ⟨by decide, rfl, ?_⟩
      rw [show commandOf 2 = some .calibrate from rfl]
      cases line : s.seq.line <;> simp [Command.admitted, Command.check]
    · refine ⟨by decide, rfl, ?_⟩
      rw [show commandOf 3 = some .pause from rfl]
      cases line : s.seq.line <;> simp [Command.admitted, Command.check]
    · refine ⟨by decide, rfl, ?_⟩
      rw [show commandOf 4 = some .stop from rfl]
      cases line : s.seq.line <;> cases stop : s.seq.stopPending <;>
        simp [Command.admitted, Command.check, line, stop]
    · refine ⟨by decide, rfl, ?_⟩
      rw [show commandOf 5 = some .resume from rfl]
      cases line : s.seq.line <;> simp [Command.admitted, Command.check]
    · refine ⟨by decide, rfl, ?_⟩
      rw [show commandOf 6 = some .endRun from rfl]
      cases line : s.seq.line <;> simp [Command.admitted, Command.check]
    · refine ⟨by decide, rfl, ?_⟩
      rw [show commandOf 7 = some .clear from rfl]
      cases line : s.seq.line <;> simp [Command.admitted, Command.check]
    · refine ⟨?_, rfl, by rw [commandOf_high high]; rfl⟩
      rintro rfl
      exact absurd high (by decide)
  · have p := commandWrites_none tag s
    refine ⟨_, rfl, p.port, (p.word ok).trans ?_, p.setup, p.line, p.table, p.staging, p.repSeq, p.pending⟩
    rw [commandWord]
    simp

/-! ### START and CALIBRATE -/

theorem changeLine_rest_only {new : LineState} (rest : new.running = false) (kind : HaltKind) (s : State) :
    changeLine new kind s = { s with
      seq := { s.seq with line := new, haltKind := kind }, rep := (changeLine new kind s).rep } := by
  rw [changeLine_at_rest rest, offer_only]
  rfl

/-- R172: WEB_BREAK_N low takes the first fault, high none. -/
theorem webBreakCheck_cases {s : State} (up : s.seq.startupComplete = true) (line : s.seq.line ≠ .fault) :
    (s.pins.webBreakN = true → webBreakCheck s = s) ∧
      (s.pins.webBreakN = false → ∃ r : Reporter, webBreakCheck s = s.faulted .webBreak r ∧
        r.latched = s.rep.latched ||| Cause.fault.bit) := by
  refine ⟨fun high => by rw [webBreakCheck, if_pos high], fun low => ?_⟩
  obtain ⟨r, e, latched, -⟩ := takeFault_first .webBreak false 0 up line
  refine ⟨r, ?_, latched⟩
  rw [webBreakCheck, if_neg (by rw [low]; exact Bool.false_ne_true), e]

theorem latches_of_latched {s : State} {c : Cause} {x : BitVec 8} (h : s.rep.latched = x ||| c.bit) : s.latches c := by
  rw [State.latches, h]
  exact or_bit_and_ne_zero _ c

theorem Transport.faulted_reports (f : LineFault) (t : Transport) :
    (t.faulted f).beltTicks = t.beltTicks ∧ (t.faulted f).slipReported = t.slipReported := by
  rw [Transport.faulted]
  split
  · rw [Transport.stopNow]
    split <;> exact ⟨rfl, rfl⟩
  · rw [Transport.rampDown.eq_def]
    split <;> exact ⟨rfl, rfl⟩

/-- R161: the state that START enters REGISTER with. -/
theorem startRun_eq (u : State) : ∃ e, startRun u = webBreakCheck e ∧ e = { u with
    enc := { u.enc with highWater := u.enc.web }
    rd := { u.rd.clear with origin := u.enc.web, searching := true }
    trk := Tracking.emptied, col := u.col.cleared
    seq := { u.seq with line := .register, haltKind := .none, stopPending := false, regLimit := some (threeForms u) }
    tr := { u.tr with
      command := u.enc.web, driveEnable := true, slipReported := false, beltRun := true, beltTicks := 0
      beltHistory := [], stallReported := false }
    rep := e.rep } :=
  ⟨_, rfl, changeLine_rest_only rfl _ _⟩

/-- Settles O47: the entry is `startRun_eq`, and WEB_BREAK_N low takes the fault from there. -/
theorem startEntersRegister : Obligations.StartEntersRegister := by
  unfold Obligations.StartEntersRegister
  intro s tag up idle g1 g2 g3 g4 g5 regions
  have passes : Command.start.check s = none := by
    rw [Command.check, (geometryOk_iff s).mpr ⟨g1, g2, g3, g4, g5⟩, regions]
    rfl
  obtain ⟨u, p, rec⟩ := commandWrites_accepted (code := 1) (tag := tag) rfl up (by rw [idle]; rfl) passes
  have done : exec (.start tag) s = .next (commandWrites 1 tag s) := rfl
  obtain ⟨e, starts, he⟩ := startRun_eq u
  rw [Command.effect, starts] at rec
  have forms : threeForms u = s.enc.web + BitVec.ofNat 32 (3 * s.setupN 9) := by
    rw [threeForms, p.enc, p.setupN (by decide)]
    rfl
  rw [p.enc, p.rd, p.col, p.seq, p.tr, forms] at he
  obtain ⟨high, low⟩ := webBreakCheck_cases (s := e) (by rw [he]; exact up) (by rw [he]; exact nofun)
  have pins : e.pins = s.pins := by rw [he]; exact p.pins
  have tix : e.tix = u.tix := by rw [he]
  rw [pins] at high low
  have side (w : State) (hw : w = e ∨ ∃ r, w = e.faulted .webBreak r) :
      w.enc = { s.enc with highWater := s.enc.web } ∧ w.trk = Tracking.emptied ∧ w.col = s.col.cleared ∧
        w.tr.command = s.enc.web ∧ w.tr.beltTicks = 0 ∧ w.tr.slipReported = false ∧ w.pins = s.pins ∧ w.tix = u.tix := by
    obtain rfl | ⟨r, rfl⟩ := hw
    · exact ⟨by rw [he], by rw [he], by rw [he], by rw [he], by rw [he], by rw [he], pins, tix⟩
    · obtain ⟨ticks, slip⟩ := e.tr.faulted_reports .webBreak
      obtain ⟨-, -, -, command⟩ := e.tr.faulted_outputs .webBreak
      exact ⟨by rw [State.faulted, he], by rw [State.faulted, he]; rfl, by rw [State.faulted, he],
        command.trans (by rw [he]), ticks.trans (by rw [he]), slip.trans (by rw [he]), pins, tix⟩
  refine ⟨_, done, fun webBreak => ?_, fun webBreak => ?_, ?_⟩
  · rw [high webBreak] at rec
    exact ⟨by rw [rec.seq, he], by rw [rec.rd, he]; rfl, by rw [rec.tr, he], by rw [rec.tr, he],
      by rw [rec.acc, he]; exact p.acc, by rw [rec.rel, he]; exact p.rel⟩
  · obtain ⟨r, fault, latched⟩ := low webBreak
    rw [fault] at rec
    obtain ⟨belt, -⟩ := e.tr.faulted_outputs .webBreak
    obtain ⟨still, drive⟩ := e.tr.faulted_immediate (f := .webBreak) rfl
    refine ⟨by rw [rec.seq, State.faulted, he]; rfl, by rw [rec.rd, State.faulted, he]; rfl, by rw [rec.tr]; exact still,
      by rw [rec.tr]; exact drive, by rw [rec.tr]; exact belt, rec.latched _ (latches_of_latched latched), ?_, ?_, ?_, ?_⟩
    · rw [rec.acc, State.faulted, he, ← p.acc]
      rfl
    · rw [rec.acc, State.faulted, he, ← p.acc]
      rfl
    · rw [rec.rel, State.faulted, he, ← p.rel]
      rfl
    · rw [rec.rel, State.faulted, he, ← p.rel]
      rfl
  · obtain ⟨enc, trk, col, command, ticks, slip, pins, tix⟩ := side (webBreakCheck e) (by
      cases level : s.pins.webBreakN with
      | true => exact .inl (high level)
      | false =>
        obtain ⟨r, fault, -⟩ := low level
        exact .inr ⟨r, fault⟩)
    exact ⟨rec.enc.trans enc, rec.trk.trans trk, rec.col.trans col, by rw [rec.tr, command], by rw [rec.tr, ticks],
      by rw [rec.tr, slip], rec.pins.trans pins, (congrArg TicketUnit.table (rec.tix.trans tix)).trans p.table,
      (congrArg TicketUnit.fetchIndex (rec.tix.trans tix)).trans p.fetchIndex⟩

/-- R36, R163: the state that CALIBRATE begins its sweep in. -/
theorem calibrateRun_eq (u : State) : ∃ e, calibrateRun u = webBreakCheck e ∧ e = { u with
    enc := { u.enc with highWater := u.enc.web }
    rd := { u.rd.clear with sweep :=
      { u.rd.sweep with state := .seeking, seekLimit := threeForms u, passMap := List.replicate 12 false } }
    seq := { u.seq with line := .calibrate, haltKind := .none }
    tr := { u.tr with command := u.enc.web, driveEnable := true, slipReported := false }
    rep := e.rep } :=
  ⟨_, rfl, changeLine_rest_only rfl _ _⟩

/-- Settles O48: the entry is `calibrateRun_eq`, and WEB_BREAK_N low takes the fault from there. -/
theorem calibrateStartsSweep : Obligations.CalibrateStartsSweep := by
  unfold Obligations.CalibrateStartsSweep
  intro s tag up idle
  obtain ⟨u, p, rec⟩ := commandWrites_accepted (code := 2) (c := .calibrate) (tag := tag) rfl up (by rw [idle]; rfl) rfl
  have done : exec (.calibrate tag) s = .next (commandWrites 2 tag s) := rfl
  obtain ⟨e, starts, he⟩ := calibrateRun_eq u
  rw [Command.effect, starts] at rec
  have forms : threeForms u = s.enc.web + BitVec.ofNat 32 (3 * s.setupN 9) := by
    rw [threeForms, p.enc, p.setupN (by decide)]
    rfl
  rw [p.enc, p.rd, p.seq, p.tr, forms] at he
  obtain ⟨high, low⟩ := webBreakCheck_cases (s := e) (by rw [he]; exact up) (by rw [he]; exact nofun)
  have pins : e.pins = s.pins := by rw [he]; exact p.pins
  have tix : e.tix = u.tix := by rw [he]
  rw [pins] at high low
  have side (w : State) (hw : w = e ∨ ∃ r, w = e.faulted .webBreak r) :
      w.enc = { s.enc with highWater := s.enc.web } ∧ w.rd.sweep = { s.rd.sweep with
          state := w.rd.sweep.state, passMap := List.replicate 12 false
          seekLimit := s.enc.web + BitVec.ofNat 32 (3 * s.setupN 9) } ∧
        w.rd.state = .hunt ∧ w.rd.darkRun = 0 ∧ w.rd.origin = s.rd.origin ∧ w.tr.command = s.enc.web ∧
        w.tr.slipReported = false ∧ w.pins = s.pins ∧ w.tix = u.tix := by
    obtain rfl | ⟨r, rfl⟩ := hw
    · refine ⟨?_, ?_, ?_, ?_, ?_, ?_, ?_, pins, tix⟩ <;> rw [he] <;> rfl
    · obtain ⟨-, slip⟩ := e.tr.faulted_reports .webBreak
      obtain ⟨-, -, -, command⟩ := e.tr.faulted_outputs .webBreak
      refine ⟨?_, ?_, ?_, ?_, ?_, command.trans ?_, slip.trans ?_, pins, tix⟩ <;> rw [he] <;> rfl
  refine ⟨_, done, fun webBreak => ?_, fun webBreak => ?_, ?_⟩
  · rw [high webBreak] at rec
    refine ⟨by rw [rec.seq, he], by rw [rec.rd, he], by rw [rec.tr, he], ?_⟩
    obtain ⟨trk, col, pln, acc, rel⟩ := p.path
    obtain ⟨trk', col', pln', acc', rel'⟩ := rec.path
    rw [he] at trk' col' pln' acc' rel'
    exact ⟨trk'.trans trk, col'.trans col, pln'.trans pln, acc'.trans acc, rel'.trans rel⟩
  · obtain ⟨r, fault, latched⟩ := low webBreak
    rw [fault] at rec
    obtain ⟨belt, -⟩ := e.tr.faulted_outputs .webBreak
    obtain ⟨still, drive⟩ := e.tr.faulted_immediate (f := .webBreak) rfl
    refine ⟨by rw [rec.seq, State.faulted, he]; rfl, by rw [rec.rd]; rfl, by rw [rec.tr]; exact still,
      by rw [rec.tr]; exact drive, by rw [rec.tr]; exact belt, rec.latched _ (latches_of_latched latched), ?_, ?_, ?_, ?_⟩
    · rw [rec.trk, State.faulted, he, ← p.trk]
      rfl
    · rw [rec.col, State.faulted, he, ← p.col]
    · rw [rec.acc, State.faulted, he, ← p.acc]
      rfl
    · rw [rec.rel, State.faulted, he, ← p.rel]
      rfl
  · obtain ⟨enc, sweep, state, dark, origin, command, slip, pins, tix⟩ := side (webBreakCheck e) (by
      cases level : s.pins.webBreakN with
      | true => exact .inl (high level)
      | false =>
        obtain ⟨r, fault, -⟩ := low level
        exact .inr ⟨r, fault⟩)
    refine ⟨rec.enc.trans enc, by rw [rec.rd, ← sweep], by rw [rec.rd, state], by rw [rec.rd, dark],
      by rw [rec.rd, origin], by rw [rec.tr, command], by rw [rec.tr, slip], rec.pins.trans pins,
      (congrArg TicketUnit.table (rec.tix.trans tix)).trans p.table⟩

/-! ### END and CLEAR -/

/-- R169: the entry into IDLE. -/
theorem enterIdle_eq (s : State) : enterIdle s = { s with
    pln := Planner.reset
    tr := (enterIdle s).tr
    enc := { s.enc with runContext := false }
    seq := { s.seq with line := .idle, haltKind := .none, stopPending := false, regLimit := none }
    rep := (enterIdle s).rep } ∧
    (enterIdle s).tr.state = .still ∧ (enterIdle s).tr.targetW = none ∧ (enterIdle s).tr.targetC = none ∧
    (enterIdle s).tr.driveEnable = false ∧ (enterIdle s).tr.beltRun = false ∧
    (enterIdle s).tr.command = s.tr.command := by
  rw [enterIdle, changeLine_rest_only rfl]
  split
  · next still => exact ⟨rfl, still, rfl, rfl, rfl, rfl, rfl⟩
  · exact ⟨rfl, rfl, rfl, rfl, rfl, rfl, rfl⟩

/-- R93, R175: a ticket on the path is abandoned with every ticket of its ring index. -/
theorem inPath_iff (k : Ticket) : k.inPath = true ↔ k.state = .collating ∨ k.state = .closed := by
  rw [Ticket.inPath, Bool.or_eq_true, decide_eq_true_eq, decide_eq_true_eq]

/-- R175: the sheet path emptied, with what it abandons. -/
theorem pathReset_eq (s : State) : pathReset s = { s with
    trk := Tracking.emptied, col := s.col.cleared, acc := Accumulator.emptied, rel := s.rel.emptied, rd := s.rd.clear
    tix := { s.tix with
      table := s.tix.table.map fun x =>
        if x.ring ∈ (s.tix.table.filter Ticket.inPath).map Ticket.ring then { x with state := .disposing } else x
      waiting := s.tix.waiting ++ (s.tix.table.filter Ticket.inPath).map fun x =>
        { ring := x.ring, serial := x.serial, outcome := .abandoned, count := x.assigned, reasons := x.reasons } }
    rep := (pathReset s).rep } := by
  rw [pathReset]
  dsimp only
  rw [abandonTickets_eq]
  rfl

/-- The table with the tickets on the path abandoned, as the spec names them. -/
theorem abandoned_table (l : List Ticket) :
    (l.map fun x => if x.ring ∈ (l.filter Ticket.inPath).map Ticket.ring then { x with state := TicketState.disposing } else x) =
      l.map fun k => if l.any (fun x => x.ring = k.ring ∧ (x.state = .collating ∨ x.state = .closed)) = true then
        { k with state := .disposing } else k := by
  refine List.map_congr_left fun k _ => ?_
  have same : k.ring ∈ (l.filter Ticket.inPath).map Ticket.ring ↔
      l.any (fun x => x.ring = k.ring ∧ (x.state = .collating ∨ x.state = .closed)) = true := by
    simp only [List.mem_map, List.mem_filter, inPath_iff, List.any_eq_true, decide_eq_true_eq]
    exact ⟨fun ⟨x, ⟨hx, path⟩, ring⟩ => ⟨x, hx, ring, path⟩, fun ⟨x, hx, ring, path⟩ => ⟨x, ⟨hx, path⟩, ring⟩⟩
  simp only [same]

/-- R175: the state in which the path reset has entered IDLE. -/
theorem enterIdle_pathReset (s : State) : ∃ e, e = enterIdle (pathReset s) ∧ e = { s with
      trk := Tracking.emptied, col := s.col.cleared, acc := Accumulator.emptied, rel := s.rel.emptied, rd := s.rd.clear
      tix := (pathReset s).tix, pln := Planner.reset, tr := e.tr, enc := { s.enc with runContext := false }
      seq := { s.seq with line := .idle, haltKind := .none, stopPending := false, regLimit := none }
      rep := e.rep } ∧
    e.tr.state = .still ∧ e.tr.targetW = none ∧ e.tr.targetC = none ∧ e.tr.driveEnable = false ∧
    e.tr.beltRun = false ∧ e.tr.command = s.tr.command := by
  obtain ⟨e, rest⟩ := enterIdle_eq (pathReset s)
  obtain ⟨r, hr⟩ : ∃ r, r = pathReset s := ⟨_, rfl⟩
  have reset := pathReset_eq s
  refine ⟨_, rfl, e.trans ?_, ?_⟩
  · rw [← hr] at reset ⊢
    generalize enterIdle r = x
    rw [reset]
  · obtain ⟨state, w, c, drive, belt, command⟩ := rest
    exact ⟨state, w, c, drive, belt, command.trans (by rw [reset])⟩

/-- Settles O51: the path reset is `pathReset_eq`, the entry into IDLE `enterIdle_eq`. -/
theorem endEmptiesSheetPath : Obligations.EndEmptiesSheetPath := by
  unfold Obligations.EndEmptiesSheetPath
  intro s tag up halted hold folding exits
  have passes : Command.endRun.check s = none := by
    have dry : draining s = false := by
      rw [Bool.eq_false_iff, Ne, draining_iff, folding]
      rintro (full | piece | list)
      · exact full hold
      · cases piece
      · exact list exits
    rw [Command.check, dry]
    rfl
  obtain ⟨u, p, rec⟩ := commandWrites_accepted (code := 6) (tag := tag) rfl up (by rw [halted]; rfl) passes
  have done : exec (.endRun tag) s = .next (commandWrites 6 tag s) := rfl
  obtain ⟨e, ends, he, state, targetW, targetC, drive, belt, command⟩ := enterIdle_pathReset u
  rw [Command.effect, endTheRun, ← ends] at rec
  have tix : e.tix = (pathReset u).tix := by rw [he]
  rw [pathReset_eq] at tix
  dsimp only at tix
  rw [abandoned_table, p.table, p.waiting] at tix
  refine ⟨_, done, ?_⟩
  simp only [rec.seq, rec.trk, rec.col, rec.acc, rec.rel, rec.pln, rec.tr, rec.enc, rec.tix, rec.pins, tix, state, targetW,
    targetC, drive, belt, command, p.tr]
  rw [he]
  refine ⟨by rw [p.seq], rfl, rfl, rfl, rfl, rfl, by rw [p.col]; rfl, rfl, rfl, rfl, rfl, rfl, rfl, rfl, rfl, rfl, rfl, rfl,
    rfl, rfl, rfl, by rw [p.rel]; rfl, rfl, trivial, trivial, trivial, trivial, trivial, trivial, by rw [p.enc], trivial, ?_,
    p.retired, p.pins⟩
  congr 2
  refine List.filter_congr fun k _ => ?_
  rw [Bool.eq_iff_iff, inPath_iff, decide_eq_true_iff]

/-- Settles O52: as END, and ESTOP_N low takes the fault again. -/
theorem clearLeavesFault : Obligations.ClearLeavesFault := by
  unfold Obligations.ClearLeavesFault
  intro s tag up fault still
  have passes : Command.clear.check s = none := by rw [Command.check, if_neg (not_not.mpr still)]
  obtain ⟨u, p, rec⟩ := commandWrites_accepted (code := 7) (tag := tag) rfl up (by rw [fault]; rfl) passes
  have done : exec (.clear tag) s = .next (commandWrites 7 tag s) := rfl
  obtain ⟨c, hc⟩ : ∃ c, c = clearFaults u ∧ c = { u with
    seq := { u.seq with firstFault := .none, added := 0 }, rep := c.rep } := ⟨_, rfl, rfl⟩
  obtain ⟨e, idles, he, state, -, -, drive, belt, command⟩ := enterIdle_pathReset c
  rw [Command.effect, clearLine, ← hc.1, ← idles] at rec
  have table : ∀ k ∈ e.tix.table, k.state ≠ .collating ∧ k.state ≠ .closed := by
    have tix : e.tix = (pathReset c).tix := by rw [he]
    rw [tix, pathReset_eq]
    intro k hk
    obtain ⟨x, hx, rfl⟩ := List.mem_map.mp hk
    split
    · exact ⟨nofun, nofun⟩
    · next off =>
      have live : ¬ (x.inPath = true) := fun path => off (List.mem_map_of_mem (List.mem_filter.mpr ⟨hx, path⟩))
      rwa [inPath_iff, not_or] at live
  have side (w : State) (hw : w = e ∨ ∃ r, w = e.faulted .estop r) :
      w.tr.state = .still ∧ w.tr.beltRun = false ∧ w.trk.queue = [] ∧ w.trk.registered = false ∧ w.trk.runout = false ∧
        w.acc.state = .empty ∧ w.rel.hold = .empty ∧ w.rel.folding = false ∧ w.rel.exitList = [] ∧
        w.rel.divert = s.rel.divert ∧ w.tr.driveEnable = false ∧ w.tr.command = s.tr.command ∧
        w.enc = { s.enc with runContext := false } ∧ w.tix = e.tix ∧ w.pins = s.pins := by
    have pins : e.pins = s.pins := by rw [he, hc.2, p.pins]
    have divert : e.rel.divert = s.rel.divert := by rw [he, hc.2, ← p.rel]; rfl
    have enc : e.enc = { s.enc with runContext := false } := by rw [he, hc.2, p.enc]
    have moved : e.tr.command = s.tr.command := by rw [command, hc.2, p.tr]
    obtain rfl | ⟨r, rfl⟩ := hw
    · refine ⟨state, belt, ?_, ?_, ?_, ?_, ?_, ?_, ?_, divert, drive, moved, enc, rfl, pins⟩ <;> rw [he] <;> rfl
    · obtain ⟨belt', -, -, command'⟩ := e.tr.faulted_outputs .estop
      obtain ⟨still', drive'⟩ := e.tr.faulted_immediate (f := .estop) rfl
      refine ⟨still', belt', ?_, ?_, ?_, ?_, ?_, ?_, ?_, divert, drive', command'.trans moved, enc, rfl, pins⟩ <;>
        rw [he] <;> rfl
  have seq : e.seq = { s.seq with
      line := .idle, haltKind := .none, stopPending := false, regLimit := none, firstFault := .none, added := 0 } := by
    rw [he, hc.2, p.seq]
  have pins : e.pins = s.pins := by rw [he, hc.2, p.pins]
  have which : (s.pins.estopN = true → estopCheck e = e) ∧ (s.pins.estopN = false → ∃ r : Reporter,
      estopCheck e = e.faulted .estop r ∧ r.latched = e.rep.latched ||| Cause.fault.bit) := by
    have away : e.seq.line ≠ .fault := by rw [seq]; exact nofun
    have up' : e.seq.startupComplete = true := by rw [seq]; exact up
    obtain ⟨same, level⟩ | ⟨level, -, takes⟩ := estopCheck_cases e up'
    · rw [pins] at level
      refine ⟨fun _ => same, fun low => ?_⟩
      rw [low] at level
      exact absurd (level.resolve_left Bool.false_ne_true) away
    · rw [pins] at level
      refine ⟨fun high => ?_, fun _ => ?_⟩
      · rw [level] at high
        cases high
      · obtain ⟨r, first, latched, -⟩ := takeFault_first .estop false 0 up' away
        exact ⟨r, takes.trans first, latched⟩
  obtain ⟨high, low⟩ := which
  obtain ⟨still', belt', queue, registered, runout, acc, hold, folding, exits, divert, drive', moved, enc, tix, pins'⟩ :=
    side (estopCheck e) (by
      cases level : s.pins.estopN with
      | true => exact .inl (high level)
      | false =>
        obtain ⟨r, first, -⟩ := low level
        exact .inr ⟨r, first⟩)
  refine ⟨_, done, fun level => ?_, fun level => ?_, ?_⟩
  · rw [rec.seq, high level, seq]
  · obtain ⟨r, first, latched⟩ := low level
    rw [first] at rec
    refine ⟨rec.latched _ (latches_of_latched latched), ?_⟩
    rw [rec.seq, State.faulted, seq]
    rfl
  · rw [rec.tr, rec.trk, rec.acc, rec.rel, rec.enc, rec.tix, rec.pins, tix]
    exact ⟨still', belt', queue, registered, runout, acc, hold, folding, exits, divert, drive', moved, enc, table, pins'⟩

/-! ### What a refresh names (R95 to R98) -/

theorem parkTest_only (s : State) : parkTest s = { s with
    pln := { s.pln with holdReason := (parkTest s).pln.holdReason }, rep := (parkTest s).rep } := by
  rw [parkTest]
  dsimp only
  rw [holdReasonTest_only]
  split <;> rfl

theorem haltComplete_only (s : State) : haltComplete s = { s with
    seq := { s.seq with line := .halted }, rel := (haltComplete s).rel, rep := (haltComplete s).rep } := by
  obtain ⟨u, e, hu⟩ : ∃ u, haltComplete s = latch .halted u ∧ u = changeLine .halted s.seq.haltKind s := ⟨_, rfl, rfl⟩
  rw [changeLine_only] at hu
  rw [e, hu]
  rfl

/-- R104, R112: what a met target changes besides the transport: the parked flag, the hold reason, and a halt that
completes. -/
theorem reportMet_only (s : State) : reportMet s = { s with
    tr := { s.tr with metTold := true }
    pln := { s.pln with parked := true, holdReason := (reportMet s).pln.holdReason }
    seq := { s.seq with line := if s.pln.cause.halts = true ∧ s.seq.line = .halting then .halted else s.seq.line }
    rel := (reportMet s).rel, rep := (reportMet s).rep } := by
  obtain ⟨v, hv⟩ : ∃ v : State, v = { s with
      tr := { s.tr with metTold := true }, pln := { s.pln with parked := true } } := ⟨_, rfl⟩
  obtain ⟨w, hw, w_only⟩ : ∃ w, w = (if v.pln.cause.halts && decide (v.seq.line = .halting) then haltComplete v else v) ∧
      w = { v with
        seq := { v.seq with line := if v.pln.cause.halts = true ∧ v.seq.line = .halting then .halted else v.seq.line }
        rel := w.rel, rep := w.rep } := by
    refine ⟨_, rfl, ?_⟩
    by_cases halts : v.pln.cause.halts = true ∧ v.seq.line = .halting
    · rw [if_pos (by rw [halts.1, halts.2]; rfl), if_pos halts]
      exact haltComplete_only v
    · rw [if_neg (by rwa [Bool.and_eq_true, decide_eq_true_eq]), if_neg halts]
  have e : reportMet s = if s.pln.parked then w else parkTest w := by rw [hw, hv]; rfl
  rw [e]
  split
  · rw [w_only, hv]
  · rw [parkTest_only, w_only, hv]

theorem targetMet_only (s : State) : targetMet s = { s with
    tr := (targetMet s).tr
    pln := { s.pln with parked := (targetMet s).pln.parked, holdReason := (targetMet s).pln.holdReason }
    seq := { s.seq with line := if s.tr.targetW = s.pln.stop ∧ s.pln.cause.halts = true ∧ s.seq.line = .halting
      then .halted else s.seq.line }
    rel := (targetMet s).rel, rep := (targetMet s).rep } ∧
    (targetMet s).tr.state = .still ∧ (targetMet s).tr.speed = 0 ∧ (targetMet s).tr.remainder = 0 ∧
    (targetMet s).tr.due = s.tr.emitted := by
  obtain ⟨v, hv⟩ : ∃ v : State, v = hand [0] s { s with
      tr := { s.tr with state := .still, speed := 0, remainder := 0, due := s.tr.emitted } } := ⟨_, rfl⟩
  have e : targetMet s = if s.tr.targetW = s.pln.stop then reportMet v else v := by rw [hv]; rfl
  rw [e]
  split
  · next same =>
    rw [reportMet_only, hv]
    refine ⟨?_, rfl, rfl, rfl, rfl⟩
    simp only [same, true_and]
    rfl
  · next other =>
    rw [hv]
    refine ⟨?_, rfl, rfl, rfl, rfl⟩
    simp only [other, false_and, if_false]
    rfl

theorem takeTarget_only (old new : Option Word) (s : State) : takeTarget old new s = { s with
    tr := (takeTarget old new s).tr
    pln := { s.pln with parked := (takeTarget old new s).pln.parked, holdReason := (takeTarget old new s).pln.holdReason }
    seq := { s.seq with line := (takeTarget old new s).seq.line }
    rel := (takeTarget old new s).rel, rep := (takeTarget old new s).rep } := by
  obtain ⟨e, -⟩ | ⟨t, -, -, -, ⟨-, e⟩ | ⟨-, e⟩⟩ := takeTarget_cases old new s <;> rw [e]
  rw [(targetMet_only _).1]

theorem retell_only (cause : StopCause) (s : State) : retell cause s = { s with tr := (retell cause s).tr } := by
  obtain ⟨e, -⟩ | ⟨e, -⟩ := retell_cases cause s <;> rw [e]

/-- R95 to R98: a refresh leaves the planner as the rules name it, the parked flag and the hold reason aside. -/
theorem refreshOnce_only {s : State} (running : s.seq.line.running = true) : refreshOnce s = { s with
    tr := (refreshOnce s).tr
    pln := { planNow s with parked := (refreshOnce s).pln.parked, holdReason := (refreshOnce s).pln.holdReason }
    seq := { s.seq with line := (refreshOnce s).seq.line }
    rel := (refreshOnce s).rel, rep := (refreshOnce s).rep } := by
  obtain ⟨v, hv⟩ : ∃ v, v = (retell (planNow s).cause s).setPlanner (planNow s) := ⟨_, rfl⟩
  have e : refreshOnce s = if (planNow s).stop = s.pln.stop then v else takeTarget s.pln.stop (planNow s).stop v := by
    rw [refreshOnce, if_pos running, hv]
  rw [retell_only] at hv
  rw [e]
  split
  · rw [hv]
    rfl
  · rw [takeTarget_only, hv]
    rfl

theorem refreshOnce_trk (s : State) : (refreshOnce s).trk = s.trk := by
  cases running : s.seq.line.running with
  | true => rw [refreshOnce_only running]
  | false => rw [refreshOnce, running, if_neg Bool.false_ne_true]

theorem refresh_trk (s : State) : (refresh s).trk = s.trk := (refreshOnce_trk _).trans (refreshOnce_trk s)

/-! ### The halt requests of software -/

theorem candidate_iff (r : Sheet) : (r.pauseCandidate = true ↔
    (r.stage = .readOpen ∨ r.stage = .readDone) ∧ ∀ k, r.assignment = some k → k.position = 1) ∧
    (r.stopCandidate = true ↔ r.stage = .readDone) := by
  refine ⟨?_, by rw [Sheet.stopCandidate, decide_eq_true_iff]⟩
  rw [Sheet.pauseCandidate, Sheet.unfired, Sheet.beginsSet.eq_def]
  cases r.assignment <;> simp

/-- R13, R14: what a halt may still reach, as the spec says it. -/
theorem reachable_park (r : Sheet) (s : State) : reachable (s.park r) s =
    decide ((stopDistance s.tr.speed (s.setupN 19) : Int) ≤
      signedDiff (r.anchor + s.setup 13 - s.setup 14 + (s.tr.command - s.enc.web)) s.tr.command) := rfl

/-- R100, R102: the choice a halt request makes. -/
theorem choosing_eq {p : Sheet → Bool} {q : List Sheet} {s : State} {pln : Planner} {x : Option Sheet}
    (hx : x = q.find? fun r => p r && reachable (s.park r) s) : pln.choosing (q.filter p) s = { pln with
      haltSheet := x.elim .awaiting fun r => .sheet r.anchor, haltTarget := x.map s.park } := by
  have first : (q.filter p).find? (fun r => reachable (s.park r) s) = x := by
    rw [hx, List.find?_filter]
    congr 1
    funext r
    rw [Bool.eq_iff_iff, decide_eq_true_iff, Bool.and_eq_true]
  rw [Planner.choosing, first]

/-- R164, R165: PAUSE and STOP in RUN, by the candidates of their kind. -/
theorem haltCommand_halts {code : BitVec 8} {c : Command} {kind : HaltKind} {tag : Index} {s : State} {p : Sheet → Bool}
    {x : Option Sheet} (named : commandOf code = some c) (up : s.seq.startupComplete = true) (run : s.seq.line = .run)
    (admitted : c.admitted s.seq.line = true) (passes : c.check s = none)
    (effect : ∀ u : State, u.seq.line = .run → c.effect u = enterHalting kind u)
    (candidates : ∀ q, kind.candidates q = q.filter p)
    (hx : x = s.trk.queue.find? (fun r => p r && decide ((stopDistance s.tr.speed (s.setupN 19) : Int) ≤
      signedDiff (r.anchor + s.setup 13 - s.setup 14 + (s.tr.command - s.enc.web)) s.tr.command))) :
    ∃ t, commandWrites code tag s = t ∧ (t.seq.line = .halting ∨ t.seq.line = .halted) ∧ t.seq.haltKind = kind ∧
      (s.pln.haltKind ≠ .runout → t.pln.haltKind = kind ∧
        t.pln.haltSheet = x.elim .awaiting (fun r => .sheet r.anchor) ∧
        t.pln.haltTarget = x.map (fun r => r.anchor + s.setup 13 - s.setup 14)) ∧
      (s.pln.haltKind = .runout → t.pln.haltKind = .runout ∧ t.pln.haltSheet = s.pln.haltSheet ∧
        t.pln.haltTarget = s.pln.haltTarget) ∧
      t.seq.outcome = some { code := code, tag := tag, refusal := none } ∧ t.enc = s.enc ∧ t.rd = s.rd ∧
      t.tr.command = s.tr.command ∧ t.pins = s.pins ∧
      t.tix.table.map Ticket.fetched = s.tix.table.map Ticket.fetched := by
  obtain ⟨u, pre, rec⟩ := commandWrites_accepted (tag := tag) named up admitted passes
  obtain ⟨w, halts, hw⟩ := enterHalting_only kind u
  rw [effect u (by rw [pre.seq, run]), halts] at rec
  have nip := settleEnd_nipped u w
  have frame := nip.frame
  have anchors : u.setup 13 = s.setup 13 ∧ u.setup 14 = s.setup 14 := ⟨pre.setup 13 (by decide), pre.setup 14 (by decide)⟩
  have chosen : x = u.trk.queue.find? fun r => p r && reachable (u.park r) u := by
    simp only [reachable_park, anchors, pre.setupN (show 19 ≠ 0 by decide), pre.tr, pre.enc, pre.trk]
    exact hx
  have halting : w.seq.line = .halting := by rw [hw]
  have pln : w.pln = if s.pln.haltKind = .runout then s.pln else { s.pln with
      haltKind := kind, haltSheet := x.elim .awaiting (fun r => .sheet r.anchor), haltTarget := x.map u.park } := by
    rw [hw]
    dsimp only
    rw [pre.pln, candidates, choosing_eq chosen]
  refine ⟨_, rfl, ?_, ?_, fun other => ?_, fun stands => ?_, ?_, ?_, ?_, ?_, ?_, ?_⟩
  · rw [rec.seq]
    exact nip.halts halting
  · rw [rec.seq, frame.seq, hw]
  · rw [if_neg other] at pln
    rw [rec.pln, frame.haltKind, frame.haltSheet, frame.haltTarget, pln]
    refine ⟨rfl, rfl, ?_⟩
    change x.map u.park = _
    congr 1
    funext r
    rw [State.park, State.burstPoint, anchors.1, anchors.2]
  · rw [if_pos stands] at pln
    rw [rec.pln, frame.haltKind, frame.haltSheet, frame.haltTarget, pln]
    exact ⟨stands, rfl, rfl⟩
  · rw [rec.seq]
  · rw [rec.enc, frame.enc, hw, pre.enc]
  · rw [rec.rd, frame.rd, hw, pre.rd]
  · rw [rec.tr, frame.command, hw, pre.tr]
  · rw [rec.pins, frame.pins, hw, pre.pins]
  · rw [rec.tix, frame.table, hw, pre.table]

/-- Settles O49: `haltCommand_halts` for PAUSE and STOP in RUN; STOP in REGISTER changes the two flags. -/
theorem pauseAndStopHaltRun : Obligations.PauseAndStopHaltRun := by
  unfold Obligations.PauseAndStopHaltRun
  refine fun s tag up => ⟨fun i code kind candidate x run which hx => ?_, fun register fresh => ?_⟩
  · have same {f : Sheet → Bool} {q : Sheet → Prop} (hc : ∀ r, candidate r = true ↔ q r) (hf : ∀ r, f r = true ↔ q r) :
        candidate = f := funext fun r => Bool.eq_iff_iff.mpr ((hc r).trans (hf r).symm)
    obtain ⟨rfl, rfl, rfl, hc⟩ | ⟨rfl, rfl, rfl, hc⟩ := which
    · rw [same hc fun r => (candidate_iff r).1] at hx
      obtain ⟨t, e, does⟩ := haltCommand_halts (code := 3) (c := .pause) (kind := .pause) (tag := tag) rfl up run
        (by rw [run]; rfl) rfl (fun _ _ => rfl) (fun _ => rfl) hx
      exact ⟨t, congrArg Host.Outcome.next e, does⟩
    · rw [same hc fun r => (candidate_iff r).2] at hx
      obtain ⟨t, e, does⟩ := haltCommand_halts (code := 4) (c := .stop) (kind := .stop) (tag := tag) rfl up run
        (by rw [run]; rfl) (by rw [Command.check, run]; rfl)
        (fun u hu => by rw [Command.effect, stopRun, hu, if_neg nofun]) (fun _ => rfl) hx
      exact ⟨t, congrArg Host.Outcome.next e, does⟩
  · obtain ⟨u, p, rec⟩ := commandWrites_accepted (code := 4) (c := .stop) (tag := tag) rfl up (by rw [register]; rfl)
      (by rw [Command.check, register, fresh]; rfl)
    have effect : Command.stop.effect u = stopRegister u := by
      rw [Command.effect, stopRun, if_pos (by rw [p.seq, register])]
    rw [effect] at rec
    obtain ⟨trk, col, pln, acc, rel⟩ := p.path
    obtain ⟨trk', col', pln', acc', rel'⟩ := rec.path
    exact ⟨_, rfl, by rw [rec.seq, stopRegister, p.seq], by rw [rec.rd, stopRegister, p.rd], rec.enc.trans p.enc,
      rec.tr.trans p.tr, ⟨trk'.trans trk, col'.trans col, pln'.trans pln, acc'.trans acc, rel'.trans rel⟩,
      rec.pins.trans p.pins, (congrArg TicketUnit.table rec.tix).trans p.table⟩

/-! ### What the collator's work leaves

The collator's decisions (R78 to R88) change the collator, the tickets, the pockets, the assignments and set-end marks of
the records, and in HALTING the halt sheet; only a foreign tag does more: it takes FOREIGN_SHEET. -/

/-- All of a state but what the collator changes. -/
structure OffDesk where
  pins : Pins
  enc : Encoder
  rd : Reader
  path : MemoryPath
  port : PortAnswer
  mem : Memory
  pending : List Instr
  tr : Transport
  seq : Sequencer
  trk : Tracking
  pln : Planner
  latched : BitVec 8

/-- The part of a state that the collator leaves alone. -/
def State.offDesk (s : State) : OffDesk :=
  { pins := s.pins, enc := s.enc, rd := s.rd, path := s.path, port := s.port, mem := s.mem, pending := s.pending
    tr := s.tr, seq := s.seq, trk := { s.trk with queue := [] }
    pln := { s.pln with haltSheet := .none, haltTarget := none }, latched := s.rep.latched }

/-- What the collator may write into the records: their assignments and set-end marks. -/
def desked (f : Sheet → Sheet) : Prop := ∀ r, f r = { r with assignment := (f r).assignment, setEnd := (f r).setEnd }

theorem desked.comp {f g : Sheet → Sheet} (hf : desked f) (hg : desked g) : desked (g ∘ f) := by
  intro r
  refine (hg (f r)).trans ?_
  rw [Function.comp]
  generalize g (f r) = x
  rw [hf r]

/-- What the collator's decisions may do from `s` to `t`, a foreign tag aside. -/
structure Desked (s t : State) : Prop where
  rest : t.offDesk = s.offDesk
  queue : ∃ f, t.trk.queue = s.trk.queue.map f ∧ desked f
  pln : s.seq.line ≠ .halting → t.pln = s.pln

namespace Desked

variable {s t u : State}

theorem seq (h : Desked s t) : t.seq = s.seq := congrArg OffDesk.seq h.rest

theorem trans (h : Desked s t) (k : Desked t u) : Desked s u := by
  obtain ⟨f, hq, hf⟩ := h.queue
  obtain ⟨g, kq, hg⟩ := k.queue
  exact ⟨k.rest.trans h.rest, ⟨g ∘ f, by rw [kq, hq, List.map_map], hf.comp hg⟩,
    fun other => (k.pln (by rwa [h.seq])).trans (h.pln other)⟩

theorem after (k : Desked t u) (h : Desked s t) : Desked s u := h.trans k

/-- A step of the collator, the tickets and the pockets alone. -/
theorem plain (rest : t.offDesk = s.offDesk) (queue : t.trk.queue = s.trk.queue) (pln : t.pln = s.pln) : Desked s t :=
  ⟨rest, ⟨id, by rw [queue, List.map_id], fun _ => rfl⟩, fun _ => pln⟩

theorem refl (s : State) : Desked s s := .plain rfl rfl rfl

/-- A step of the pockets. -/
theorem ofPockets (h : t.offPockets = s.offPockets) (latched : t.rep.latched = s.rep.latched) : Desked s t := by
  have kept {α : Type} (f : OffPockets → α) : f t.offPockets = f s.offPockets := congrArg f h
  have pins : t.pins = s.pins := kept OffPockets.pins
  have enc : t.enc = s.enc := kept OffPockets.enc
  have rd : t.rd = s.rd := kept OffPockets.rd
  have trk : t.trk = s.trk := kept OffPockets.trk
  have pln : t.pln = s.pln := kept OffPockets.pln
  have tr : t.tr = s.tr := kept OffPockets.tr
  have seq : t.seq = s.seq := kept OffPockets.seq
  have path : t.path = s.path := kept OffPockets.path
  have port : t.port = s.port := kept OffPockets.port
  have mem : t.mem = s.mem := kept OffPockets.mem
  have pending : t.pending = s.pending := kept OffPockets.pending
  refine .plain ?_ (by rw [trk]) pln
  simp only [State.offDesk, pins, enc, rd, trk, pln, tr, seq, path, port, mem, pending, latched]

theorem ofOffer (e : Event) (s : State) : Desked s (offer e s) :=
  .ofPockets (offer_offPockets e s) (offer_latched e s)

end Desked

/-! ### The pockets' part -/

theorem endJog_latched (s : State) : (endJog s).rep.latched = s.rep.latched := by
  have placed (u : State) : (placeSet u).rep.latched = u.rep.latched := by
    rw [placeSet]
    split <;> rfl
  rw [endJog, placed]
  obtain e | ⟨r, -, -, e⟩ := heightCheck_cases { s with acc := { s.acc with jog := false, jogTimer := Timer.stopped } } <;>
    rw [e]

theorem closeRequest_desked (n : Index) (s : State) : Desked s (closeRequest n s) := by
  have closed (u : State) : (closeSet u).rep.latched = u.rep.latched := by
    rw [closeSet]
    dsimp only
    split
    · exact (endJog_latched _).trans rfl
    · rfl
  rw [closeRequest]
  split
  · exact .ofPockets (closeSet_offPockets s) (closed s)
  · exact .refl s

theorem addTicketReason_desked (ring : Index) (reason : Reason) (s : State) :
    Desked s (addTicketReason ring reason s) := by
  refine .ofPockets (addTicketReason_offPockets ring reason s) ?_
  rw [addTicketReason, holdReasonFor]
  split
  · exact (releaseTest_snapshot _).2.2.trans rfl
  · rfl

/-! ### Assignments and set ends -/

theorem editSheet_desked (s : State) (a : Word) {f : Sheet → Sheet} (hf : desked f) : Desked s (s.editSheet a f) := by
  refine ⟨rfl, ⟨_, rfl, fun r => ?_⟩, fun _ => rfl⟩
  split
  · exact hf r
  · rfl

theorem chooseHalt_desked (c : List Sheet) {s : State} (halting : s.seq.line = .halting) : Desked s (chooseHalt c s) := by
  rw [chooseHalt_only]
  exact ⟨rfl, ⟨id, (List.map_id _).symm, fun _ => rfl⟩, fun other => absurd halting other⟩

theorem haltAtAssignment_desked (a : Word) (p : Nat) (s : State) : Desked s (haltAtAssignment a p s) := by
  rw [haltAtAssignment]
  split
  · next h => exact chooseHalt_desked _ (of_decide_eq_true h.1)
  · exact .refl s

theorem haltAtSettle_desked (a : Word) (s : State) : Desked s (haltAtSettle a s) := by
  rw [haltAtSettle]
  split
  · next h =>
    split
    · exact chooseHalt_desked _ (of_decide_eq_true h.1)
    · exact .refl s
  · exact .refl s

theorem assign_desked (a : Word) (x : Assignment) (e : Bool) (s : State) : Desked s (assign a x e s) :=
  (haltAtAssignment_desked _ _ _).after (editSheet_desked s a fun _ => rfl)

theorem endSetAt_desked (o : OpenSet) (s : State) : Desked s (endSetAt o s) := by
  rw [endSetAt]
  split
  · exact editSheet_desked s _ fun _ => rfl
  · exact closeRequest_desked _ _

theorem forgetOpen_desked (s : State) : Desked s (forgetOpen s) := .plain rfl rfl rfl

theorem editTicket_desked (s : State) (ring : Index) (f : Ticket → Ticket) : Desked s (s.editTicket ring f) :=
  .plain rfl rfl rfl

theorem endPurgeSet_desked (s : State) : Desked s (endPurgeSet s) := by
  rw [endPurgeSet]
  split
  · split
    · exact (forgetOpen_desked _).after (endSetAt_desked _ _)
    · exact .refl s
  · exact .refl s

theorem endTicketSet_desked (ring : Index) (s : State) : Desked s (endTicketSet ring s) := by
  rw [endTicketSet]
  split
  · split
    · exact (forgetOpen_desked _).after (endSetAt_desked _ _)
    · exact .refl s
  · exact .refl s

/-! ### Pieces -/

theorem makeDisposition_desked (o : PieceOutcome) (t : Ticket) (s : State) : Desked s (makeDisposition o t s) :=
  .plain rfl rfl rfl

theorem disposeIfFinal_desked (ring : Index) (s : State) : Desked s (disposeIfFinal ring s) := by
  obtain e | ⟨o, t, e⟩ := disposeIfFinal_cases ring s <;> rw [e]
  · exact .refl s
  · exact makeDisposition_desked _ _ s

theorem closePiece_desked (ring : Index) (s : State) : Desked s (closePiece ring s) :=
  (disposeIfFinal_desked _ _).after
    (((addTicketReason_desked _ _ s).trans (endTicketSet_desked _ _)).trans (editTicket_desked _ _ _))

theorem closeCollating_desked (s : State) : Desked s (closeCollating s) := by
  rw [closeCollating]
  split
  · exact .refl s
  · exact closePiece_desked _ _

theorem openFor_desked (ring : Index) (s : State) : Desked s (openFor ring s) := by
  rw [openFor]
  split
  · exact .refl s
  · exact (endPurgeSet_desked s).trans (.plain rfl rfl rfl)

theorem joinTicket_desked (ring : Index) (a : Word) (lastFlag : Bool) (s : State) :
    Desked s (joinTicket ring a lastFlag s) := by
  have opened := openFor_desked ring s
  rw [joinTicket]
  dsimp only
  split
  · split
    · exact (addTicketReason_desked _ _ _).after ((assign_desked _ _ _ _).after (opened.trans (.plain rfl rfl rfl)))
    · exact (assign_desked _ _ _ _).after (opened.trans (.plain rfl rfl rfl))
  · exact opened

theorem openPurge_desked (s : State) : Desked s (openPurge s) := by
  rw [openPurge]
  split
  · exact .refl s
  · exact .plain rfl rfl rfl

theorem joinPurge_desked (a : Word) (s : State) : Desked s (joinPurge a s) := by
  rw [joinPurge]
  dsimp only
  split
  · exact openPurge_desked s
  · exact (assign_desked _ _ _ _).after ((openPurge_desked s).trans (.plain rfl rfl rfl))

theorem orphanSheet_desked (a : Word) (s : State) : Desked s (orphanSheet a s) :=
  (closeCollating_desked s).trans (joinPurge_desked _ _)

theorem checkSheet_desked (t : Ticket) (f : Frame) (s : State) : Desked s (checkSheet t f s) := by
  have index : Desked s (if f.index.toNat = t.expected then s else addTicketReason t.ring .sequence s) := by
    split
    · exact .refl s
    · exact addTicketReason_desked _ _ _
  have checked := index.trans (editTicket_desked _ t.ring fun x => { x with expected := f.index.toNat + 1 })
  rw [checkSheet]
  split
  · exact checked
  · exact checked.trans (addTicketReason_desked _ _ _)

theorem decideCurrent_desked (t : Ticket) (a : Word) (f : Frame) (s : State) : Desked s (decideCurrent t a f s) :=
  (checkSheet_desked t f s).trans (joinTicket_desked _ _ _ _)

theorem passOver_desked (ring : Index) (s : State) : Desked s (passOver ring s) := by
  rw [passOver]
  generalize (s.tix.table.takeWhile fun t => t.ring ≠ ring).filter (fun t => t.state = .waiting) = l
  induction l generalizing s with
  | nil => exact .refl s
  | cons t l ih => exact (makeDisposition_desked _ t s).trans (ih _)

theorem stallAt_desked (a : Word) (x : Serial) (s : State) : Desked s (stallAt a x s) := by
  rw [stallAt]
  split
  · exact .refl s
  · exact (Desked.ofOffer _ _).after (.plain rfl rfl rfl)

theorem setPending_desked (p : Option Word) (s : State) : Desked s (setPending p s) := .plain rfl rfl rfl

theorem pendingJoins_desked (t : Ticket) (p : Word) (s : State) : Desked s (pendingJoins t p s) :=
  (addTicketReason_desked _ _ _).after (((passOver_desked _ s).trans (joinTicket_desked _ _ _ _)).trans
    (editTicket_desked _ _ _))

theorem decidePending_desked (f : Frame) (s : State) : Desked s (decidePending f s) := by
  rw [decidePending]
  split
  · exact .refl s
  · split
    · exact .refl s
    · split
      · exact (setPending_desked none s).trans (pendingJoins_desked _ _ _)
      · exact (setPending_desked none s).trans (joinPurge_desked _ _)

theorem unreadJoins_desked (t : Ticket) (a : Word) (s : State) : Desked s (unreadJoins t a s) :=
  (addTicketReason_desked _ _ _).after ((joinTicket_desked _ _ _ s).trans (editTicket_desked _ _ _))

theorem decideUnread_desked (a : Word) (s : State) : Desked s (decideUnread a s) := by
  rw [decideUnread]
  split
  · exact unreadJoins_desked _ _ _
  · split
    · exact (joinPurge_desked _ s).trans (setPending_desked _ _)
    · exact setPending_desked _ _

theorem advanceCursor_desked (a : Word) (s : State) : Desked s (advanceCursor a s) := .plain rfl rfl rfl

/-! ### The decisions, a foreign tag among them -/

/-- R78, R92: what the collator may do: its decisions, and then FOREIGN_SHEET at most, after which it keeps what it has. -/
inductive Collated (s t : State) : Prop where
  | decided (h : Desked s t)
  | foreign (u : State) (r : Reporter) (h : Desked s u) (line : s.seq.line ≠ .fault)
      (faulted : t = u.faulted .foreignSheet r) (latched : r.latched = s.rep.latched ||| Cause.fault.bit)

theorem Collated.after {s t u : State} (k : Collated t u) (h : Desked s t) : Collated s u := by
  obtain d | ⟨v, r, d, line, e, latched⟩ := k
  · exact .decided (h.trans d)
  · exact .foreign v r (h.trans d) (by rwa [← h.seq]) e
      (by rw [latched, show t.rep.latched = s.rep.latched from congrArg OffDesk.latched h.rest])

/-- The line is in FAULT after it, or as it was. -/
theorem Collated.line {s t : State} (h : Collated s t) : t.seq = s.seq ∨
    t.seq = s.seq.faulted .foreignSheet := by
  obtain d | ⟨u, r, d, -, rfl, -⟩ := h
  · exact .inl d.seq
  · exact .inr (by rw [State.faulted, d.seq])

theorem takeFault_foreign (detail : Word) {s : State} (line : s.seq.line ≠ .fault) :
    Collated s (takeFault .foreignSheet false detail s) := by
  by_cases up : s.seq.startupComplete = true
  · obtain ⟨r, e, latched, -⟩ := takeFault_first .foreignSheet false detail up line
    exact .foreign s r (.refl s) line e latched
  · rw [takeFault, Bool.eq_false_iff.mpr up]
    exact .decided (.refl s)

theorem acts_not_fault {s : State} (acts : collatorActs s.seq.line = true) : s.seq.line ≠ .fault := by
  intro fault
  rw [fault] at acts
  cases acts

/-- R78: one frame decided; where the collator goes on, no fault was taken. -/
theorem decideFrame_collated (a : Word) (f : Frame) {s : State} (line : s.seq.line ≠ .fault) :
    Collated s (decideFrame a f s).1 ∧ ((decideFrame a f s).2 = true → Desked s (decideFrame a f s).1) := by
  have goes {x : State × Bool} (h : Desked s x.1) : Collated s x.1 ∧ (x.2 = true → Desked s x.1) := ⟨.decided h, fun _ => h⟩
  rw [decideFrame]
  split
  · exact goes (orphanSheet_desked _ s)
  · exact ⟨takeFault_foreign _ line, nofun⟩
  · exact goes (decideCurrent_desked _ _ _ s)
  · exact goes (((closeCollating_desked s).trans (passOver_desked _ _)).trans (decideCurrent_desked _ _ _ _))
  · exact goes (orphanSheet_desked _ s)
  · split
    · exact goes (orphanSheet_desked _ s)
    · exact goes (stallAt_desked _ _ s)

theorem decideSheet_collated (r : Sheet) {s : State} (line : s.seq.line ≠ .fault) :
    Collated s (decideSheet r s).1 ∧ ((decideSheet r s).2 = true → Desked s (decideSheet r s).1) := by
  rw [decideSheet]
  split
  · exact ⟨.decided (joinPurge_desked _ s), fun _ => joinPurge_desked _ s⟩
  · next f _ _ =>
    have pending := decidePending_desked f s
    obtain ⟨all, goes⟩ := decideFrame_collated r.anchor f (s := decidePending f s) (by rwa [pending.seq])
    exact ⟨all.after pending, fun h => pending.trans (goes h)⟩
  · exact ⟨.decided (decideUnread_desked _ s), fun _ => decideUnread_desked _ s⟩

theorem collateFor_collated (n : Nat) (s : State) : Collated s (collateFor n s) := by
  induction n generalizing s with
  | zero => exact .decided (.refl s)
  | succ n ih =>
    rw [collateFor]
    split
    · exact .decided (.refl s)
    · next acts =>
      rw [Bool.not_eq_true, Bool.not_eq_false'] at acts
      split
      · exact .decided (.refl s)
      · next r _ =>
        obtain ⟨all, goes⟩ := decideSheet_collated r (acts_not_fault acts)
        dsimp only
        split
        · next on => exact (ih _).after ((goes on).trans (advanceCursor_desked _ _))
        · exact all

theorem orphanPending_desked (s : State) : Desked s (orphanPending s) := by
  rw [orphanPending]
  split
  · exact .refl s
  · exact (setPending_desked _ s).trans (joinPurge_desked _ _)

theorem runoutClose_desked (s : State) : Desked s (runoutClose s) := by
  rw [runoutClose]
  split
  · exact ((orphanPending_desked s).trans (closeCollating_desked _)).trans (endPurgeSet_desked _)
  · exact .refl s

/-- R92: in FAULT nothing is closed. -/
theorem runoutClose_fault {s : State} (fault : s.seq.line = .fault) : runoutClose s = s := by
  rw [runoutClose, fault, show collatorActs .fault = false from rfl, Bool.and_false]
  rfl

theorem Collated.closes {s t : State} (h : Collated s t) : Collated s (runoutClose t) := by
  obtain d | ⟨u, r, d, line, rfl, latched⟩ := h
  · exact .decided (d.trans (runoutClose_desked t))
  · rw [runoutClose_fault rfl]
    exact .foreign u r d line rfl latched

theorem collate_collated (s : State) : Collated s (collate s) := (collateFor_collated _ s).closes

theorem offerSheet_collated (a : Word) (s : State) : Collated s (offerSheet a s) := by
  rw [offerSheet]
  split
  · exact .decided (.refl s)
  · exact (collate_collated _).after (.plain rfl rfl rfl)

/-- R60, R88: the collator told of the runout, after a foreign tag too. -/
theorem Collated.noted {s t : State} (h : Collated s t) : Collated s (noteRunout t) := by
  refine Collated.closes ?_
  obtain d | ⟨u, r, d, line, rfl, latched⟩ := h
  · exact .decided (d.trans (.plain rfl rfl rfl))
  · exact .foreign { u with col := { u.col with runoutNoted := true } } r (d.trans (.plain rfl rfl rfl)) line rfl latched

/-! ### The settle of a record (R32) -/

/-- R32, R45: the records once one is settled. -/
def settledIn (r : Sheet) (origin : SheetOrigin) (v : Verdict) (q : List Sheet) : List Sheet :=
  editSheet r.anchor (fun x => { x with
    result := v.result.1, frame := v.result.2, origin := origin, stage := .readDone }) q

/-- R32, R45: the state in which a settled record is offered to the collator. -/
theorem settleRecord_collated (r : Sheet) (origin : SheetOrigin) (s : State) : ∃ v, Collated v (settleRecord r origin s) ∧
    v = { s with rd := s.rd.settled, trk := { s.trk with queue := settledIn r origin s.rd.verdict s.trk.queue }
                 rep := v.rep } ∧ v.rep.latched = s.rep.latched := by
  obtain ⟨v, e, hv⟩ : ∃ v, settleRecord r origin s = offerSheet r.anchor (haltAtSettle r.anchor v) ∧
      v = (offer (settleEvent s.rd.verdict.result.1 s.rd.verdict.result.2 r.anchor)
        { s with rd := s.rd.settled }).editSheet r.anchor fun x => { x with
          result := s.rd.verdict.result.1, frame := s.rd.verdict.result.2, origin := origin, stage := .readDone } :=
    ⟨_, rfl, rfl⟩
  refine ⟨v, ?_, ?_, ?_⟩
  · rw [e]
    exact (offerSheet_collated _ _).after (haltAtSettle_desked _ v)
  · rw [hv, offer_only]
    rfl
  · rw [hv]
    exact offer_latched _ _

/-! ### Runout (R60) -/

/-- R60: the state in which the collator is told of the runout: the READ_OPEN record has become the tail. -/
def State.atRunout (s : State) (rep : Reporter) : State :=
  { s with
    rd := if (readOpen s).isSome then s.rd.settled else s.rd
    trk := { s.trk with
      runout := true, nextPerf := none
      queue := (readOpen s).elim s.trk.queue fun r => settledIn r .tail s.rd.verdict s.trk.queue }
    rep := rep }

/-- R60, R103: the planner's request at runout. -/
def State.runoutAsked (s : State) (target : Option Word) : State :=
  { s with pln := { s.pln with haltKind := .runout, haltSheet := .none, haltTarget := target } }

/-- R60: the collator decides, and the line halts for the runout unless it took a fault. -/
theorem takeRunout_eq (s : State) : ∃ rep x, rep.latched = s.rep.latched ∧ Collated (s.atRunout rep) x ∧
    takeRunout s = if x.seq.line = .run then
      changeLine .halting .runout (x.runoutAsked ((readOpen s).map fun r => s.burstPoint r + word Config.runoutMargin))
    else x := by
  rw [takeRunout]
  dsimp only
  rw [show readOpen { s with trk := { s.trk with runout := true, nextPerf := none } } = readOpen s from rfl]
  cases front : readOpen s with
  | none =>
    refine ⟨s.rep, noteRunout { s with trk := { s.trk with runout := true, nextPerf := none } }, rfl, ?_, rfl⟩
    have base : s.atRunout s.rep = { s with trk := { s.trk with runout := true, nextPerf := none } } := by
      rw [State.atRunout, front]
      rfl
    rw [base]
    exact .noted (.decided (.refl _))
  | some r =>
    obtain ⟨v, settled, hv, latched⟩ := settleRecord_collated r .tail
      { s with trk := { s.trk with runout := true, nextPerf := none } }
    have base : s.atRunout v.rep = v := by
      rw [State.atRunout, front]
      exact hv.symm
    refine ⟨v.rep, noteRunout (settleRecord r .tail { s with trk := { s.trk with runout := true, nextPerf := none } }),
      latched, ?_, rfl⟩
    rw [base]
    exact settled.noted

/-- R60, R103, R167: what a runout taken in RUN leaves: HALTING for it, or the fault of a foreign tag. -/
structure RunoutTaken (s t : State) : Prop where
  runout : t.trk.runout = true
  nextPerf : t.trk.nextPerf = none
  registered : t.trk.registered = s.trk.registered
  enc : t.enc = s.enc
  pins : t.pins = s.pins
  command : t.tr.command = s.tr.command
  ends : (t.seq = { s.seq with line := .halting, haltKind := .runout } ∧ t.pln.haltKind = .runout ∧
      t.pln.haltSheet = .none ∧
      t.pln.haltTarget = (frontOf .readOpen s.trk.queue).map (fun r => r.anchor + s.setup 13 + 200)) ∨
    t.seq = s.seq.faulted .foreignSheet
  queue : ∃ f, desked f ∧ t.trk.queue = ((readOpen s).elim s.trk.queue fun r =>
    settledIn r .tail s.rd.verdict s.trk.queue).map f

theorem takeRunout_taken {s : State} (run : s.seq.line = .run) : RunoutTaken s (takeRunout s) := by
  obtain ⟨rep, x, latched, collated, e⟩ := takeRunout_eq s
  rw [e]
  obtain d | ⟨u, r, d, -, rfl, -⟩ := collated
  · have seq : x.seq = s.seq := d.seq
    rw [if_pos (by rw [seq, run])]
    have kept {α : Type} (f : OffDesk → α) : f x.offDesk = f (s.atRunout rep).offDesk := congrArg f d.rest
    have trk : { x.trk with queue := [] } = { (s.atRunout rep).trk with queue := [] } := kept OffDesk.trk
    obtain ⟨f, hq, hf⟩ := d.queue
    refine ⟨?_, ?_, ?_, ?_, ?_, ?_, .inl ⟨?_, ?_, ?_, ?_⟩, f, hf, ?_⟩
    all_goals rw [changeLine_only]
    · exact (congrArg Tracking.runout trk :)
    · exact (congrArg Tracking.nextPerf trk :)
    · exact (congrArg Tracking.registered trk :)
    · exact kept OffDesk.enc
    · exact kept OffDesk.pins
    · exact congrArg Transport.command (kept OffDesk.tr)
    · rw [State.runoutAsked, seq]
    · rfl
    · rfl
    · rfl
    · exact hq
  · have trk : { u.trk with queue := [] } = { (s.atRunout rep).trk with queue := [] } := congrArg OffDesk.trk d.rest
    have kept {α : Type} (f : OffDesk → α) : f u.offDesk = f (s.atRunout rep).offDesk := congrArg f d.rest
    have fault : (u.faulted .foreignSheet r).seq.line ≠ .run := nofun
    obtain ⟨f, hq, hf⟩ := d.queue
    rw [if_neg fault]
    obtain ⟨-, -, -, command⟩ := u.tr.faulted_outputs .foreignSheet
    exact ⟨(congrArg Tracking.runout trk :), (congrArg Tracking.nextPerf trk :), (congrArg Tracking.registered trk :),
      kept OffDesk.enc, kept OffDesk.pins, command.trans (congrArg Transport.command (kept OffDesk.tr)),
      .inr (congrArg (Sequencer.faulted .foreignSheet) d.seq), f, hf, hq⟩

/-- The planner and the nip after a runout keep what it left. -/
theorem RunoutTaken.nipped {s t u : State} (h : RunoutTaken s t) (nip : Nipped t u) :
    u.trk.runout = true ∧ u.trk.nextPerf = none ∧ u.enc = s.enc ∧ u.pins = s.pins ∧ u.tr.command = s.tr.command ∧
    (((u.seq.line = .halting ∨ u.seq.line = .halted) ∧ u.seq.haltKind = .runout ∧ u.pln.haltKind = .runout ∧
        u.pln.haltSheet = .none ∧
        u.pln.haltTarget = (frontOf .readOpen s.trk.queue).map (fun r => r.anchor + s.setup 13 + 200)) ∨
      u.seq = s.seq.faulted .foreignSheet) := by
  have frame := nip.frame
  have kept {α : Type} (f : OffNip → α) : f u.offNip = f t.offNip := congrArg f nip.rest
  refine ⟨(kept (fun o => o.trk.runout)).trans h.runout, (kept (fun o => o.trk.nextPerf)).trans h.nextPerf,
    frame.enc.trans h.enc, frame.pins.trans h.pins, frame.command.trans h.command, ?_⟩
  obtain ⟨seq, kind, sheet, target⟩ | seq := h.ends
  · refine .inl ⟨nip.halts (by rw [seq]), ?_, frame.haltKind.trans kind, frame.haltSheet.trans sheet,
      frame.haltTarget.trans target⟩
    rw [frame.seq, seq]
  · exact .inr ((nip.seq (by rw [seq]; exact nofun)).trans seq)

/-! ### RESUME -/

/-- R104: what RESUME makes of the planner's request. -/
theorem clearHalt_only (s : State) : clearHalt s = { s with pln :=
    if s.pln.haltKind = .runout then s.pln
    else { s.pln with haltKind := .none, haltSheet := .none, haltTarget := none } } := by
  rw [clearHalt]
  split <;> rfl

/-- R168: the state in RUN that RESUME goes through. -/
theorem resumeRun_eq (u : State) : ∃ a, resumeRun u = settleEnd u (askRunout (runoutTest a)) ∧ a = { u with
    pln := if u.pln.haltKind = .runout then u.pln
      else { u.pln with haltKind := .none, haltSheet := .none, haltTarget := none }
    seq := { u.seq with line := .run, haltKind := .none }, rel := a.rel, rep := a.rep } := by
  refine ⟨_, rfl, ?_⟩
  rw [changeLine_only, clearHalt_only]

theorem askRunout_of_other {s : State} (h : s.pln.haltKind ≠ .runout ∨ s.seq.line ≠ .run) : askRunout s = s := by
  rw [askRunout, if_neg]
  rintro ⟨kind, run⟩
  exact h.elim (· kind) (· run)

theorem runoutTest_of_none {s : State} (h : s.pins.webPresent = true ∨ s.trk.runout = true ∨ s.trk.registered = false) :
    runoutTest s = s := by
  rw [runoutTest, if_neg]
  simp only [Bool.and_eq_true, Bool.not_eq_true', not_and, decide_eq_true_eq]
  rintro ⟨⟨-, registered⟩, fresh⟩ absent
  obtain e | e | e := h
  · rw [e] at absent; cases absent
  · rw [e] at fresh; cases fresh
  · rw [e] at registered; cases registered

/-- R103: a runout that stands is met, or the line halts for it. -/
theorem runoutMet_nipped (s : State) : Nipped s (runoutMet s) := by
  rw [runoutMet]
  split
  · exact (taking_nipped _ s).trans (targetMet_nipped _)
  · exact .refl s

/-! ### A planner that has no record to hold -/

/-- No record is unfired: the planner has no gate sheet. -/
def State.spent (s : State) : Prop := ∀ r ∈ s.trk.queue, r.stage ≠ .readOpen ∧ r.stage ≠ .readDone

theorem State.spent.gateSheet {s : State} (h : s.spent) : gateSheetOf s = none := by
  refine List.find?_eq_none.mpr fun r hr candidate => ?_
  obtain ⟨⟨o | d, -⟩, -⟩ := And.intro ((candidate_iff r).1.mp candidate) trivial
  · exact (h r hr).1 o
  · exact (h r hr).2 d

/-- R98: the stop target in force is then the halt target. -/
theorem State.spent.planNow {s : State} (h : s.spent) : (planNow s).stop = s.pln.haltTarget ∧
    (planNow s).cause = if s.pln.haltTarget.isSome then s.pln.haltKind.cause else .none := by
  rw [Machine.planNow]
  dsimp only
  rw [gateSheet h]
  cases s.pln.haltTarget <;> exact ⟨rfl, rfl⟩

theorem State.spent.fireTest {s : State} (h : s.spent) : fireTest s = s := by
  rw [Machine.fireTest]
  cases s.trk.queue.length with
  | zero => rfl
  | succ n =>
    rw [fireFor]
    have none : frontOf .readDone s.trk.queue = none :=
      List.find?_eq_none.mpr fun r hr done => (h r hr).2 (of_decide_eq_true done)
    rw [none]

theorem refreshOnce_pln {s : State} (running : s.seq.line.running = true) :
    (refreshOnce s).pln.stop = (planNow s).stop ∧ (refreshOnce s).pln.cause = (planNow s).cause ∧
      (refreshOnce s).pln.haltTarget = s.pln.haltTarget ∧ (refreshOnce s).pln.haltKind = s.pln.haltKind := by
  rw [refreshOnce_only running]
  exact ⟨rfl, rfl, rfl, rfl⟩

theorem refresh_pln {s : State} (spent : s.spent) (running : s.seq.line.running = true) :
    (refresh s).pln.stop = s.pln.haltTarget ∧
      (refresh s).pln.cause = if s.pln.haltTarget.isSome then s.pln.haltKind.cause else .none := by
  obtain ⟨-, -, target, kind⟩ := refreshOnce_pln running
  have spent' : (refreshOnce s).spent := by
    rw [State.spent, refreshOnce_trk]
    exact spent
  have running' : (refreshOnce s).seq.line.running = true := (refreshOnce_nipped s).line_running.trans running
  obtain ⟨stop, cause, -⟩ := refreshOnce_pln running'
  obtain ⟨stop', cause'⟩ := spent'.planNow
  rw [refresh, stop, cause, stop', cause', target, kind]
  exact ⟨rfl, rfl⟩

/-- R112: no pulse remains, or no target stands: a refresh takes none up. -/
theorem refreshOnce_idle {s : State} (h : (planNow s).stop = none ∨ s.tr.due ≤ s.tr.emitted) :
    (refreshOnce s).seq = s.seq ∧ (refreshOnce s).tr.due = s.tr.due ∧ (refreshOnce s).tr.emitted = s.tr.emitted := by
  have told (c : StopCause) : (retell c s).seq = s.seq ∧ (retell c s).tr.due = s.tr.due ∧
      (retell c s).tr.emitted = s.tr.emitted := by
    obtain ⟨e, -⟩ | ⟨e, -⟩ := retell_cases c s <;> rw [e] <;> exact ⟨rfl, rfl, rfl⟩
  rw [refreshOnce]
  split
  · dsimp only
    split
    · exact told _
    · obtain ⟨e, -⟩ | ⟨t, target, -, pulses, -⟩ := takeTarget_cases s.pln.stop (planNow s).stop
        ((retell (planNow s).cause s).setPlanner (planNow s))
      · rw [e]
        exact told _
      · obtain stop | rest := h
        · rw [stop] at target
          cases target
        · obtain ⟨-, due, emitted⟩ := told (planNow s).cause
          change (retell _ s).tr.emitted < (retell _ s).tr.due at pulses
          rw [due, emitted] at pulses
          exact absurd rest (Nat.not_le.mpr pulses)
  · exact ⟨rfl, rfl, rfl⟩

theorem refresh_idle {s : State} (spent : s.spent) (h : s.pln.haltTarget = none ∨ s.tr.due ≤ s.tr.emitted) :
    (refresh s).seq = s.seq ∧ (refresh s).tr.due = s.tr.due ∧ (refresh s).tr.emitted = s.tr.emitted := by
  obtain ⟨seq, due, emitted⟩ := refreshOnce_idle (h.imp_left spent.planNow.1.trans)
  have spent' : (refreshOnce s).spent := by
    rw [State.spent, refreshOnce_trk]
    exact spent
  have target : (refreshOnce s).pln.haltTarget = s.pln.haltTarget := (refreshOnce_nipped s).frame.haltTarget
  obtain ⟨seq', due', emitted'⟩ := refreshOnce_idle (s := refreshOnce s) (by
    rw [spent'.planNow.1, target, due, emitted]
    exact h)
  exact ⟨seq'.trans seq, due'.trans due, emitted'.trans emitted⟩

/-- R50, R95: with no record unfired and nothing to take up, the end of a step changes nothing of the sequencer. -/
theorem settleEnd_idle (old : State) {s : State} (spent : s.spent)
    (h : s.pln.haltTarget = none ∨ s.tr.due ≤ s.tr.emitted) : (settleEnd old s).seq = s.seq := by
  obtain ⟨seq, -, -⟩ := refresh_idle spent h
  have spent' : (refresh s).spent := by
    rw [State.spent, refresh_trk]
    exact spent
  rw [settleEnd, endStep_seq]
  obtain ⟨e, -⟩ | ⟨e, -⟩ := settleSince_cases old s
  · rw [e, spent'.fireTest, seq]
  · rw [e, seq]

/-- R103, R168: a standing RUNOUT request at RESUME, with no record unfired: its target is met when it lies at or behind
the web, and else awaited. -/
theorem askRunout_spent {a : State} (run : a.seq.line = .run) (kind : a.pln.haltKind = .runout) (spent : a.spent) :
    (∀ w, a.pln.haltTarget = some w → signedDiff (w + (a.tr.command - a.enc.web)) a.tr.command ≤ 0 →
      (askRunout a).seq.line = .halted ∧ (askRunout a).latches .halted ∧ (askRunout a).tr.state = .still ∧
        (askRunout a).tr.speed = 0) ∧
    (a.pln.haltTarget = none ∨ (∃ w, a.pln.haltTarget = some w ∧ a.tr.due ≤ a.tr.emitted ∧
        0 < signedDiff (w + (a.tr.command - a.enc.web)) a.tr.command) →
      ∀ old, (settleEnd old (askRunout a)).seq.line = .halting) := by
  obtain ⟨b, asks, hb⟩ : ∃ b, askRunout a = runoutMet (refresh b) ∧ b = { a with
      seq := { a.seq with line := .halting, haltKind := .runout }, rel := b.rel, rep := b.rep } := by
    refine ⟨changeLine .halting .runout a, by rw [askRunout, if_pos ⟨kind, run⟩], changeLine_only _ _ _⟩
  have halting : b.seq.line = .halting := by rw [hb]
  have spentB : b.spent := by rw [State.spent, hb]; exact spent
  have plnB : b.pln = a.pln := by rw [hb]
  have trB : b.tr = a.tr := by rw [hb]
  have encB : b.enc = a.enc := by rw [hb]
  have nip := refresh_nipped b
  have frame := nip.frame
  obtain ⟨stop, cause⟩ := refresh_pln spentB (by rw [halting]; rfl)
  rw [plnB] at stop cause
  have remaining (w : Word) :
      (refresh b).remaining w = signedDiff (w + (a.tr.command - a.enc.web)) a.tr.command := by
    rw [State.remaining, State.deviation, frame.command, frame.enc, trB, encB]
  rw [asks]
  refine ⟨fun w target behind => ?_, fun ahead old => ?_⟩
  · rw [target] at stop cause
    rw [kind] at cause
    have met : runoutMet (refresh b) = targetMet ((refresh b).taking (some w)) := by
      rw [runoutMet, if_pos, stop]
      refine ⟨cause, ?_⟩
      rw [stop]
      exact (remaining w).trans_le behind
    have nipped : Nipped b (runoutMet (refresh b)) := nip.trans (runoutMet_nipped _)
    obtain ⟨only, still, speed, -⟩ := targetMet_only ((refresh b).taking (some w))
    have halted : (runoutMet (refresh b)).seq.line = .halted := by
      rw [met, only]
      dsimp only
      split
      · rfl
      · next h =>
        refine (nip.halts halting).resolve_left fun e => h ⟨stop.symm, ?_, e⟩
        change (refresh b).pln.cause.halts = true
        rw [cause]
        rfl
    refine ⟨halted, ?_, by rw [met, still], by rw [met, speed]⟩
    obtain e | ⟨-, -, latched⟩ := nipped.line
    · rw [halted, halting] at e
      cases e
    · exact latched
  · have waits : runoutMet (refresh b) = refresh b := by
      rw [runoutMet, if_neg]
      rintro ⟨isRunout, met⟩
      obtain none | ⟨w, target, -, far⟩ := ahead
      · rw [none] at cause
        rw [cause] at isRunout
        cases isRunout
      · rw [stop, target] at met
        exact absurd ((remaining w).symm.trans_le met) (not_le.mpr far)
    have quiet : b.pln.haltTarget = none ∨ b.tr.due ≤ b.tr.emitted := by
      rw [plnB, trB]
      exact ahead.imp_right fun ⟨w, _, rest, _⟩ => rest
    obtain ⟨seq, due, emitted⟩ := refresh_idle spentB quiet
    have spentC : (refresh b).spent := by
      rw [State.spent, refresh_trk]
      exact spentB
    rw [waits, settleEnd_idle old spentC (by rw [frame.haltTarget, due, emitted]; exact quiet), seq, halting]

/-- A web stopped at the end of a step stays so. -/
theorem Nipped.stopped {s t : State} (h : Nipped s t) (still : s.tr.state = .still ∧ s.tr.speed = 0) :
    t.tr.state = .still ∧ t.tr.speed = 0 := by
  obtain e | e := h.motion
  · exact ⟨(congrArg Prod.fst e).trans still.1, (congrArg (fun m => m.2.1) e).trans still.2⟩
  · exact ⟨congrArg Prod.fst e, congrArg (fun m => m.2.1) e⟩

/-- Settles O50: by the request that stands, `runoutTest_of_none`, `askRunout_spent` and `takeRunout_taken`. -/
theorem resumeReturnsToRun : Obligations.ResumeReturnsToRun := by
  unfold Obligations.ResumeReturnsToRun
  have resumes (s : State) (tag : Index) (up : s.seq.startupComplete = true) (halted : s.seq.line = .halted) :=
    commandWrites_accepted (code := 5) (c := .resume) (tag := tag) rfl up (by rw [halted]; rfl) rfl
  have done (s : State) (tag : Index) : exec (.resume tag) s = .next (commandWrites 5 tag s) := rfl
  refine ⟨fun s tag up halted kind web => ?_, fun s tag up halted kind runout => ?_,
    fun s tag up halted registered fresh absent => ?_⟩
  · obtain ⟨u, p, rec⟩ := resumes s tag up halted
    obtain ⟨a, e, ha⟩ := resumeRun_eq u
    rw [p.pln, p.seq, if_neg kind] at ha
    have quiet : askRunout (runoutTest a) = a := by
      rw [runoutTest_of_none (by rw [ha]; dsimp only; rw [p.pins, p.trk]; exact web),
        askRunout_of_other (.inl (by rw [ha]; exact nofun))]
    rw [Command.effect, e, quiet] at rec
    have nip := settleEnd_nipped u a
    have frame := nip.frame
    refine ⟨_, done s tag, ?_, ?_, ?_, ?_, ?_, ?_, ?_, ?_, ?_, ?_, ?_⟩
    · rw [rec.seq, nip.seq (by rw [ha]; exact nofun), ha]
    · rw [rec.pln, frame.haltKind, ha]
    · rw [rec.pln, frame.haltSheet, ha]
    · rw [rec.pln, frame.haltTarget, ha]
    · rw [rec.enc, frame.enc, ha, p.enc]
    · rw [rec.rd, frame.rd, ha, p.rd]
    · rw [rec.tr, frame.command, ha, p.tr]
    · rw [rec.col, frame.col, ha, p.col]
    · rw [rec.acc, frame.acc, ha, p.acc]
    · rw [rec.pins, frame.pins, ha, p.pins]
    · rw [rec.tix, frame.table, ha, p.table]
  · obtain ⟨u, p, rec⟩ := resumes s tag up halted
    obtain ⟨a, e, ha⟩ := resumeRun_eq u
    rw [p.pln, p.seq, if_pos kind] at ha
    rw [runoutTest_of_none (.inr (.inl (by rw [ha]; dsimp only; rw [p.trk]; exact runout)))] at e
    rw [Command.effect, e] at rec
    have run : a.seq.line = .run := by rw [ha]
    have stands : a.pln.haltKind = .runout := by rw [ha]; exact kind
    obtain ⟨b, asks, hb⟩ : ∃ b, askRunout a = runoutMet (refresh b) ∧ b = { a with
        seq := { a.seq with line := .halting, haltKind := .runout }, rel := b.rel, rep := b.rep } :=
      ⟨changeLine .halting .runout a, by rw [askRunout, if_pos ⟨stands, run⟩], changeLine_only _ _ _⟩
    have nip : Nipped b (settleEnd u (askRunout a)) := by
      rw [asks]
      exact ((refresh_nipped b).trans (runoutMet_nipped _)).trans (settleEnd_nipped u _)
    have frame := nip.frame
    refine ⟨_, done s tag, ?_, ?_, ?_, ?_, ?_, ?_, ?_, ?_, ?_, ?_, ?_, ?_, ?_, fun spent => ?_⟩
    · rw [rec.seq]
      exact nip.halts (by rw [hb])
    · rw [rec.seq, frame.seq, hb]
    · rw [rec.seq]
    · rw [rec.pln, frame.haltKind, hb, stands]
    · rw [rec.pln, frame.haltTarget, hb, ha]
    · have runs : (settleEnd u (askRunout a)).trk.runout = b.trk.runout := congrArg (fun o => o.trk.runout) nip.rest
      rw [rec.trk, runs, hb, ha]
      dsimp only
      rw [p.trk, runout]
    · rw [rec.enc, frame.enc, hb, ha, p.enc]
    · rw [rec.rd, frame.rd, hb, ha, p.rd]
    · rw [rec.col, frame.col, hb, ha, p.col]
    · rw [rec.acc, frame.acc, hb, ha, p.acc]
    · rw [rec.pins, frame.pins, hb, ha, p.pins]
    · rw [rec.tr, frame.command, hb, ha, p.tr]
    · rw [rec.tix, frame.table, hb, ha, p.table]
    · obtain ⟨met, ahead⟩ := askRunout_spent run stands (by
        rw [State.spent, ha]
        dsimp only
        rw [p.trk]
        exact spent)
      have same : a.pln.haltTarget = s.pln.haltTarget ∧ a.tr = s.tr ∧ a.enc = s.enc := by
        rw [ha]
        exact ⟨rfl, p.tr, p.enc⟩
      rw [same.1, same.2.1, same.2.2] at met ahead
      refine ⟨fun w target behind => ?_, fun far => ?_⟩
      · obtain ⟨line, latched, still⟩ := met w target behind
        have ends := settleEnd_nipped u (askRunout a)
        obtain ⟨state, speed⟩ := ends.stopped still
        exact ⟨by rw [rec.seq, ends.seq (by rw [line]; exact nofun), line], rec.latched _ (ends.latched _ latched),
          by rw [rec.tr, state], by rw [rec.tr, speed]⟩
      · rw [rec.seq]
        exact ahead far u
  · obtain ⟨u, p, rec⟩ := resumes s tag up halted
    obtain ⟨a, e, ha⟩ := resumeRun_eq u
    have run : a.seq.line = .run := by rw [ha]
    have trk : a.trk = s.trk := by rw [ha]; exact p.trk
    have takes : runoutTest a = takeRunout a := by
      have pins : a.pins = s.pins := by rw [ha]; exact p.pins
      rw [runoutTest, if_pos]
      rw [run, trk, pins, registered, fresh, absent]
      rfl
    have taken := takeRunout_taken run
    have left : (takeRunout a).seq.line ≠ .run := by
      obtain ⟨seq, -⟩ | seq := taken.ends <;> rw [seq] <;> exact nofun
    rw [takes, askRunout_of_other (.inr left)] at e
    rw [Command.effect, e] at rec
    obtain ⟨runout, perf, enc, pins, command, ends⟩ := taken.nipped (settleEnd_nipped u (takeRunout a))
    have setup : a.setup 13 = s.setup 13 := by
      rw [← p.setup 13 (by decide)]
      exact setup_congr (by rw [ha]) 13
    refine ⟨_, done s tag, by rw [rec.trk, runout], by rw [rec.trk, perf], by rw [rec.seq], ?_, ?_, ?_, ?_⟩
    · rw [rec.enc, enc, ha, p.enc]
    · rw [rec.pins, pins, ha, p.pins]
    · rw [rec.tr, command, ha, p.tr]
    · rw [rec.seq, rec.pln]
      rw [trk, setup] at ends
      obtain ⟨line, haltKind, kind, -, target⟩ | seq := ends
      · exact .inl ⟨line, haltKind, kind, target⟩
      · rw [seq]
        exact .inr ⟨rfl, rfl⟩

/-! ### The tail at the nip (R61) -/

/-- R61: every record of the anchor is the tail with what it settled with, and waits at the nip or, its burst point
reached, has separated. -/
def tailStands (a : Word) (res : ReadResult) (f : Option Frame) (s : State) : Prop :=
  ∀ x ∈ s.trk.queue, x.anchor = a → x.origin = .tail ∧ x.result = res ∧ x.frame = f ∧
    (x.stage = .readDone ∨ x.stage = .separated) ∧
    (reached s.enc.highWater (a + s.setup 13) = false → x.stage = .readDone)

section
variable {a : Word} {res : ReadResult} {f : Option Frame}

theorem tailStands.of_trk {s t : State} (h : tailStands a res f s) (queue : t.trk.queue = s.trk.queue)
    (enc : t.enc = s.enc) (path : t.path = s.path) : tailStands a res f t := by
  rw [tailStands, queue, enc, show t.setup 13 = s.setup 13 from setup_congr (by rw [path]) 13]
  exact h

/-- A record of another anchor edited. -/
theorem tailStands.edit_other {s : State} (h : tailStands a res f s) {b : Word} (other : b ≠ a) {g : Sheet → Sheet}
    (anchor : ∀ x, (g x).anchor = x.anchor) : tailStands a res f (s.editSheet b g) := by
  intro x hx same
  obtain ⟨y, hy, rfl⟩ := List.mem_map.mp hx
  split at same
  · next e =>
    rw [anchor, e] at same
    exact absurd same other
  · next e =>
    rw [if_neg e]
    exact h y hy same

theorem tailStands.refresh {s : State} (h : tailStands a res f s) : tailStands a res f (refresh s) :=
  h.of_trk (congrArg Tracking.queue (refresh_trk s)) (refresh_nipped s).frame.enc (refresh_nipped s).frame.path

theorem tailStands.separateFired {s : State} (h : tailStands a res f s) (n : Nat) :
    tailStands a res f (separateFired n s) := by
  induction n generalizing s with
  | zero => exact h
  | succ n ih =>
    rw [Machine.separateFired]
    split
    · exact h
    · next r front =>
      split
      · obtain ⟨hr, fired⟩ := frontOf_some front
        refine ih (h.edit_other (fun same => ?_) fun _ => rfl)
        obtain ⟨-, -, -, stage, -⟩ := h r hr same
        rw [fired] at stage
        simp at stage
      · exact h

/-- R50, R61: the record that goes is the tail at its burst point, or another. -/
theorem tailStands.goSheet {s : State} (h : tailStands a res f s) {r : Sheet} (hr : r ∈ s.trk.queue)
    (goes : mayGo r s = true) : tailStands a res f (goSheet r s) := by
  by_cases same : r.anchor = a
  · obtain ⟨origin, -⟩ := h r hr same
    rw [mayGo, origin, Bool.and_eq_true] at goes
    have burst : reached s.enc.highWater (a + s.setup 13) = true := by rw [← same]; exact goes.2
    rw [Machine.goSheet, origin]
    intro x hx here
    obtain ⟨y, hy, rfl⟩ := List.mem_map.mp hx
    have tail : y.anchor = r.anchor := by
      split at here
      · next e => exact e
      · exact here.trans same.symm
    rw [if_pos tail]
    obtain ⟨o, result, frame, -⟩ := h y hy (tail.trans same)
    refine ⟨o, result, frame, .inr rfl, fun short => ?_⟩
    change reached s.enc.highWater (a + s.setup 13) = false at short
    rw [burst] at short
    cases short
  · have fires (snap : Bool) (timer : Timer) : tailStands a res f { s with trk := { s.trk with
        queue := editSheet r.anchor (fun x => { x with stage := .fired }) s.trk.queue, snap := snap, snapTimer := timer } } :=
      (h.edit_other same (g := fun x => { x with stage := .fired }) fun _ => rfl).of_trk rfl rfl rfl
    rw [Machine.goSheet]
    split
    · exact h.edit_other same fun _ => rfl
    · exact (fires _ _).separateFired _
    · exact (fires _ _).separateFired _

theorem tailStands.fireFor {s : State} (h : tailStands a res f s) (n : Nat) : tailStands a res f (fireFor n s) := by
  induction n generalizing s with
  | zero => exact h
  | succ n ih =>
    rw [Machine.fireFor]
    split
    · exact h
    · next r front =>
      split
      · next goes => exact ih (h.goSheet (frontOf_some front).1 (Bool.and_eq_true_iff.mp goes).2).refresh
      · exact h

theorem tailStands.settleEnd {s : State} (h : tailStands a res f s) (old : State) :
    tailStands a res f (settleEnd old s) := by
  have since : tailStands a res f (settleSince old s) := by
    obtain ⟨e, -⟩ | ⟨e, -⟩ := settleSince_cases old s <;> rw [e]
    · exact h.refresh.fireFor _
    · exact h.refresh
  refine since.of_trk ?_ ?_ ?_ <;> rw [Machine.settleEnd]
  · rw [endStep_trk]
  · rw [endStep_enc]
  · rw [endStep_path]

end

/-! ### WEB_PRESENT_FALL -/

/-- R32: what a verdict settles with is its result. -/
theorem settles.result {v : Verdict} {res : ReadResult} {f : Option Frame} (h : settles v res f) : v.result = (res, f) := by
  rw [Verdict.result.eq_def]
  obtain ⟨none, rfl, rfl⟩ | ⟨g, governs, ⟨none, rfl, rfl⟩ | ⟨ended, conflict, rfl, rfl⟩ | ⟨calm, ok⟩⟩ := h
  · rw [none]
  · rw [governs]
    dsimp only
    rw [none]
  · rw [governs]
    dsimp only
    cases result : g.result with
    | none => exact absurd result ended
    | some r => simp only [conflict, if_true]
  · rw [governs]
    dsimp only
    obtain ⟨x, result, rfl, rfl⟩ | ⟨result, rfl, rfl⟩ | ⟨result, rfl, rfl⟩ | ⟨result, rfl, rfl⟩ := ok <;> rw [result] <;>
      simp only [calm, Bool.false_eq_true, if_false]

theorem RunoutTaken.anchors {s t : State} (h : RunoutTaken s t) :
    t.trk.queue.map Sheet.anchor = s.trk.queue.map Sheet.anchor := by
  obtain ⟨f, hf, e⟩ := h.queue
  have same (q : List Sheet) : (q.map f).map Sheet.anchor = q.map Sheet.anchor := by
    rw [List.map_map]
    exact List.map_congr_left fun x _ => (congrArg Sheet.anchor (hf x) :)
  rw [e, same]
  cases readOpen s with
  | none => rfl
  | some r =>
    change (settledIn r .tail s.rd.verdict s.trk.queue).map Sheet.anchor = _
    rw [settledIn, editSheet, List.map_map]
    refine List.map_congr_left fun x _ => ?_
    rw [Function.comp]
    split <;> rfl

/-- R60 step 2: the READ_OPEN record is the tail. -/
theorem RunoutTaken.tail {s t : State} (h : RunoutTaken s t) {r : Sheet} {res : ReadResult} {f : Option Frame}
    (front : frontOf .readOpen s.trk.queue = some r) (verdict : settles s.rd.verdict res f) :
    tailStands r.anchor res f t := by
  obtain ⟨g, hg, e⟩ := h.queue
  rw [show readOpen s = some r from front] at e
  intro x hx same
  rw [e] at hx
  obtain ⟨y, hy, rfl⟩ := List.mem_map.mp hx
  obtain ⟨z, hz, rfl⟩ := List.mem_map.mp hy
  rw [hg] at same ⊢
  dsimp only at same ⊢
  have here : z.anchor = r.anchor := by
    split at same
    · next e => exact e
    · exact same
  rw [if_pos here, verdict.result]
  exact ⟨rfl, rfl, rfl, .inl rfl, fun _ => rfl⟩

/-- Settles O34: the runout is `takeRunout_taken`, and the tail stands through the nip; a fall that takes none is
`settleSince_of_planned`. -/
theorem webPresentFallTakesRunout : Obligations.WebPresentFallTakesRunout := by
  unfold Obligations.WebPresentFallTakesRunout
  intro s level g
  obtain ⟨v, hv⟩ : ∃ v : State, v = { s with pins := { s.pins with webPresent := level, gauge := g } } := ⟨_, rfl⟩
  have row : webPresentLevel level (setGauge g s) =
      if s.pins.webPresent && !level then settleEnd (setGauge g s) (runoutTest v) else v := by rw [hv]; rfl
  have done : exec (.webPresentFall level g) s = .next (webPresentLevel level (setGauge g s)) := rfl
  have outside : Outside s (webPresentLevel level (setGauge g s)) :=
    ((setGauge_step g s).trans (LineStep.ofPins _ (webPresentLevel_keeps level _))).toOffBus.outside
  rw [row] at done outside
  refine ⟨_, done, ?_⟩
  by_cases falls : s.pins.webPresent = true ∧ level = false
  · obtain ⟨high, rfl⟩ := falls
    rw [if_pos (by rw [high]; rfl)] at outside ⊢
    have nip := settleEnd_nipped (setGauge g s) (runoutTest v)
    have trk : v.trk = s.trk := by rw [hv]
    by_cases takes : s.seq.line = .run ∧ s.trk.registered = true ∧ s.trk.runout = false
    · obtain ⟨run, registered, fresh⟩ := takes
      have runs : runoutTest v = takeRunout v := by
        rw [runoutTest, if_pos]
        rw [trk, registered, fresh, hv, run]
        rfl
      have taken := takeRunout_taken (s := v) (by rw [hv]; exact run)
      rw [runs] at nip outside ⊢
      obtain ⟨runout, perf, enc, pins, command, ends⟩ := taken.nipped nip
      refine ⟨by rw [pins, hv], fun _ _ _ _ _ => ⟨runout, perf, ?_, fun r res f front _ verdict x hx same => ?_, ?_⟩,
        fun _ _ none => ?_, fun h => ?_, by rw [enc, hv], by rw [command, hv], outside⟩
      · rw [nip.anchors, taken.anchors, trk]
      · have tail := (taken.tail (f := f) (res := res) (by rw [trk]; exact front) (by rw [hv]; exact verdict)).settleEnd
          (setGauge g s) x hx same
        obtain ⟨origin, result, frame, stage, waits⟩ := tail
        refine ⟨origin, result, frame, stage, fun short => waits ?_⟩
        rw [enc, show (settleEnd (setGauge g s) (takeRunout v)).setup 13 = s.setup 13 by
          refine setup_congr ?_ 13
          rw [nip.frame.path, (takeRunout_keeps v).shadow, hv], hv]
        exact short
      · rw [trk, show v.setup 13 = s.setup 13 by rw [hv]; rfl] at ends
        obtain halts | seq := ends
        · exact .inl halts
        · rw [seq]
          exact .inr ⟨rfl, rfl⟩
      · obtain other | other | other := none
        · exact absurd run other
        · rw [registered] at other; cases other
        · rw [fresh] at other; cases other
      · obtain low | low := h
        · cases low
        · rw [high] at low; cases low
    · have none : runoutTest v = v := by
        rw [runoutTest, if_neg]
        simp only [Bool.and_eq_true, Bool.not_eq_true', not_and, decide_eq_true_eq]
        rw [trk, hv]
        exact fun ⟨⟨run, registered⟩, fresh⟩ _ => takes ⟨run, registered, fresh⟩
      rw [none] at nip outside ⊢
      have frame := nip.frame
      refine ⟨by rw [frame.pins, hv], fun _ _ run registered fresh => absurd ⟨run, registered, fresh⟩ takes,
        fun _ _ _ planned only => ?_, fun h => ?_, by rw [frame.enc, hv], by rw [frame.command, hv], outside⟩
      · have quiet : settleSince (setGauge g s) v = v := by
          refine settleSince_of_planned (by rw [hv]; rfl) (by rw [hv]; rfl) ?_ only
          rw [hv]
          exact planned
        rw [settleEnd, quiet]
        refine ⟨?_, ?_, ?_, ?_, ?_, ?_, ?_, ?_, ?_⟩
        · rw [endStep_trk, hv]
        · rw [endStep_seq, hv]
        · rw [endStep_tr, hv]
        · rw [endStep_rd, hv]
        · rw [endStep_col, hv]
        · rw [endStep_acc, hv]
        · rw [endStep_rel, hv]
        · rw [endStep_table, hv]
        · rw [endStep_pln, hv]
      · obtain low | low := h
        · cases low
        · rw [high] at low; cases low
  · have still : (s.pins.webPresent && !level) = false := by
      rw [Bool.eq_false_iff, Ne, Bool.and_eq_true, Bool.not_eq_true']
      exact falls
    rw [still] at outside ⊢
    rw [if_neg Bool.false_ne_true] at outside ⊢
    refine ⟨by rw [hv], fun high low => absurd ⟨high, low⟩ falls, fun high low => absurd ⟨high, low⟩ falls, fun _ => hv,
      by rw [hv], by rw [hv], outside⟩

/-! ### The hold reason over a step (R105, R106) -/

/-- R106: from a state with the hold reason `h`, a reason that latches WAITING has latched it, unless it is still `h`. -/
def reasonTold (h : HoldReason) (s : State) : Prop :=
  s.pln.holdReason = h ∨ s.pln.holdReason.waits = false ∨ s.latches .waiting

theorem reasonTold.of_same {h : HoldReason} {s t : State} (told : reasonTold h s)
    (reason : t.pln.holdReason = s.pln.holdReason) (latched : ∀ c, s.latches c → t.latches c) : reasonTold h t := by
  rw [reasonTold, reason]
  exact told.imp_right (Or.imp_right (latched _))

/-- A step that keeps the planner's reason and what is latched. -/
theorem reasonTold.of_eq {h : HoldReason} {s t : State} (told : reasonTold h s)
    (reason : t.pln.holdReason = s.pln.holdReason) (latched : t.rep.latched = s.rep.latched) : reasonTold h t :=
  told.of_same reason fun c hc => by rwa [State.latches, latched]

/-- R105: a reason needs a named record and a web that is parked or limited. -/
theorem namedSheet_of_waits {s : State} (h : (holdReasonNow s).waits = true) : (namedSheet s).isSome = true := by
  rw [holdReasonNow] at h
  cases named : namedSheet s with
  | none => rw [named] at h; cases h
  | some r => rfl

theorem holdReasonTest_reason (s : State) : (holdReasonTest s).pln.holdReason = holdReasonNow s := by
  rw [holdReasonTest]
  split <;> rfl

/-- R106: the web has just parked, and its reason is told. -/
theorem parkTest_told (h : HoldReason) {s : State} (parked : s.pln.parked = true) : reasonTold h (parkTest s) := by
  have reason := holdReasonTest_reason s
  have only := holdReasonTest_only s
  have named : namedSheet (holdReasonTest s) = namedSheet s := by
    rw [only]
    rfl
  have parks : (holdReasonTest s).pln.parked = true := by
    rw [only]
    exact parked
  rw [parkTest]
  split
  · exact .inr (.inr (latch_latches _ _))
  · next quiet =>
    refine .inr (.inl ?_)
    rw [Bool.eq_false_iff]
    intro waits
    refine quiet ⟨?_, waits⟩
    rw [webParked, parks, named]
    rw [reason] at waits
    exact namedSheet_of_waits waits

theorem haltComplete_told {h : HoldReason} {s : State} (told : reasonTold h s) (halting : s.seq.line = .halting) :
    reasonTold h (haltComplete s) :=
  told.of_same (by rw [haltComplete_only]) (haltComplete_nipped halting).latched

theorem reportMet_told {h : HoldReason} {s : State} (told : reasonTold h s) : reasonTold h (reportMet s) := by
  obtain ⟨v, hv⟩ : ∃ v : State, v = { s with
      tr := { s.tr with metTold := true }, pln := { s.pln with parked := true } } := ⟨_, rfl⟩
  have first : reasonTold h v := told.of_eq (by rw [hv]) (by rw [hv])
  obtain ⟨w, hw⟩ : ∃ w, w = if v.pln.cause.halts && decide (v.seq.line = .halting) then haltComplete v else v := ⟨_, rfl⟩
  have second : reasonTold h w ∧ w.pln = v.pln := by
    rw [hw]
    split
    · next halts =>
      exact ⟨haltComplete_told first (of_decide_eq_true (Bool.and_eq_true_iff.mp halts).2), by rw [haltComplete_only]⟩
    · exact ⟨first, rfl⟩
  have e : reportMet s = if s.pln.parked then w else parkTest w := by rw [hw, hv]; rfl
  rw [e]
  split
  · exact second.1
  · exact parkTest_told h (by rw [second.2, hv])

theorem targetMet_told {h : HoldReason} {s : State} (told : reasonTold h s) : reasonTold h (targetMet s) := by
  have stopped : reasonTold h (hand [0] s { s with
      tr := { s.tr with state := .still, speed := 0, remainder := 0, due := s.tr.emitted } }) := told.of_eq rfl rfl
  rw [targetMet]
  split
  · exact reportMet_told stopped
  · exact stopped

theorem takeTarget_told {h : HoldReason} {s : State} (told : reasonTold h s) (old new : Option Word) :
    reasonTold h (takeTarget old new s) := by
  obtain ⟨e, -⟩ | ⟨t, -, -, -, ⟨-, e⟩ | ⟨-, e⟩⟩ := takeTarget_cases old new s <;> rw [e]
  · exact told.of_eq rfl rfl
  · exact told.of_eq rfl rfl
  · exact targetMet_told (told.of_eq rfl rfl)

theorem refreshOnce_told {h : HoldReason} {s : State} (told : reasonTold h s) : reasonTold h (refreshOnce s) := by
  have named : reasonTold h ((retell (planNow s).cause s).setPlanner (planNow s)) :=
    told.of_same rfl fun c hc => (retell_nipped _ s).latched c hc
  rw [refreshOnce]
  split
  · dsimp only
    split
    · exact named
    · exact takeTarget_told named _ _
  · exact told

theorem refresh_told {h : HoldReason} {s : State} (told : reasonTold h s) : reasonTold h (refresh s) :=
  refreshOnce_told (refreshOnce_told told)

theorem separateFired_only (n : Nat) (s : State) : separateFired n s = { s with trk := (separateFired n s).trk } := by
  induction n generalizing s with
  | zero => rfl
  | succ n ih =>
    rw [separateFired]
    split
    · rfl
    · split
      · rw [ih]
        rfl
      · rfl

/-- R50, R51: a record that goes is a matter of tracking. -/
theorem goSheet_only (r : Sheet) (s : State) : goSheet r s = { s with trk := (goSheet r s).trk } := by
  rw [goSheet]
  split
  · rfl
  · rw [separateFired_only]
    rfl
  · rw [separateFired_only]
    rfl

theorem fireFor_told {h : HoldReason} (n : Nat) {s : State} (told : reasonTold h s) : reasonTold h (fireFor n s) := by
  induction n generalizing s with
  | zero => exact told
  | succ n ih =>
    rw [fireFor]
    split
    · exact told
    · split
      · refine ih (refresh_told ?_)
        rw [goSheet_only]
        exact told.of_eq rfl rfl
      · exact told

theorem settle_told {h : HoldReason} {s : State} (told : reasonTold h s) : reasonTold h (settle s) :=
  fireFor_told _ (refresh_told told)

/-- R105, R106: the hold reason that a step ends with, and WAITING for one that is new. -/
theorem endStep_told {h : HoldReason} {s : State} (told : reasonTold h s) :
    (endStep s).pln.holdReason = holdReasonNow (endStep s) ∧
      ((endStep s).pln.parked = true → (endStep s).pln.holdReason.waits = true → (endStep s).pln.holdReason ≠ h →
        (endStep s).latches .waiting) := by
  obtain ⟨v, hv⟩ : ∃ v, v = ticketsLowTest s := ⟨_, rfl⟩
  have low := ticketsLowTest_nipped s
  have toldV : reasonTold h v := by
    refine told.of_same ?_ fun c hc => by rw [hv]; exact low.latched c hc
    obtain ⟨x, rfl, e | e⟩ := ticketsLowTest_cases s <;> rw [hv, e]
    rfl
  have e : endStep s = holdReasonTest v := by rw [hv, endStep]
  have reason := holdReasonTest_reason v
  have same : holdReasonNow (holdReasonTest v) = holdReasonNow v := by
    rw [holdReasonTest_only]
    rfl
  rw [e, reason, same]
  refine ⟨rfl, fun parked waits new => ?_⟩
  have parks : v.pln.parked = true := by
    rw [holdReasonTest_only] at parked
    exact parked
  by_cases changed : holdReasonNow v = v.pln.holdReason
  · refine (holdReasonTest_nipped v).latched _ ?_
    obtain e | e | e := toldV
    · exact absurd (changed.trans e) new
    · rw [← changed, waits] at e
      cases e
    · exact e
  · rw [holdReasonTest, if_pos ⟨by rw [webParked, parks, namedSheet_of_waits waits]; rfl, changed, waits⟩]
    exact latch_latches _ _

/-! ### The parts of the tick -/

theorem exec_tick {s : State} (idle : s.tr.due ≤ s.tr.emitted) : exec .tick s = .next (tickNow s) := by
  change Host.Outcome.next (tickNow (emitRest (s.tr.due - s.tr.emitted) s)) = _
  rw [Nat.sub_eq_zero_of_le idle, emitRest]

/-- R113, R164: a web that stands with STOP pending brings the line to IDLE. -/
theorem tickStopPending_cases (s : State) : tickStopPending s = s ∨
    s.seq.line = .register ∧ tickStopPending s = enterIdle { s with rd := s.rd.clear } := by
  rw [tickStopPending]
  split
  · next h => exact .inr ⟨h.1, rfl⟩
  · exact .inl rfl

/-- What the transport's tick leaves of the encoders. -/
theorem tickTransport_enc (s : State) : (tickTransport s).enc = s.enc ∨
    (tickTransport s).enc = { s.enc with runContext := false } ∧ (tickTransport s).seq.line = .idle ∧
      (tickTransport s).tr.beltRun = false := by
  have target : (tickTarget (tickProfile s)).enc = s.enc := by
    rw [tickTarget]
    split
    · exact (targetMet_nipped _).frame.enc
    · rfl
  rw [tickTransport]
  split
  · obtain e | ⟨-, e⟩ := tickStopPending_cases (tickTarget (tickProfile s)) <;> rw [e]
    · exact .inl target
    · obtain ⟨only, -, -, -, -, belt, -⟩ := enterIdle_eq
        { tickTarget (tickProfile s) with rd := (tickTarget (tickProfile s)).rd.clear }
      refine .inr ⟨?_, ?_, belt⟩
      · rw [only]
        dsimp only
        rw [target]
      · rw [only]
  · split
    · refine .inl ?_
      rw [tickRamp]
      dsimp only
      split <;> rfl
    · exact .inl rfl

theorem tickTransport_told {h : HoldReason} {s : State} (told : reasonTold h s) : reasonTold h (tickTransport s) := by
  have profile : reasonTold h (tickProfile s) := told.of_eq rfl rfl
  have target : reasonTold h (tickTarget (tickProfile s)) := by
    rw [tickTarget]
    split
    · exact targetMet_told profile
    · exact profile
  rw [tickTransport]
  split
  · obtain e | ⟨-, e⟩ := tickStopPending_cases (tickTarget (tickProfile s)) <;> rw [e]
    · exact target
    · refine .inr (.inl ?_)
      rw [(enterIdle_eq _).1]
      rfl
  · split
    · rw [tickRamp]
      dsimp only
      split <;> exact told.of_eq rfl rfl
    · exact told

/-- R120: what the belt check does: a stall takes its fault. -/
theorem tickBelt_cases (s : State) : (s.tr.beltRun = false ∧ tickBelt s = s) ∨ s.tr.beltRun = true ∧
    ∃ u, u = { s with tr := { s.tr with
        beltTicks := s.tr.beltTicks + 1, beltHistory := beltHistoryTick s
        stallReported := s.tr.stallReported || beltStalled s } } ∧
      (beltStalled s = false ∧ tickBelt s = u ∨
        beltStalled s = true ∧ tickBelt s = takeFault .beltStall false (beltTravel s) u) := by
  rw [tickBelt]
  split
  · next run =>
    refine .inr ⟨run, _, rfl, ?_⟩
    dsimp only
    split
    · next stalled => exact .inr ⟨stalled, rfl⟩
    · next free => exact .inl ⟨Bool.eq_false_iff.mpr free, rfl⟩
  · next off => exact .inl ⟨Bool.eq_false_iff.mpr off, rfl⟩

theorem tickBelt_enc (s : State) : (tickBelt s).enc = s.enc := by
  obtain ⟨-, e⟩ | ⟨-, u, rfl, ⟨-, e⟩ | ⟨-, e⟩⟩ := tickBelt_cases s <;> rw [e]
  exact takeFault_enc _ _ _ _

/-- R174: no cause is latched for an added fault. -/
theorem takeFault_added_latched (f : LineFault) (flag : Bool) (detail : Word) {s : State}
    (line : s.seq.line = .fault) : (takeFault f flag detail s).rep.latched = s.rep.latched := by
  rw [takeFault, if_pos line]
  split
  · rfl
  · rw [addedFault]
    dsimp only
    split
    · rw [(orderImmediate_rep _).1, offer_latched]
      rfl
    · rw [offer_latched]
      rfl

/-- A fault clears the hold reason. -/
theorem takeFault_told {h : HoldReason} (f : LineFault) (flag : Bool) (detail : Word) {s : State} (told : reasonTold h s) :
    reasonTold h (takeFault f flag detail s) := by
  by_cases up : s.seq.startupComplete = true
  · by_cases line : s.seq.line = .fault
    · obtain ⟨r, e⟩ := takeFault_added f flag detail up line
      exact told.of_eq (by rw [e]) (takeFault_added_latched f flag detail line)
    · obtain ⟨r, e, -⟩ := takeFault_first f flag detail up line
      refine .inr (.inl ?_)
      rw [e]
      rfl
  · rw [takeFault_early f flag detail (Bool.eq_false_iff.mpr up)]
    exact told

theorem tickBelt_told {h : HoldReason} {s : State} (told : reasonTold h s) : reasonTold h (tickBelt s) := by
  obtain ⟨-, e⟩ | ⟨-, u, rfl, ⟨-, e⟩ | ⟨-, e⟩⟩ := tickBelt_cases s <;> rw [e]
  · exact told
  · exact told.of_eq rfl rfl
  · exact takeFault_told _ _ _ (told.of_eq rfl rfl)

/-- R10, R11: the encoders after a tick: the clock, the history and the measured speed; the run context goes with an
entry into IDLE alone. -/
theorem tickNow_enc (s : State) : (tickNow s).enc = { s.enc.tick with runContext := (tickNow s).enc.runContext } ∧
    ((tickNow s).enc.runContext = s.enc.runContext ∨ (tickNow s).seq.line = .idle) := by
  obtain ⟨w, hw⟩ : ∃ w, w = tickBelt (tickTransport (tickClocks s)) := ⟨_, rfl⟩
  have whole : tickNow s = endStep (settle w) := by rw [hw, tickNow]
  have nip := settle_nipped w
  have enc : (tickNow s).enc = (tickTransport (tickClocks s)).enc := by
    rw [whole, endStep_enc, nip.frame.enc, hw, tickBelt_enc]
  rw [enc]
  obtain e | ⟨e, idle, belt⟩ := tickTransport_enc (tickClocks s) <;> rw [e]
  · exact ⟨rfl, .inl rfl⟩
  · refine ⟨rfl, .inr ?_⟩
    have same : tickBelt (tickTransport (tickClocks s)) = tickTransport (tickClocks s) := by
      rw [tickBelt, belt, if_neg Bool.false_ne_true]
    rw [same] at hw
    rw [whole, endStep_seq, nip.seq (by rw [hw, idle]; exact nofun), hw, idle]

/-- R105: the hold reason in force, as the spec states it for the record named. -/
theorem holdReasonNow_of_named {t : State} {r : Sheet} (named : namedSheet t = some r)
    (stopped : t.pln.parked = true ∨ t.pln.limited = true) : holdReasonNow t =
      if r.assignment = none then .ticket
      else if (t.pln.haltKind = .pause ∨ t.pln.haltKind = .paperLow) ∧ t.pln.haltSheet = .sheet r.anchor then .pause
      else if t.rel.hold = .holding ∧ (t.rel.set.map SetRecord.verdict) = some .divert ∧ t.pins.rejectFull = true then
        .rejectFull
      else if t.rel.hold = .holding ∧ (t.rel.set.map SetRecord.verdict) = some .good ∧
        (t.pins.foldReady = false ∨ t.rel.folding = true ∨ 2 ≤ t.rel.exitList.length) then .folder
      else if t.acc.state ≠ .empty ∨
        t.trk.queue.any (fun x => decide (x.stage ≠ .readOpen ∧ x.stage ≠ .readDone)) = true then .pocket
      else .none := by
  have holds (v : SetVerdict) : holdsSet v t = true ↔ t.rel.hold = .holding ∧ (t.rel.set.map SetRecord.verdict) = some v := by
    rw [holdsSet, Bool.and_eq_true, decide_eq_true_eq]
    cases t.rel.set <;> simp
  have busy : beltBusy t = t.trk.queue.any (fun x => decide (x.stage ≠ .readOpen ∧ x.stage ≠ .readDone)) := by
    rw [beltBusy]
    congr 1
    funext x
    rw [Sheet.unfired]
    cases x.stage <;> rfl
  have moves : (!(t.pln.parked || t.pln.limited)) = false := by
    obtain e | e := stopped <;> simp [e]
  rw [holdReasonNow, named]
  dsimp only
  rw [moves, if_neg Bool.false_ne_true]
  simp only [Option.isNone_iff_eq_none, Bool.and_eq_true, holds, Bool.or_eq_true, Bool.not_eq_true', decide_eq_true_eq, busy,
    and_assoc, or_assoc]
  rfl

/-- Settles O22: the encoders by `tickNow_enc`, the hold reason by `endStep_told` and `holdReasonNow_of_named`. -/
theorem tickAdvancesClockAndSpeed : Obligations.TickAdvancesClockAndSpeed := by
  unfold Obligations.TickAdvancesClockAndSpeed
  intro s idle
  have step : LineStep s (tickNow s) := (tickClocks_step s).trans (tickNow_keeps s).step
  have kept := (tickNow_keeps s).fixed
  obtain ⟨enc, context⟩ := tickNow_enc s
  obtain ⟨w, hw, told⟩ : ∃ w, tickNow s = endStep w ∧ reasonTold s.pln.holdReason w :=
    ⟨_, rfl, settle_told (tickBelt_told (tickTransport_told (.inl rfl)))⟩
  obtain ⟨reason, waiting⟩ := endStep_told told
  rw [← hw] at reason waiting
  have snap : (tickNow s).rep.snapCount = s.rep.tick.snapCount ∧ (tickNow s).rep.snapDue = s.rep.tick.snapDue :=
    ⟨congrArg Fixed.snapCount kept, congrArg Fixed.snapDue kept⟩
  refine ⟨_, exec_tick idle, ?_, context, ?_, fun nine => ?_, fun r named => ⟨fun stopped => ?_, fun parked reasons new => ?_⟩,
    fun none => ?_, congrArg Fixed.command kept, congrArg Fixed.pins kept, step.toOffBus.outside⟩
  · rw [enc]
    rfl
  · rw [snap.1, Reporter.tick]
    by_cases nine : s.rep.snapCount = 9
    · rw [if_pos (by rw [nine]; rfl), if_pos nine]
    · have more : ¬ s.rep.snapCount + 1 = Config.snapshotPeriod := fun h => nine (Nat.succ.inj h)
      rw [if_neg more, if_neg nine]
  · rw [snap.2, Reporter.tick, if_pos (by rw [nine]; rfl)]
  · rw [reason]
    refine holdReasonNow_of_named ?_ stopped
    rw [namedSheet.eq_def]
    obtain ⟨cause, a, gate, found⟩ | ⟨cause | cause | cause, a, halt, found⟩ := named
    · rw [cause]
      simp only [gate, Option.bind_some, found]
    all_goals
      rw [cause]
      simp only [halt, found]
  · refine waiting parked ?_ new
    obtain e | e := reasons <;> rw [e] <;> rfl
  · rw [reason, holdReasonNow]
    cases named : namedSheet (tickNow s) with
    | none => rfl
    | some r =>
      obtain ⟨parked, limited⟩ | cause | cause := none
      · dsimp only
        rw [parked, limited]
        rfl
      · rw [namedSheet.eq_def, cause] at named
        cases named
      · rw [namedSheet.eq_def, cause] at named
        cases named

/-! ### A planner and a nip at which nothing is to be done (R95 to R98, R50) -/

/-- R95 to R98: what the planner names depends on the records, the pocket, the line and the halt alone. -/
theorem planNow_of_same {s u : State} (planned : planNow s = s.pln) (queue : u.trk.queue = s.trk.queue)
    (pocket : u.acc.state = s.acc.state) (line : u.seq.line = s.seq.line) (path : u.path = s.path)
    (pln : u.pln = { s.pln with
      parked := u.pln.parked, holdReason := u.pln.holdReason, limited := u.pln.limited }) : planNow u = u.pln := by
  have gate : gateSheetOf u = gateSheetOf s := by rw [gateSheetOf, gateSheetOf, queue]
  have kind : u.pln.haltKind = s.pln.haltKind ∧ u.pln.haltSheet = s.pln.haltSheet ∧ u.pln.haltTarget = s.pln.haltTarget := by
    rw [pln]
    exact ⟨rfl, rfl, rfl⟩
  have opens : (fun r => gateOpenFor r u) = fun r => gateOpenFor r s := by
    funext r
    rw [gateOpenFor, gateOpenFor, beltBusy, beltBusy, queue, pocket, line, kind.1, kind.2.1]
  have park : u.park = s.park := by
    funext r
    rw [State.park, State.park, State.burstPoint, State.burstPoint, State.setup, State.setup, State.setup, State.setup, path]
  have named : planNow u = { planNow s with
      parked := u.pln.parked && decide ((planNow s).stop = u.pln.stop)
      holdReason := u.pln.holdReason, limited := u.pln.limited } := by
    rw [planNow, gate, opens, park, kind.1, kind.2.2, pln]
    rfl
  have stop : u.pln.stop = s.pln.stop := by rw [pln]
  rw [named, planned, stop, decide_eq_true rfl, Bool.and_true, ← pln]

/-- R50, R61: a record that waits at the nip does not go. -/
theorem mayGo_of_waits {s : State} {r : Sheet} (waits : waitsAtNip s r) : mayGo r s = false := by
  have lead : s.burstPoint r - s.lead = firingPoint s r := by
    rw [State.lead, burstLead, ceilDiv, Nat.add_sub_assoc (by decide)]
    rfl
  rw [mayGo.eq_def]
  obtain free | ⟨gate, shut⟩ | ⟨stop, cause⟩ | ⟨tail, early⟩ | ⟨sheet, early⟩ := waits
  · rw [free]
    rfl
  · rw [notHeld, gate, shut, decide_eq_true rfl]
    simp
  · have park : s.pln.stop = some (s.park r) := stop
    rw [notHeld, park, decide_eq_true rfl, decide_eq_true cause]
    simp
  · rw [tail]
    change (_ && reached s.enc.highWater (s.burstPoint r)) = false
    rw [show reached s.enc.highWater (s.burstPoint r) = false from early, Bool.and_false]
  · cases origin : r.origin with
    | tail => exact absurd origin sheet
    | read => rw [lead, early, Bool.and_false]
    | leadIn => rw [lead, early, Bool.and_false]

theorem fireTest_of_waits {s : State} (waits : ∀ x, frontOf .readDone s.trk.queue = some x → waitsAtNip s x) :
    fireTest s = s := by
  rw [fireTest]
  cases s.trk.queue.length with
  | zero => rfl
  | succ n =>
    rw [fireFor]
    cases front : frontOf .readDone s.trk.queue with
    | none => rfl
    | some r => simp only [mayGo_of_waits (waits r front), Bool.and_false, Bool.false_eq_true, if_false]

theorem settle_of_waits {s : State} (planned : planNow s = s.pln)
    (waits : ∀ x, frontOf .readDone s.trk.queue = some x → waitsAtNip s x) : settle s = s := by
  rw [settle, refresh_of_planned planned, fireTest_of_waits waits]

/-! ### The parts of the tick, by what they change -/

/-- R109: what the profile leaves. -/
theorem tickProfile_eq (s : State) {p : Profile} (hp : p = tickFigures s) : ∃ rep, tickProfile s = { s with
    tr := { s.tr with
      state := if p.speed = 0 then .still else .moving
      speed := p.speed
      remainder := if p.speed = 0 then 0 else p.remainder
      due := p.due, emitted := 0
      targetW := s.pln.stop, targetC := s.pln.stop.map fun t => t + (s.tr.command - s.enc.web)
      metTold := s.tr.metTold &&
        !((s.pln.stop.map fun t => decide (0 < s.remaining t)).getD false && decide (lineGoal s ≠ 0)) }
    pln := { s.pln with limited := (p.permitted.map fun v => decide (v < lineGoal s)).getD false }
    rep := rep } ∧ rep.latched = s.rep.latched := by
  subst hp
  exact ⟨(tickProfile s).rep, rfl, rfl⟩

/-- R14: the remaining distance as the clauses write it. -/
theorem State.remaining_eq (s : State) (w : Word) : s.remaining w = signedDiff w s.enc.web := by
  rw [State.remaining, signedDiff, signedDiff, State.deviation]
  congr 1
  bv_omega

theorem tickTransport_profiled {s : State} (profiles : s.seq.line.profiles = true) (state : s.tr.state ≠ .rampStop) :
    tickTransport s = tickStopPending (tickTarget (tickProfile s)) := by
  rw [tickTransport, if_pos ⟨profiles, state⟩]

theorem tickStopPending_of_not {s : State} (h : s.seq.line ≠ .register ∨ s.seq.stopPending = false ∨ s.tr.state ≠ .still) :
    tickStopPending s = s := by
  rw [tickStopPending, if_neg]
  rintro ⟨line, pending, still⟩
  obtain h | h | h := h
  · exact h line
  · rw [pending] at h
    cases h
  · exact h still

/-- R111: without a target at or behind, not yet reported, the tick meets none. -/
theorem tickTarget_of_not {s : State} (h : s.tr.metTold = true ∨ ∀ w, s.pln.stop = some w → 0 < s.remaining w) :
    tickTarget s = s := by
  rw [tickTarget, if_neg]
  rw [Bool.and_eq_true, Bool.not_eq_true']
  rintro ⟨behind, told⟩
  obtain h | h := h
  · rw [h] at told
    cases told
  · cases stop : s.pln.stop with
    | none => rw [stop] at behind; cases behind
    | some w =>
      rw [stop] at behind
      exact absurd (of_decide_eq_true behind) (not_le.mpr (h w stop))

theorem tickTarget_of_behind {s : State} {w : Word} (stop : s.pln.stop = some w) (behind : s.remaining w ≤ 0)
    (fresh : s.tr.metTold = false) : tickTarget s = targetMet s := by
  have met : ((some w).map fun t => decide (s.remaining t ≤ 0)).getD false = true := decide_eq_true behind
  rw [tickTarget, stop, met, fresh]
  rfl

/-- R120: no belt check is due, or the belt does not run. -/
theorem tickBelt_quiet {s : State} (h : s.tr.beltRun = false ∨ s.tr.beltTicks + 1 < 500) :
    ∃ n l, tickBelt s = { s with tr := { s.tr with beltTicks := n, beltHistory := l } } := by
  obtain ⟨-, e⟩ | ⟨run, u, rfl, ⟨free, e⟩ | ⟨stalled, -⟩⟩ := tickBelt_cases s
  · exact ⟨_, _, e⟩
  · rw [free, Bool.or_false] at e
    exact ⟨_, _, e⟩
  · obtain off | early := h
    · rw [off] at run
      cases run
    · rw [beltStalled] at stalled
      simp only [Bool.and_eq_true, decide_eq_true_eq] at stalled
      have grace : 500 ≤ s.tr.beltTicks + 1 := stalled.1.1.1
      exact absurd early (Nat.not_lt.mpr grace)

/-- R116: one tick of a ramp stop. -/
theorem tickRamp_eq (s : State) {v : Nat} (hv : v = s.tr.speed - s.setupN 20 / 1000) : ∃ rep, tickRamp s = { s with
    tr := if v = 0 then { s.tr with
        state := .still, speed := 0, remainder := 0, due := 0, emitted := 0, driveEnable := false }
      else { s.tr with speed := v, remainder := (s.tr.remainder + v) % 1000, due := (s.tr.remainder + v) / 1000, emitted := 0 }
    rep := rep } := by
  rw [tickRamp, ← hv]
  dsimp only
  split <;> exact ⟨_, rfl⟩

/-- R15: without a target the profile is the speed of the goal alone. -/
theorem profile_free (goal acc dec v rem : Nat) {x : Nat}
    (hx : x = max (min (v + acc / 1000) (max goal (v - dec / 1000))) (v - dec / 1000)) :
    profile goal acc dec v rem none = { speed := x, remainder := (rem + x) % 1000, due := (rem + x) / 1000, permitted := none } := by
  subst hx
  rfl

/-- R15, R17: a web at rest with its target at or behind stays at rest. -/
theorem profile_rests (goal acc dec rem : Nat) {d : Int} (behind : d ≤ 0) :
    (profile goal acc dec 0 rem (some d)).speed = 0 ∧ (profile goal acc dec 0 rem (some d)).due = 0 := by
  have rests : profileSpeed goal acc dec 0 ((some d).map (permittedSpeed dec)) = 0 := by
    rw [Option.map_some, permittedSpeed, if_pos behind, profileSpeed]
    simp
  have speed : (profile goal acc dec 0 rem (some d)).speed = 0 := by
    rw [profile_speed, rests, creep, if_neg (fun h => absurd h.1 (not_lt.mpr behind))]
  refine ⟨speed, ?_⟩
  have due := profile_due_le goal acc dec 0 rem d
  rw [max_eq_right behind] at due
  exact Nat.le_zero.mp (Int.ofNat_le.mp due)

/-- The tick from what the transport leaves, when the belt check and the nip have nothing to do. -/
theorem tickNow_of_quiet {s u : State} (transport : tickTransport (tickClocks s) = u)
    (belt : u.tr.beltRun = false ∨ u.tr.beltTicks + 1 < 500)
    (settled : ∀ n l, settle { u with tr := { u.tr with beltTicks := n, beltHistory := l } } =
      { u with tr := { u.tr with beltTicks := n, beltHistory := l } }) :
    ∃ n l, tickNow s = endStep { u with tr := { u.tr with beltTicks := n, beltHistory := l } } := by
  obtain ⟨n, l, e⟩ := tickBelt_quiet belt
  exact ⟨n, l, by rw [tickNow, transport, e, settled]⟩

/-- The state after the profile of a tick with no stop target, at the new speed `v`. -/
def State.crawled (v : Nat) (rep : Reporter) (s : State) : State :=
  { tickClocks s with
    tr := { s.tr with
      state := if v = 0 then .still else .moving, speed := v
      remainder := if v = 0 then 0 else (s.tr.remainder + v) % 1000
      due := (s.tr.remainder + v) / 1000, emitted := 0, targetW := none, targetC := none, stepOut := false }
    pln := { s.pln with limited := false }, rep := rep }

/-- R108, R109: a tick in CALIBRATE or REGISTER with no stop target, up to the stop that may be pending. -/
theorem tickProfile_free {s : State} (stop : s.pln.stop = none) {v : Nat}
    (hv : v = max (min (s.tr.speed + s.setupN 18 / 1000) (max (lineGoal s) (s.tr.speed - s.setupN 19 / 1000)))
      (s.tr.speed - s.setupN 19 / 1000)) : ∃ rep, tickTarget (tickProfile (tickClocks s)) = s.crawled v rep := by
  obtain ⟨rep, e, -⟩ := tickProfile_eq (tickClocks s) rfl
  have figures : tickFigures (tickClocks s) =
      { speed := v, remainder := (s.tr.remainder + v) % 1000, due := (s.tr.remainder + v) / 1000, permitted := none } := by
    rw [tickFigures, show (tickClocks s).pln.stop = none from stop]
    exact profile_free _ _ _ _ _ hv
  have free : (tickClocks s).pln.stop = none := stop
  rw [figures, free] at e
  simp only [Option.map_none, Option.getD_none, Bool.false_and, Bool.not_false, Bool.and_true] at e
  rw [tickTarget_of_not (.inr fun w hw => ?_), e]
  · exact ⟨rep, rfl⟩
  · rw [e] at hw
    exact absurd (hw.symm.trans stop) nofun

/-- R108, R109: the crawl. -/
theorem tick_crawls {s : State} {v : Nat} (stop : s.pln.stop = none)
    (line : s.seq.line = .calibrate ∨ s.seq.line = .register ∧ s.seq.stopPending = false)
    (state : s.tr.state ≠ .rampStop) (belt : s.tr.beltRun = false ∨ s.tr.beltTicks + 1 < 500)
    (hv : v = max (min (s.tr.speed + s.setupN 18 / 1000) (max (s.setupN 17) (s.tr.speed - s.setupN 19 / 1000)))
        (s.tr.speed - s.setupN 19 / 1000)) (moves : 0 < v) :
    (tickNow s).tr.state = .moving ∧ (tickNow s).tr.speed = v ∧
      (tickNow s).tr.due = (s.tr.remainder + v) / 1000 ∧ (tickNow s).tr.remainder = (s.tr.remainder + v) % 1000 ∧
      (tickNow s).tr.emitted = 0 ∧ (tickNow s).tr.targetC = none ∧ (tickNow s).tr.driveEnable = s.tr.driveEnable ∧
      (tickNow s).seq = s.seq ∧ (tickNow s).rd = s.rd ∧ (tickNow s).col = s.col ∧
      (tickNow s).trk.queue = s.trk.queue := by
  have goal : lineGoal s = s.setupN 17 := by
    rw [lineGoal.eq_def]
    obtain line | ⟨line, fresh⟩ := line
    · rw [line]
    · rw [line, fresh, if_neg Bool.false_ne_true]
  have kinds : s.seq.line.profiles = true ∧ s.seq.line.running = false := by
    obtain line | ⟨line, -⟩ := line <;> rw [line] <;> exact ⟨rfl, rfl⟩
  obtain ⟨rep, e⟩ := tickProfile_free stop (v := v) (by rw [goal]; exact hv)
  have transport := tickTransport_profiled (s := tickClocks s) kinds.1 state
  have goes : s.seq.line ≠ .register ∨ s.seq.stopPending = false ∨ (s.crawled v rep).tr.state ≠ .still :=
    line.imp (fun h => by rw [h]; exact nofun) fun h => .inl h.2
  rw [e, tickStopPending_of_not goes] at transport
  obtain ⟨n, b, tick⟩ := tickNow_of_quiet transport belt fun n b => settle_rest kinds.2
  have nonzero : v ≠ 0 := Nat.ne_of_gt moves
  rw [tick, endStep_tr, endStep_seq, endStep_rd, endStep_col, endStep_trk]
  exact ⟨if_neg nonzero, rfl, rfl, if_neg nonzero, rfl, rfl, rfl, rfl, rfl, rfl, rfl⟩

theorem enterIdle_still {s : State} (still : s.tr.state = .still) : (enterIdle s).tr = { s.tr with
    targetW := none, targetC := none, metTold := (enterIdle s).tr.metTold, driveEnable := false, beltRun := false } := by
  rw [enterIdle, changeLine_rest_only rfl, if_pos still]
  rfl

/-- R164, R113: STOP pending in REGISTER. -/
theorem tick_stops {s : State} {v : Nat} (stop : s.pln.stop = none) (line : s.seq.line = .register)
    (pending : s.seq.stopPending = true) (state : s.tr.state ≠ .rampStop)
    (belt : s.tr.beltRun = false ∨ s.tr.beltTicks + 1 < 500) (hv : v = s.tr.speed - s.setupN 19 / 1000) :
    (v ≠ 0 → (tickNow s).seq = s.seq ∧ (tickNow s).tr.state = .moving ∧ (tickNow s).tr.speed = v ∧
      (tickNow s).tr.due = (s.tr.remainder + v) / 1000 ∧ (tickNow s).tr.remainder = (s.tr.remainder + v) % 1000) ∧
    (v = 0 → (tickNow s).seq = { s.seq with line := .idle, haltKind := .none, stopPending := false, regLimit := none } ∧
      (tickNow s).tr.state = .still ∧ (tickNow s).tr.speed = 0 ∧ (tickNow s).tr.remainder = 0 ∧
      (tickNow s).tr.driveEnable = false ∧ (tickNow s).tr.beltRun = false ∧ (tickNow s).enc.runContext = false ∧
      (tickNow s).rd.searching = false) := by
  have goal : lineGoal s = 0 := by
    rw [lineGoal, line]
    exact if_pos pending
  have kinds : s.seq.line.profiles = true ∧ s.seq.line.running = false := by rw [line]; exact ⟨rfl, rfl⟩
  obtain ⟨rep, e⟩ := tickProfile_free stop (v := v) (by rw [goal, hv]; omega)
  have transport := tickTransport_profiled (s := tickClocks s) kinds.1 state
  rw [e] at transport
  refine ⟨fun moves => ?_, fun stands => ?_⟩
  · have goes : (s.crawled v rep).tr.state ≠ .still := by
      rw [State.crawled, if_neg moves]
      exact nofun
    rw [tickStopPending_of_not (.inr (.inr goes))] at transport
    obtain ⟨n, b, tick⟩ := tickNow_of_quiet transport belt fun n b => settle_rest kinds.2
    rw [tick, endStep_tr, endStep_seq]
    exact ⟨rfl, if_neg moves, rfl, rfl, if_neg moves⟩
  · have still : (s.crawled v rep).tr.state = .still := if_pos stands
    rw [tickStopPending, if_pos ⟨line, pending, still⟩] at transport
    obtain ⟨only, -, -, -, -, off, -⟩ := enterIdle_eq { s.crawled v rep with rd := (s.crawled v rep).rd.clear }
    have tr := enterIdle_still (s := { s.crawled v rep with rd := (s.crawled v rep).rd.clear }) still
    rw [← transport] at only off tr
    have idle : (tickTransport (tickClocks s)).seq.line.running = false := by rw [only]; rfl
    obtain ⟨n, b, tick⟩ := tickNow_of_quiet rfl (.inl off) fun n b => settle_rest idle
    rw [tick, endStep_tr, endStep_seq, endStep_enc, endStep_rd]
    dsimp only
    rw [tr, only]
    exact ⟨rfl, still, stands, if_pos stands, rfl, rfl, rfl, rfl⟩

/-- R116: a tick of a ramp stop. -/
theorem tick_ramps {s : State} {v : Nat} (line : s.seq.line = .fault) (state : s.tr.state = .rampStop)
    (belt : s.tr.beltRun = false) (hv : v = s.tr.speed - s.setupN 20 / 1000) : (tickNow s).seq = s.seq ∧
    (v ≠ 0 → (tickNow s).tr = { s.tr with
      speed := v, due := (s.tr.remainder + v) / 1000, remainder := (s.tr.remainder + v) % 1000, emitted := 0
      stepOut := false }) ∧
    (v = 0 → (tickNow s).tr = { s.tr with
      state := .still, speed := 0, due := 0, remainder := 0, emitted := 0, driveEnable := false
      stepOut := false }) := by
  obtain ⟨rep, e⟩ := tickRamp_eq (tickClocks s) hv
  have transport : tickTransport (tickClocks s) = tickRamp (tickClocks s) := by
    rw [tickTransport, if_neg (fun h => h.2 state), if_pos (by exact state)]
  rw [e] at transport
  have off : (tickTransport (tickClocks s)).tr.beltRun = false := by
    rw [transport]
    dsimp only
    split <;> exact belt
  have same : tickNow s = endStep (tickTransport (tickClocks s)) := by
    rw [tickNow, tickBelt, off, if_neg Bool.false_ne_true, settle_rest]
    rw [transport]
    exact (congrArg LineState.running line).trans rfl
  rw [same, endStep_seq, endStep_tr, transport]
  refine ⟨rfl, fun moves => ?_, fun stands => ?_⟩
  · rw [if_neg moves]
    rfl
  · rw [if_pos stands]
    rfl

/-! ### The tick in RUN, HALTING and HALTED -/

/-- R50: what a record waits for, from the planner and the encoders alone. -/
theorem waitsAtNip_of_same {s u : State} {r : Sheet} (waits : waitsAtNip s r) (enc : u.enc = s.enc) (path : u.path = s.path)
    (pln : u.pln = { s.pln with
      parked := u.pln.parked, holdReason := u.pln.holdReason, limited := u.pln.limited }) : waitsAtNip u r := by
  have named : u.pln.gateSheet = s.pln.gateSheet ∧ u.pln.gateOpen = s.pln.gateOpen ∧ u.pln.stop = s.pln.stop ∧
      u.pln.cause = s.pln.cause := by
    rw [pln]
    exact ⟨rfl, rfl, rfl, rfl⟩
  obtain ⟨gate, opens, stop, cause⟩ := named
  rw [waitsAtNip, firingPoint, State.setup, State.setup, State.setupN, State.setup] at waits ⊢
  rwa [gate, opens, stop, cause, enc, path]

/-- A state in which the tick finds the planner named and the nip waiting as it did at the tick's start. -/
structure TickWaits (s u : State) : Prop where
  queue : u.trk = { s.trk with snapTimer := s.trk.snapTimer.tick }
  pocket : u.acc.state = s.acc.state
  path : u.path = s.path
  enc : u.enc = s.enc.tick
  pln : u.pln = { s.pln with parked := u.pln.parked, holdReason := u.pln.holdReason, limited := u.pln.limited }

theorem TickWaits.settle {s u : State} (h : TickWaits s u) (line : u.seq.line = s.seq.line) (planned : planNow s = s.pln)
    (waits : ∀ x, frontOf .readDone s.trk.queue = some x → waitsAtNip { s with enc := s.enc.tick } x) :
    settle u = u := by
  have queue : u.trk.queue = s.trk.queue := by rw [h.queue]
  refine settle_of_waits (planNow_of_same planned queue h.pocket line h.path h.pln) fun x front => ?_
  rw [queue] at front
  exact waitsAtNip_of_same (waits x front) h.enc h.path h.pln

/-- R109: what the profile leaves of a running line, its figures included. -/
theorem tickProfile_running (s : State) : ∃ u, u = tickProfile (tickClocks s) ∧ TickWaits s u ∧ u.seq = s.seq ∧
    u.pln.parked = s.pln.parked ∧ u.pln.stop = s.pln.stop ∧ u.pln.cause = s.pln.cause ∧ u.tr.targetW = s.pln.stop ∧
    u.tr.emitted = 0 ∧ u.tr.beltRun = s.tr.beltRun ∧ u.tr.beltTicks = s.tr.beltTicks := by
  obtain ⟨rep, e, -⟩ := tickProfile_eq (tickClocks s) rfl
  refine ⟨_, rfl, ⟨?_, ?_, ?_, ?_, ?_⟩, ?_, ?_, ?_, ?_, ?_, ?_, ?_, ?_⟩ <;> rw [e] <;> rfl

theorem LineState.running_cases {l : LineState} (h : l.running = true) : l.profiles = true ∧ l ≠ .register ∧ l ≠ .fault := by
  cases l <;> simp_all [LineState.running, LineState.profiles]

theorem tickTarget_nipped (s : State) : Nipped s (tickTarget s) := by
  rw [tickTarget]
  split
  · exact targetMet_nipped s
  · exact .refl s

theorem tickTransport_running {s : State} (running : s.seq.line.running = true) (state : s.tr.state ≠ .rampStop) :
    tickTransport (tickClocks s) = tickTarget (tickProfile (tickClocks s)) := by
  rw [tickTransport_profiled (s := tickClocks s) (LineState.running_cases running).1 state]
  refine tickStopPending_of_not (.inl (LineState.running_cases ?_).2.1)
  rw [(tickTarget_nipped _).line_running]
  exact running

/-- R111: what a met target of the plan leaves, besides the transport. -/
theorem targetMet_parks {s : State} (same : s.tr.targetW = s.pln.stop) : (targetMet s).pln.parked = true := by
  have e : targetMet s = reportMet (hand [0] s { s with
      tr := { s.tr with state := .still, speed := 0, remainder := 0, due := s.tr.emitted } }) := if_pos same
  rw [e, reportMet_only]

/-- R14, R111, R104: a target at or behind at the tick is met there. -/
theorem tick_meets {s : State} {w : Word} (running : s.seq.line.running = true) (state : s.tr.state ≠ .rampStop)
    (waits : ∀ x, frontOf .readDone s.trk.queue = some x → waitsAtNip { s with enc := s.enc.tick } x)
    (planned : planNow s = s.pln) (belt : s.tr.beltRun = false ∨ s.tr.beltTicks + 1 < 500)
    (stop : s.pln.stop = some w) (behind : s.remaining w ≤ 0) (fresh : s.tr.metTold = false) :
    (tickNow s).tr.motion = (.still, 0, 0, 0) ∧
    (s.pln.cause.halts = true → s.seq.line = .halting →
      (tickNow s).seq = { s.seq with line := .halted } ∧ (tickNow s).latches .halted) ∧
    (s.pln.cause.halts = false ∨ s.seq.line ≠ .halting →
      (tickNow s).seq = s.seq ∧ (tickNow s).pln.parked = true ∧ (tickNow s).trk.queue = s.trk.queue) := by
  obtain ⟨u, hu, there, seq, -, stopU, causeU, target, emitted, beltRun, beltTicks⟩ := tickProfile_running s
  have told : u.tr.metTold = false := by
    obtain ⟨rep, e, -⟩ := tickProfile_eq (tickClocks s) rfl
    rw [hu, e]
    exact (congrArg (· && _) fresh).trans (Bool.false_and _)
  have remaining : u.remaining w ≤ 0 := by
    rw [State.remaining_eq] at behind ⊢
    rwa [there.enc]
  have transport := tickTransport_running running state
  rw [← hu, tickTarget_of_behind (stopU.trans stop) remaining told] at transport
  obtain ⟨only, still, speed, remainder, due⟩ := targetMet_only u
  have nip := targetMet_nipped u
  have parked := targetMet_parks (target.trans stopU.symm)
  obtain ⟨v, hv⟩ : ∃ v, v = targetMet u := ⟨_, rfl⟩
  rw [← hv] at transport only still speed remainder due nip parked
  have beside : v.tr.beltRun = s.tr.beltRun ∧ v.tr.beltTicks = s.tr.beltTicks :=
    ⟨(congrArg (fun o => o.tr.beltRun) nip.rest).trans beltRun, (congrArg (fun o => o.tr.beltTicks) nip.rest).trans beltTicks⟩
  have line : v.seq = { s.seq with line :=
      if s.pln.cause.halts = true ∧ s.seq.line = .halting then .halted else s.seq.line } := by
    rw [only]
    simp only [target, stopU, causeU, seq, true_and]
  obtain ⟨n, l, quiet⟩ := tickBelt_quiet (s := v) (by rw [beside.1, beside.2]; exact belt)
  have tick : tickNow s = endStep (settle { v with tr := { v.tr with beltTicks := n, beltHistory := l } }) := by
    rw [tickNow, transport, quiet]
  have rest := (endStep_nipped _).after (settle_nipped { v with tr := { v.tr with beltTicks := n, beltHistory := l } })
  rw [← tick] at rest
  refine ⟨?_, fun halts halting => ?_, fun other => ?_⟩
  · have motion : v.tr.motion = (.still, 0, 0, 0) := by
      rw [Transport.motion, still, speed, remainder, due, emitted]
    have none_ : v.tr.emitted = 0 := nip.emitted.trans emitted
    obtain e | e := rest.motion
    · exact e.trans motion
    · rw [e]
      exact congrArg (fun n => (MoveState.still, 0, 0, n)) none_
  · rw [if_pos ⟨halts, halting⟩] at line
    obtain e | ⟨-, -, latched⟩ := nip.line
    · rw [line, seq, halting] at e
      cases e
    · exact ⟨(rest.seq (by rw [show _ = v.seq from rfl, line]; exact nofun)).trans line, rest.latched _ latched⟩
  · have passes : ¬ (s.pln.cause.halts = true ∧ s.seq.line = .halting) := fun ⟨halts, halting⟩ =>
      other.elim (fun e => Bool.false_ne_true (e.symm.trans halts)) (absurd halting)
    rw [if_neg passes] at line
    have there' : TickWaits s { v with tr := { v.tr with beltTicks := n, beltHistory := l } } := by
      refine ⟨?_, ?_, ?_, ?_, ?_⟩ <;> dsimp only <;> rw [only]
      · exact there.queue
      · exact there.pocket
      · exact there.path
      · exact there.enc
      · rw [there.pln]
    rw [tick, there'.settle (congrArg Sequencer.line line) planned waits, endStep_seq, endStep_pln, endStep_trk]
    exact ⟨line, parked, by rw [there'.queue]⟩

/-- R109: a tick whose target is ahead, or already met, or that has none: the profile alone. -/
theorem tick_profiles {s : State} {p : Profile} {goal : Nat} (running : s.seq.line.running = true)
    (state : s.tr.state ≠ .rampStop)
    (waits : ∀ x, frontOf .readDone s.trk.queue = some x → waitsAtNip { s with enc := s.enc.tick } x)
    (planned : planNow s = s.pln) (belt : s.tr.beltRun = false ∨ s.tr.beltTicks + 1 < 500)
    (hgoal : goal = if s.seq.line = .halted then 0 else s.setupN 16)
    (hp : p = profile goal (s.setupN 18) (s.setupN 19) s.tr.speed s.tr.remainder
      (s.pln.stop.map fun w => signedDiff w s.enc.web))
    (ahead : (∀ w, s.pln.stop = some w → 0 < s.remaining w) ∨
      s.tr.metTold = true ∧ ∃ w, s.pln.stop = some w ∧ s.remaining w ≤ 0) :
    (tickNow s).tr.speed = p.speed ∧ (tickNow s).tr.remainder = (if p.speed = 0 then 0 else p.remainder) ∧
      (tickNow s).tr.due = p.due ∧ (tickNow s).tr.state = (if p.speed = 0 then .still else .moving) ∧
      (tickNow s).tr.emitted = 0 ∧ (tickNow s).tr.targetW = s.pln.stop ∧
      (tickNow s).tr.targetC = s.pln.stop.map (fun w => w + (s.tr.command - s.enc.web)) ∧ (tickNow s).seq = s.seq ∧
      (tickNow s).pln.stop = s.pln.stop ∧
      (tickNow s).pln.limited = (p.permitted.map fun v => decide (v < goal)).getD false ∧
      (tickNow s).trk.queue = s.trk.queue ∧ (tickNow s).pln.parked = s.pln.parked := by
  obtain ⟨u, hu, there, seq, parked, stopU, -, -, -, beltRun, beltTicks⟩ := tickProfile_running s
  have goals : lineGoal (tickClocks s) = goal := by
    have same : lineGoal (tickClocks s) = lineGoal s := rfl
    rw [hgoal, same, lineGoal.eq_def]
    cases line : s.seq.line <;> simp_all [LineState.running]
  have remains (t : Word) : (tickClocks s).remaining t = signedDiff t s.enc.web := State.remaining_eq _ t
  have figures : tickFigures (tickClocks s) = p := by
    rw [tickFigures, goals, hp]
    have same : (tickClocks s).remaining = fun w => signedDiff w s.enc.web := funext remains
    rw [same]
    rfl
  have profiled := tickProfile_eq (tickClocks s) rfl
  rw [figures, goals, ← hu] at profiled
  obtain ⟨rep, e, -⟩ := profiled
  have unmet : tickTarget u = u := by
    refine tickTarget_of_not ?_
    obtain ahead | ⟨told, w, stop, behind⟩ := ahead
    · refine .inr fun w hw => ?_
      have positive := ahead w (stopU.symm.trans hw)
      rw [State.remaining_eq] at positive ⊢
      rwa [there.enc]
    · left
      rw [e]
      have stop' : (tickClocks s).pln.stop = some w := stop
      rw [State.remaining_eq] at behind
      dsimp only
      rw [stop', Option.map_some, Option.getD_some, remains, decide_eq_false (not_lt.mpr behind), Bool.false_and, Bool.not_false,
        Bool.and_true]
      exact told
  have transport := tickTransport_running running state
  rw [← hu, unmet] at transport
  obtain ⟨n, l, tick⟩ := tickNow_of_quiet transport (by rw [beltRun, beltTicks]; exact belt) fun n l =>
    TickWaits.settle ⟨there.queue, there.pocket, there.path, there.enc, there.pln⟩ (congrArg Sequencer.line seq) planned waits
  rw [tick, endStep_tr, endStep_seq, endStep_pln, endStep_trk]
  dsimp only
  rw [e]
  exact ⟨rfl, rfl, rfl, rfl, rfl, rfl, rfl, rfl, rfl, rfl, rfl, rfl⟩

/-! ### The belt check (R120) -/

theorem Transport.faulted_stall (f : LineFault) (t : Transport) : (t.faulted f).stallReported = t.stallReported := by
  rw [Transport.faulted]
  split
  · rw [Transport.stopNow]
    split <;> rfl
  · rw [Transport.rampDown.eq_def]
    split <;> rfl

/-- The fields of the belt check. -/
def Transport.belting (t : Transport) : Bool × Nat × List Word × Bool :=
  (t.beltRun, t.beltTicks, t.beltHistory, t.stallReported)

/-- What the belt check reads and keeps, which the transport's tick leaves in a line that stays out of IDLE and FAULT. -/
structure BeltLeft (s t : State) : Prop where
  belting : t.tr.belting = s.tr.belting
  belt : t.enc.belt = s.enc.belt
  startup : t.seq.startupComplete = s.seq.startupComplete
  line : t.seq.line ≠ .fault

theorem Nipped.beltLeft {s t u : State} (nip : Nipped t u) (h : BeltLeft s t) : BeltLeft s u where
  belting := (congrArg (fun o => o.tr.belting) nip.rest).trans h.belting
  belt := by rw [nip.frame.enc, h.belt]
  startup := by rw [nip.frame.seq, h.startup]
  line := by
    obtain e | ⟨-, halted, -⟩ := nip.line
    · rw [e]
      exact h.line
    · rw [halted]
      exact nofun

theorem tickTransport_belt {s : State}
    (line : s.seq.line = .register ∧ s.seq.stopPending = false ∨ s.seq.line.running = true) :
    BeltLeft s (tickTransport (tickClocks s)) := by
  have kinds : s.seq.line.profiles = true ∧ s.seq.line ≠ .fault := by
    obtain ⟨line, -⟩ | running := line
    · rw [line]
      exact ⟨rfl, nofun⟩
    · exact ⟨(LineState.running_cases running).1, (LineState.running_cases running).2.2⟩
  have start : BeltLeft s (tickProfile (tickClocks s)) := by
    obtain ⟨rep, e, -⟩ := tickProfile_eq (tickClocks s) rfl
    rw [e]
    exact ⟨rfl, rfl, rfl, kinds.2⟩
  by_cases state : s.tr.state = .rampStop
  · obtain ⟨rep, e⟩ := tickRamp_eq (tickClocks s) rfl
    rw [tickTransport, if_neg (fun h => h.2 state), if_pos (by exact state), e]
    refine ⟨?_, rfl, rfl, kinds.2⟩
    dsimp only
    split <;> rfl
  · have nip := tickTarget_nipped (tickProfile (tickClocks s))
    rw [tickTransport_profiled (s := tickClocks s) kinds.1 state, tickStopPending_of_not]
    · exact nip.beltLeft start
    · obtain ⟨-, fresh⟩ | running := line
      · right; left
        rw [nip.frame.seq]
        exact fresh
      · left
        refine (LineState.running_cases ?_).2.1
        rw [nip.line_running]
        exact running

/-- R120: the tick of a belt that runs. -/
theorem tick_checks {s : State} (up : s.seq.startupComplete = true)
    (line : s.seq.line = .register ∧ s.seq.stopPending = false ∨ s.seq.line.running = true)
    (run : s.tr.beltRun = true) (full : s.tr.beltHistory.length = 100) :
    (500 ≤ s.tr.beltTicks + 1 → s.tr.stallReported = false →
      (s.enc.belt - s.tr.beltHistory.headD 0).toInt < 20 →
      (tickNow s).seq.line = .fault ∧ (tickNow s).seq.firstFault = .beltStall ∧ (tickNow s).tr.stallReported = true ∧
        (tickNow s).tr.beltRun = false) ∧
    (s.tr.beltTicks + 1 < 500 ∨ s.tr.stallReported = true ∨ 20 ≤ (s.enc.belt - s.tr.beltHistory.headD 0).toInt →
      (tickNow s).seq.line ≠ .fault ∧ (tickNow s).tr.stallReported = s.tr.stallReported ∧
        (tickNow s).tr.beltTicks = s.tr.beltTicks + 1 ∧
        (tickNow s).tr.beltHistory = s.tr.beltHistory.drop 1 ++ [s.enc.belt]) := by
  obtain ⟨w, hw⟩ : ∃ w, w = tickTransport (tickClocks s) := ⟨_, rfl⟩
  have left_ := tickTransport_belt line
  rw [← hw] at left_
  have fields : w.tr.beltRun = true ∧ w.tr.beltTicks = s.tr.beltTicks ∧ w.tr.beltHistory = s.tr.beltHistory ∧
      w.tr.stallReported = s.tr.stallReported := by
    have e := left_.belting
    simp only [Transport.belting, Prod.mk.injEq] at e
    rwa [run] at e
  obtain ⟨runW, ticks, history, reported⟩ := fields
  have stalls : beltStalled w = true ↔ 500 ≤ s.tr.beltTicks + 1 ∧ s.tr.stallReported = false ∧
      (s.enc.belt - s.tr.beltHistory.headD 0).toInt < 20 := by
    have window : Config.stallWindow ≤ s.tr.beltHistory.length := full.ge
    rw [beltStalled, beltTravel, ticks, history, reported, left_.belt]
    simp only [Bool.and_eq_true, decide_eq_true_eq, Bool.not_eq_true', window, and_true, and_assoc]
    rfl
  have entry : beltHistoryTick w = s.tr.beltHistory.drop 1 ++ [s.enc.belt] := by
    rw [beltHistoryTick, history, left_.belt, if_pos (by rw [full]; exact le_rfl)]
  have tick : tickNow s = endStep (settle (tickBelt w)) := by rw [hw, tickNow]
  obtain ⟨off, -⟩ | ⟨-, u, hu, cases_⟩ := tickBelt_cases w
  · rw [runW] at off
    cases off
  · refine ⟨fun grace fresh slow => ?_, fun free => ?_⟩
    · have stalled := stalls.mpr ⟨grace, fresh, slow⟩
      obtain ⟨no, -⟩ | ⟨-, e⟩ := cases_
      · rw [stalled] at no
        cases no
      · obtain ⟨r, first, -⟩ := takeFault_first .beltStall false (beltTravel w) (s := u)
          (by rw [hu]; exact left_.startup.trans up) (by rw [hu]; exact left_.line)
        rw [tick, e, first, settle_rest rfl, endStep_seq, endStep_tr]
        refine ⟨rfl, rfl, (Transport.faulted_stall _ _).trans ?_, (Transport.faulted_outputs _ _).1⟩
        rw [hu, stalled]
        exact Bool.or_true _
    · have quiet : beltStalled w = false := by
        rw [Bool.eq_false_iff, Ne, stalls]
        rintro ⟨grace, fresh, slow⟩
        obtain h | h | h := free
        · omega
        · rw [fresh] at h
          cases h
        · omega
      obtain ⟨-, e⟩ | ⟨yes, -⟩ := cases_
      · rw [quiet, Bool.or_false, ticks, entry, reported] at hu
        have after : Nipped u (tickNow s) := by
          rw [tick, e]
          exact (endStep_nipped _).after (settle_nipped u)
        have kept := after.beltLeft (s := u) ⟨rfl, rfl, rfl, by rw [hu]; exact left_.line⟩
        have belting := kept.belting
        rw [hu] at belting
        simp only [Transport.belting, Prod.mk.injEq] at belting
        obtain ⟨-, ticks', history', reported'⟩ := belting
        exact ⟨kept.line, reported', ticks', history'⟩
      · rw [quiet] at yes
        cases yes

/-- Settles O23: `tick_crawls`, `tick_ramps`, `tick_profiles` and `tick_meets`, `tick_stops` and `tick_checks`. -/
theorem tickCrawlsOrRampsDown : Obligations.TickCrawlsOrRampsDown := by
  unfold Obligations.TickCrawlsOrRampsDown
  refine ⟨fun s v idle stop line state belt hv moves => ⟨_, exec_tick idle, tick_crawls stop line state belt hv moves⟩,
    fun s v idle line state belt hv => ⟨_, exec_tick idle, tick_ramps line state belt hv⟩,
    fun s r p goal idle running state waits planned belt hgoal hr hp => ⟨_, exec_tick idle, ?_⟩,
    fun s v idle stop line pending state belt hv => ⟨_, exec_tick idle, tick_stops stop line pending state belt hv⟩,
    fun s idle up line run full => ⟨_, exec_tick idle, tick_checks up line run full⟩⟩
  subst hr
  have distance (w : Word) : s.remaining w = signedDiff w s.enc.web := s.remaining_eq w
  have profiles := tick_profiles running state waits planned belt hgoal hp
  have behind {d : Int} (hd : s.pln.stop.map (fun w => signedDiff w s.enc.web) = some d) (h : d ≤ 0) :
      ∃ w, s.pln.stop = some w ∧ s.remaining w ≤ 0 := by
    obtain ⟨w, stop, rfl⟩ := Option.map_eq_some_iff.mp hd
    exact ⟨w, stop, by rwa [distance]⟩
  refine ⟨fun free => ?_, fun d hd passed fresh => ?_, fun d hd passed told rest => ?_⟩
  · obtain ⟨speed, remainder, due, st, emitted, tw, tc, seq, stop, limited, queue, -⟩ := profiles (.inl fun w stop => by
      rw [distance]
      rw [stop, Option.map_some] at free
      obtain h | ⟨d, h, positive⟩ := free
      · cases h
      · rwa [Option.some.inj h])
    exact ⟨speed, remainder, due, st, emitted, tw, tc, seq, stop, limited, queue⟩
  · obtain ⟨w, stop, met⟩ := behind hd passed
    obtain ⟨motion, halts, parks⟩ := tick_meets running state waits planned belt stop met fresh
    simp only [Transport.motion, Prod.mk.injEq] at motion
    obtain ⟨st, speed, remainder, due⟩ := motion
    exact ⟨st, speed, remainder, due, halts, parks⟩
  · obtain ⟨speed, remainder, due, st, -, -, -, seq, -, -, queue, parked⟩ := profiles (.inr ⟨told, behind hd passed⟩)
    obtain ⟨stands, none_⟩ := profile_rests goal (s.setupN 18) (s.setupN 19) s.tr.remainder passed
    rw [hd, rest] at hp
    rw [← hp] at stands none_
    rw [if_pos stands] at remainder st
    exact ⟨st, speed.trans stands, remainder, due.trans none_, seq, parked, queue⟩

/-! ### The encoders over an advance of the web (R1, R6) -/

theorem Collated.enc {s t : State} (h : Collated s t) : t.enc = s.enc := by
  obtain d | ⟨u, r, d, -, rfl, -⟩ := h
  · exact congrArg OffDesk.enc d.rest
  · exact (congrArg OffDesk.enc d.rest :)

theorem haltAtCreation_enc (r : Sheet) (s : State) : (haltAtCreation r s).enc = s.enc := by
  rw [haltAtCreation]
  split
  · rw [chooseHalt_only]
  · rfl

theorem settleOpen_enc (s : State) : (settleOpen s).enc = s.enc := by
  rw [settleOpen]
  split
  · rfl
  · next r _ =>
    obtain ⟨v, coll, hv, -⟩ := settleRecord_collated r r.origin s
    rw [coll.enc, hv]

theorem perforationTest_enc (h : Word) (s : State) : (perforationTest h s).enc = s.enc := by
  have created (p a : Word) (u : State) : (createAtPerf p a u).enc = u.enc := by
    rw [createAtPerf]
    split
    · exact haltAtCreation_enc _ _
    · exact takeFault_enc _ _ _ _
  have taken (p : Word) : (takePerforation p s).enc = s.enc := by
    rw [takePerforation]
    split
    · rw [created, settleOpen_enc]
    · exact settleOpen_enc s
  rw [perforationTest]
  split
  · split
    · split
      · exact taken _
      · rfl
    · rfl
  · rfl

theorem separationTest_only (s : State) : separationTest s = { s with trk := (separationTest s).trk } := by
  rw [separationTest]
  split
  · rw [separateFired_only]
  · rfl

theorem overrunTest_enc (h : Word) (s : State) : (overrunTest h s).enc = s.enc := by
  rw [overrunTest]
  split
  · split
    · exact takeFault_enc _ _ _ _
    · rfl
  · rfl

theorem trackAdvance_enc (h : Word) (s : State) : (trackAdvance h s).enc = s.enc := by
  rw [trackAdvance, overrunTest_enc, (settle_nipped _).frame.enc, separationTest_only]
  exact perforationTest_enc h s

theorem reanchor_enc (d : Word) (s : State) : (reanchor d s).enc = s.enc := by
  rw [reanchor]
  split
  · rfl
  · dsimp only
    rw [offer_only, haltAtReanchor]
    split <;> rfl

/-- What the reader makes of the encoders on an advance: it leaves them, or ends or starts the run. -/
def encLeft (s t : State) : Prop :=
  t.enc = s.enc ∨ t.enc = { s.enc with runContext := false } ∨
    t.enc = { s.enc with highWater := s.enc.web, runContext := true, reverseReported := false }

theorem encLeft.of_eq {s t u : State} (h : encLeft t u) (e : t.enc = s.enc) : encLeft s u := by
  rwa [encLeft, ← e]

theorem watchSample_enc (dark : Bool) (h : Word) (s : State) : (watchSample dark h s).enc = s.enc := by
  have dark_ : (darkSample s).enc = s.enc := by
    rw [darkSample]
    dsimp only
    split
    · rw [takeFault_enc]
    · rfl
  have blank : (blankSample h s).enc = s.enc := by
    rw [blankSample]
    dsimp only
    split
    · rw [offer_only]
    · rfl
  rw [watchSample]
  split
  · split
    · exact dark_
    · exact blank
  · rfl

theorem addLeadIns_enc (a : Word) (n : Nat) (s : State) : (addLeadIns a n s).enc = s.enc := by
  induction n generalizing s with
  | zero => rfl
  | succ n ih =>
    rw [addLeadIns, ih, addLeadIn, (offerSheet_collated _ _).enc]
    rfl

theorem changeLine_enc (l : LineState) (k : HaltKind) (s : State) : (changeLine l k s).enc = s.enc := by
  rw [changeLine_only]

theorem runoutTest_enc (s : State) : (runoutTest s).enc = s.enc := by
  rw [runoutTest]
  split
  · obtain ⟨rep, x, -, coll, e⟩ := takeRunout_eq s
    have enc : x.enc = s.enc := coll.enc
    rw [e]
    split
    · rw [changeLine_enc]
      exact enc
    · exact enc
  · rfl

theorem registerWeb_enc (edge : Word) (f : Frame) (s : State) : encLeft s (registerWeb edge f s) := by
  rw [registerWeb]
  dsimp only
  split
  · refine .inr (.inr ?_)
    rw [runoutTest_enc, changeLine_enc]
    dsimp only [pushSheet]
    rw [addLeadIns_enc]
  · refine .inr (.inr ?_)
    dsimp only [pushSheet]
    rw [addLeadIns_enc]

theorem frameEnds_enc (res : FrameResult) (s : State) : encLeft s (frameEnds res s) := by
  have searched (u : State) : encLeft u (searchFrame res s.rd.origin u) := by
    rw [searchFrame.eq_def]
    split
    · split
      · exact registerWeb_enc _ _ u
      · split
        · exact .inl rfl
        · exact .inl (takeFault_enc _ _ _ _)
    · exact .inl rfl
  have read (u : State) : (sheetFrame res s.rd.regs.governs u).enc = u.enc := by
    rw [sheetFrame]
    split
    · split
      · rw [governingEnds.eq_def]
        split
        · exact reanchor_enc _ _
        · rfl
      · split <;> rfl
    · rfl
  rw [frameEnds]
  split
  · split
    · exact (searched _).of_eq rfl
    · exact .inl rfl
  · exact .inl (read _)

theorem flagCompletes_enc (s : State) : (flagCompletes s).enc = s.enc := by
  rw [flagCompletes]
  split
  · split <;> rfl
  · rfl

theorem takeSample_enc (dark : Bool) (h : Word) (s : State) : encLeft s (takeSample dark h s) := by
  have flag (u : State) : (flagSample dark u).enc = u.enc := by
    rw [flagSample]
    split
    · split <;> rfl
    · split
      · rfl
      · exact flagCompletes_enc u
  have data (u : State) : encLeft u (dataSample dark u) := by
    rw [dataSample]
    dsimp only
    split
    · split <;> exact .inl rfl
    · split
      · split
        · exact .inl rfl
        · split <;> exact .inl rfl
      · exact frameEnds_enc _ u
  have close (u : State) : encLeft u (closeSample dark u) := by
    rw [closeSample]
    split
    · split
      · exact .inl rfl
      · exact frameEnds_enc _ u
    · split <;> exact frameEnds_enc _ u
  have framed (u : State) : encLeft u (frameSample dark u) := by
    rw [frameSample]
    split
    · exact .inl (flag u)
    · exact data u
    · exact close u
    · exact .inl rfl
    · exact .inl rfl
  rw [takeSample]
  split
  · exact (framed _).of_eq (watchSample_enc dark h s)
  · exact .inl (watchSample_enc dark h s)

theorem sweepAdvance_enc (h : Word) (s : State) : encLeft s (sweepAdvance h s) := by
  have ended (edge : Word) : encLeft s (sweepEnds edge s) := by
    refine .inr (.inl ?_)
    rw [sweepEnds]
    dsimp only
    rw [offer_only]
    dsimp only [latch]
    rw [(enterIdle_eq _).1]
    split <;> rfl
  rw [sweepAdvance.eq_def]
  split
  · exact .inl rfl
  · split
    · exact ended 0
    · exact .inl rfl
  · dsimp only
    split
    · exact ended _
    · split
      · exact .inl rfl
      · exact .inl rfl

theorem readerAdvance_enc (h : Word) (s : State) : encLeft s (readerAdvance h s) := by
  rw [readerAdvance]
  split
  · exact sweepAdvance_enc h s
  · split
    · exact takeSample_enc _ _ s
    · exact .inl rfl

theorem regLimitTest_enc (h : Word) (s : State) : (regLimitTest h s).enc = s.enc := by
  rw [regLimitTest]
  split
  · rfl
  · split
    · exact takeFault_enc _ _ _ _
    · rfl

/-- R6: an advance leaves the encoders but for the run context and the high-water position it starts from. -/
theorem highWaterAdvance_enc (h : Word) (s : State) : encLeft s (highWaterAdvance h s) := by
  have read : encLeft s (regLimitTest h (readerAdvance h s)) := by
    rw [encLeft, regLimitTest_enc]
    exact readerAdvance_enc h s
  rw [highWaterAdvance]
  split
  · rw [encLeft, trackAdvance_enc]
    exact read
  · exact read

/-! ### A step onto new ground -/

/-- The state whose reader and tracking an advance to `h` is given to. -/
def State.onto (a b : Bool) (g : Gauge) (h : Word) (s : State) : State :=
  { s with pins := { s.pins with webA := a, webB := b, gauge := g }, enc := { s.enc with web := h, highWater := h } }

/-- The counts that an advance leaves where they are. -/
theorem highWaterAdvance_counts (h : Word) (s : State) : (highWaterAdvance h s).enc.web = s.enc.web ∧
    (s.enc.highWater = s.enc.web → (highWaterAdvance h s).enc.highWater = s.enc.web) ∧
    (highWaterAdvance h s).tr.command = s.tr.command ∧ ∀ n, n ≠ 12 → (highWaterAdvance h s).setupN n = s.setupN n := by
  have keeps := highWaterAdvance_keeps h s
  refine ⟨congrArg Fixed.web keeps.fixed, fun front => ?_, congrArg Fixed.command keeps.fixed, fun n other => ?_⟩
  · obtain e | e | e := highWaterAdvance_enc h s <;> rw [e]
    · exact front
    · exact front
  · obtain e | ⟨p, -, e⟩ := keeps.shadow
    · rw [State.setupN, State.setupN, State.setup, State.setup, e]
    · rw [State.setupN, State.setupN, State.setup, State.setup, e, getD_set_ne _ other.symm]

/-- R9: on the high-water position the web has not run back. -/
theorem reverseTest_front {s : State} (front : s.enc.highWater = s.enc.web) : ∃ r, reverseTest s =
    { s with enc := { s.enc with reverseReported := r } } ∧ (s.enc.runContext = true → r = false) ∧
      (s.enc.runContext = false → r = s.enc.reverseReported) := by
  have near : ¬ ((s.setupN 22 : Int) < signedDiff s.enc.highWater s.enc.web) := by
    rw [front, signedDiff, BitVec.sub_self]
    exact not_lt.mpr (Int.natCast_nonneg _)
  rw [reverseTest]
  split
  · next run =>
    exact ⟨false, rfl, fun _ => rfl, fun off => absurd (off.symm.trans run) Bool.false_ne_true⟩
  · exact ⟨_, rfl, fun run => absurd run ‹_›, fun _ => rfl⟩

/-- R118: within the slip limit. -/
theorem slipTest_within (drive : Bool) {s : State} (within : (s.tr.command - s.enc.web).toInt.natAbs ≤ s.setupN 21) :
    ∃ l, slipTest drive s = { s with tr := { s.tr with slipReported := l } } := by
  have inside : ¬ s.setupN 21 < s.deviation.toInt.natAbs := Nat.not_lt.mpr within
  rw [slipTest, if_neg inside]
  split
  · exact ⟨false, rfl⟩
  · exact ⟨_, rfl⟩

/-- R1, R6: a step onto new ground is an advance, and the watch tests after it find nothing. -/
theorem exec_advance {s : State} {a b : Bool} {h : Word} (g : Gauge) (adv : advancesTo s a b h) :
    ∃ x r l, x = highWaterAdvance h (s.onto a b g h) ∧ exec (.webMotionEvent a b g) s = .next (endMoved { x with
      enc := { x.enc with reverseReported := r }, tr := { x.tr with slipReported := l } }) ∧
      x.enc.web = h ∧ x.enc.highWater = h ∧ (x.enc.runContext = true → r = false) ∧
      (x.enc.runContext = false → r = x.enc.reverseReported) := by
  obtain ⟨forward, front, rfl, within⟩ := adv
  obtain ⟨web, high, command, setups⟩ := highWaterAdvance_counts (s.enc.web + 1) (s.onto a b g (s.enc.web + 1))
  have ahead : 0 < signedDiff (s.enc.web + 1) s.enc.highWater := by
    rw [← front, signedDiff, BitVec.add_comm, BitVec.add_sub_cancel]
    decide
  obtain ⟨x, hx⟩ : ∃ x, x = highWaterAdvance (s.enc.web + 1) (s.onto a b g (s.enc.web + 1)) := ⟨_, rfl⟩
  rw [← hx] at web high command setups
  have top : x.enc.highWater = s.enc.web + 1 := high rfl
  have webX : x.enc.web = s.enc.web + 1 := web
  obtain ⟨r, back, run, stands⟩ := reverseTest_front (s := x) (top.trans webX.symm)
  obtain ⟨l, slip⟩ := slipTest_within s.tr.driveEnable (s := { x with enc := { x.enc with reverseReported := r } }) (by
    change (x.tr.command - x.enc.web).toInt.natAbs ≤ x.setupN 21
    rw [command, webX, setups 21 (by decide)]
    exact within)
  refine ⟨x, r, l, hx, ?_, webX, top, run, stands⟩
  have pair : quadStep (setGauge g s).pins.webA (setGauge g s).pins.webB a b = .forward :=
    (quadStep_iff _ _ a b).1.mpr forward
  have moved : exec (.webMotionEvent a b g) s = .next (endMoved (slipTest s.tr.driveEnable (reverseTest x))) := by
    change Host.Outcome.next (webChannels a b (setGauge g s)) = _
    rw [webChannels, pair, hx]
    dsimp only
    rw [webStep, highWaterTest, if_pos (by exact ahead)]
    rfl
  rw [moved, back, slip]

/-! ### From an advance to the end of its step -/

/-- The state but for the reports of the two watch tests (R9, R118). -/
def State.watched (s : State) : State :=
  { s with enc := { s.enc with reverseReported := false }, tr := { s.tr with slipReported := false } }

theorem Nipped.watched {s t : State} (h : Nipped s t) : Nipped s.watched t.watched where
  rest := (congrArg (fun o : OffNip => { o with
    enc := { o.enc with reverseReported := false }, tr := { o.tr with slipReported := false } }) h.rest :)
  line := h.line
  rel := h.rel
  queue := h.queue
  latched := h.latched
  motion := h.motion

theorem endMoved_nipped (s : State) : Nipped s (endMoved s) := (refresh_nipped s).trans (endStep_nipped _)

/-- What an advance makes of the state, the planner and the nip at the step's end aside. -/
theorem exec_moves {s x : State} {a b : Bool} {h : Word} (g : Gauge) (adv : advancesTo s a b h)
    (hx : highWaterAdvance h (s.onto a b g h) = x) :
    ∃ t, exec (.webMotionEvent a b g) s = .next t ∧ Nipped x.watched t.watched := by
  obtain ⟨y, r, l, hy, e, -⟩ := exec_advance g adv
  rw [hx] at hy
  subst hy
  have same : State.watched { y with
    enc := { y.enc with reverseReported := r }, tr := { y.tr with slipReported := l } } = y.watched := rfl
  exact ⟨_, e, same ▸ (endMoved_nipped _).watched⟩

/-- R53: no record stands held at its overrun point. -/
def State.clearOf (h : Word) (s : State) : Prop :=
  ∀ x ∈ s.trk.queue, x.stage = .readDone → s.burstPoint x + s.setup 14 ≠ h

theorem overrunTest_clear {h : Word} {s t : State} (nip : Nipped s t) (clear : s.clearOf h) : overrunTest h t = t := by
  have setups (n : Nat) : t.setup n = s.setup n := by rw [State.setup, State.setup, nip.frame.path]
  obtain ⟨f, queue, hf⟩ := nip.queue
  have nothing : overrunAt h t = none := by
    rw [overrunAt, List.find?_eq_none, queue]
    intro x hx
    obtain ⟨z, hz, rfl⟩ := List.mem_map.mp hx
    rw [decide_eq_true_iff]
    rintro ⟨stage, at_⟩
    obtain e | ⟨-, gone, -⟩ := hf z hz
    · rw [e, State.burstPoint, setups, setups] at at_
      rw [e] at stage
      exact clear z hz stage at_
    · rw [stage] at gone
      simp at gone
  rw [overrunTest, nothing]
  split <;> rfl

theorem separationTest_nipped (s : State) : Nipped s (separationTest s) := by
  rw [separationTest]
  split
  · exact separateFired_nipped _ s
  · exact .refl s

/-- R45: no perforation passes. -/
def State.offPerf (h : Word) (s : State) : Prop := ∀ p, s.trk.nextPerf = some p → reached h p = false

theorem perforationTest_off {h : Word} {s : State} (off : s.offPerf h) : perforationTest h s = s := by
  rw [perforationTest]
  split
  · split
    · next p perf => rw [if_neg (by rw [off p perf]; exact Bool.false_ne_true)]
    · rfl
  · rfl

/-- R45, R53: an advance at which no perforation passes and no record is overrun is a matter of the nip. -/
theorem trackAdvance_quiet {h : Word} {s : State} (off : s.offPerf h) (clear : s.clearOf h) :
    trackAdvance h s = settle (separationTest s) := by
  rw [trackAdvance, perforationTest_off off]
  exact overrunTest_clear ((separationTest_nipped s).trans (settle_nipped _)) clear

theorem trackAdvance_nipped {h : Word} {s : State} (off : s.offPerf h) (clear : s.clearOf h) :
    Nipped s (trackAdvance h s) := by
  rw [trackAdvance_quiet off clear]
  exact (separationTest_nipped s).trans (settle_nipped _)

/-- R162: no registration limit in reach. -/
theorem regLimitTest_short {h : Word} {s : State}
    (short : s.seq.line ≠ .register ∨ ∀ l, s.seq.regLimit = some l → reached h l = false) : regLimitTest h s = s := by
  rw [regLimitTest]
  split
  · rfl
  · next l limit =>
    rw [if_neg]
    rintro ⟨register, -, hit⟩
    obtain other | far := short
    · exact other register
    · rw [far l limit] at hit
      cases hit

/-- A running line is not in REGISTER. -/
theorem not_register_of_running {s : State} (running : s.seq.line.running = true) : s.seq.line ≠ .register :=
  (LineState.running_cases running).2.1

/-- R45, R53: at `h` no perforation passes the records of `s`, and none of them is overrun. -/
theorem readingAdvance.clear {s : State} {a b : Bool} {g : Gauge} {h : Word} (read : readingAdvance s a b h) :
    (s.onto a b g h).offPerf h ∧ (s.onto a b g h).clearOf h :=
  ⟨read.2.2.1, fun x hx _ => read.2.2.2 x hx⟩

/-- What a sample leaves of the rest of the line: it stays as it is. -/
structure ReadOnly (s t : State) : Prop where
  trk : t.trk = s.trk
  seq : t.seq = s.seq
  path : t.path = s.path

/-- The step of an advance in whose sample the reader alone acts. -/
theorem exec_reads {s y : State} {a b : Bool} {g : Gauge} {h : Word}
    (which : advancesTo s a b h ∧ s.seq.line = .register ∧ (∀ l, s.seq.regLimit = some l → reached h l = false) ∨
      readingAdvance s a b h) (hy : readerAdvance h (s.onto a b g h) = y) (only : ReadOnly s y) :
    ∃ t, exec (.webMotionEvent a b g) s = .next t ∧ Nipped y.watched t.watched := by
  obtain ⟨adv, register, far⟩ | read := which
  · refine exec_moves g adv ?_
    rw [highWaterAdvance, hy, regLimitTest_short (.inr (by rw [only.seq]; exact far)), if_neg]
    rw [show (s.onto a b g h).seq.line = _ from register]
    exact nofun
  · have running := read.2.1
    obtain ⟨off, clear⟩ := read.clear (g := g)
    have offY : y.offPerf h := fun p hp => off p (by rw [only.trk] at hp; exact hp)
    have clearY : y.clearOf h := by
      intro x hx stage
      rw [only.trk] at hx
      rw [State.burstPoint, State.setup, State.setup, only.path]
      exact clear x hx stage
    obtain ⟨t, e, nip⟩ := exec_moves g read.1 (x := trackAdvance h y) (by
      rw [highWaterAdvance, hy, regLimitTest_short (.inl (by rw [only.seq]; exact not_register_of_running running))]
      exact if_pos running)
    exact ⟨t, e, (trackAdvance_nipped offY clearY).watched.trans nip⟩

/-! ### The samples of the mark head (R19 to R28) -/

theorem isSamplePosition_iff (s : State) (h : Word) : isSamplePosition h s = true ↔ onGrid s h := by
  rw [isSamplePosition, onGrid]
  rw [Bool.and_eq_true, decide_eq_true_iff, decide_eq_true_iff]
  change _ ∧ _ % 12 = 0 ↔ _
  constructor <;> rintro ⟨ahead, grid⟩ <;> exact ⟨ahead, by omega⟩

theorem readerAdvance_offGrid {s : State} {h : Word} (line : s.seq.line ≠ .calibrate) (off : ¬ onGrid s h) :
    readerAdvance h s = s := by
  rw [readerAdvance, if_neg line, if_neg (fun on => off ((isSamplePosition_iff s h).mp on))]

theorem readerAdvance_onGrid {s : State} {h : Word} (line : s.seq.line ≠ .calibrate) (on : onGrid s h) :
    readerAdvance h s = takeSample s.pins.mark h s := by
  rw [readerAdvance, if_neg line, if_pos ((isSamplePosition_iff s h).mpr on)]

/-- R27, R28: the reader after the dark-run watch, short of a blocked run. -/
def Reader.counted (dark : Bool) (n : Nat) (r : Reader) : Reader :=
  { r with darkRun := n, state := if r.state = .blocked ∧ dark = false then .hunt else r.state }

theorem watchSample_short {s : State} {dark : Bool} {n : Nat} (h : Word) (acts : watchActs s.seq.line = true)
    (hn : n = if dark = true then min 65535 (s.rd.darkRun + 1) else 0) (short : n ≠ 64) :
    ∃ rep, watchSample dark h s = { s with rd := s.rd.counted dark n, rep := rep } ∧ rep.latched = s.rep.latched := by
  subst hn
  rw [watchSample, if_pos acts]
  cases dark with
  | true =>
    rw [if_pos rfl, darkSample]
    dsimp only
    rw [if_pos rfl] at short
    rw [if_neg (by exact short), Reader.counted, if_neg (fun h => Bool.false_ne_true h.2.symm)]
    exact ⟨_, rfl, rfl⟩
  | false =>
    rw [if_neg Bool.false_ne_true, blankSample, Reader.counted]
    dsimp only
    by_cases blocked : s.rd.state = .blocked
    · rw [if_pos blocked, if_pos ⟨blocked, rfl⟩, offer_only]
      exact ⟨_, rfl, offer_latched _ _⟩
    · rw [if_neg blocked, if_neg (fun h => blocked h.1)]
      exact ⟨_, rfl, rfl⟩

/-- R27: the 64th dark sample. -/
theorem watchSample_blocks {s : State} (h : Word) (acts : watchActs s.seq.line = true) (run : s.rd.darkRun = 63) :
    watchSample true h s = takeFault .readerBlocked false (word 64)
      { s with rd := { s.rd with darkRun := 64, state := .blocked, regs := FrameRegs.cleared } } := by
  rw [watchSample, if_pos acts, if_pos rfl, darkSample, run]
  rfl

theorem framingActs_watch {l : LineState} (acts : framingActs l = true) :
    watchActs l = true ∧ l ≠ .calibrate ∧ l ≠ .fault := by
  rw [watchActs, acts]
  cases l <;> simp_all [framingActs, LineState.running]

/-- R21: a sample on the grid where framing acts, at which the dark run stays short, is given to the frame. -/
theorem readerAdvance_frames {s : State} {h : Word} {n : Nat} (acts : framingActs s.seq.line = true) (on : onGrid s h)
    (hn : n = if s.pins.mark = true then min 65535 (s.rd.darkRun + 1) else 0) (short : n ≠ 64) :
    ∃ rep, readerAdvance h s = frameSample s.pins.mark { s with rd := s.rd.counted s.pins.mark n, rep := rep } ∧
      rep.latched = s.rep.latched := by
  obtain ⟨watch, line, -⟩ := framingActs_watch acts
  obtain ⟨rep, e, latched⟩ := watchSample_short h watch hn short
  refine ⟨rep, ?_, latched⟩
  rw [readerAdvance_onGrid line on, takeSample, e]
  exact if_pos acts

/-- The line of an advance at which the reader frames. -/
theorem framing_of_reads {s : State} {a b : Bool} {h : Word}
    (which : advancesTo s a b h ∧ s.seq.line = .register ∧ (∀ l, s.seq.regLimit = some l → reached h l = false) ∨
      readingAdvance s a b h) : framingActs s.seq.line = true := by
  obtain ⟨-, register, -⟩ | ⟨-, running, -⟩ := which
  · rw [register]
    rfl
  · rw [framingActs, running]
    rfl

/-- A sample that is a matter of the reader alone, and what it leaves there. -/
theorem exec_samples {s : State} {a b : Bool} {g : Gauge} {h : Word} {n : Nat} {P : Reader → Prop}
    (which : advancesTo s a b h ∧ s.seq.line = .register ∧ (∀ l, s.seq.regLimit = some l → reached h l = false) ∨
      readingAdvance s a b h)
    (on : onGrid s h) (hn : n = if s.pins.mark = true then min 65535 (s.rd.darkRun + 1) else 0) (short : n ≠ 64)
    (sample : ∀ w : State, w.rd = s.rd.counted s.pins.mark n → ReadOnly s w →
      ∃ R, frameSample s.pins.mark w = { w with rd := R } ∧ P R) :
    ∃ t y, exec (.webMotionEvent a b g) s = .next t ∧ Nipped y.watched t.watched ∧ ReadOnly s y ∧
      y.pln = s.pln ∧ y.col = s.col ∧ P y.rd ∧ P t.rd := by
  have acts : framingActs s.seq.line = true := framing_of_reads which
  obtain ⟨rep, e, -⟩ := readerAdvance_frames (s := s.onto a b g h) acts on hn short
  obtain ⟨R, framed, holds⟩ := sample { s.onto a b g h with rd := s.rd.counted s.pins.mark n, rep := rep } rfl ⟨rfl, rfl, rfl⟩
  have e : readerAdvance h (s.onto a b g h) = { s.onto a b g h with rd := R, rep := rep } := e.trans framed
  obtain ⟨t, exec_, nip⟩ := exec_reads which e ⟨rfl, rfl, rfl⟩
  have rd : t.rd = R := nip.frame.rd
  exact ⟨t, _, exec_, nip, ⟨rfl, rfl, rfl⟩, rfl, rfl, holds, rd ▸ holds⟩

theorem trackAdvance_idle {s : State} (h : Word) (stands : s.seq.line.running = false) : trackAdvance h s = s := by
  have perf : perforationTest h s = s := by rw [perforationTest, stands]; rfl
  have separated : separationTest s = s := by rw [separationTest, stands]; rfl
  rw [trackAdvance, perf, separated, settle_rest stands, overrunTest, stands]
  rfl

/-- A sample that leaves the line in FAULT. -/
theorem exec_blocks {s y : State} {a b : Bool} {g : Gauge} {h : Word} (adv : advancesTo s a b h)
    (hy : readerAdvance h (s.onto a b g h) = y) (fault : y.seq.line = .fault) :
    ∃ t, exec (.webMotionEvent a b g) s = .next t ∧ t.rd = y.rd ∧ t.seq = y.seq := by
  have stands : y.seq.line.running = false := by rw [fault]; rfl
  obtain ⟨t, e, nip⟩ := exec_moves g adv (x := y) (by
    rw [highWaterAdvance, hy, regLimitTest_short (.inl (by rw [fault]; exact nofun)), trackAdvance_idle h stands]
    exact ite_self _)
  exact ⟨t, e, nip.frame.rd, nip.seq (by rw [show y.watched.seq = y.seq from rfl, fault]; exact nofun)⟩

/-! ### The frame's samples (R22 to R25) -/

theorem Reader.counted_of_not_blocked {r : Reader} (dark : Bool) (n : Nat) (free : r.state ≠ .blocked) :
    r.counted dark n = { r with darkRun := n } := by
  rw [Reader.counted, if_neg fun h => free h.1]

/-- R22: the opening flag completes: the verdict and the governing mark are the READ_OPEN record's matter. -/
theorem flagCompletes_rd (w : State) : ∃ v gov, flagCompletes w = { w with rd := { w.rd with
      state := .data, verdict := v
      regs := { w.rd.regs with sample := w.rd.regs.sample + 1, darks := 0, bits := [], governs := gov } } } ∧
    (w.seq.line = .register → v = w.rd.verdict ∧ gov = w.rd.regs.governs) := by
  rw [flagCompletes]
  dsimp only
  split
  · next running =>
    have other := not_register_of_running running
    split
    · exact ⟨_, _, rfl, fun register => absurd register other⟩
    · exact ⟨_, _, rfl, fun register => absurd register other⟩
  · exact ⟨_, _, rfl, fun _ => ⟨rfl, rfl⟩⟩

/-- R23: the bits held once one more is taken. -/
theorem takeBit_full (dark : Bool) (g : FrameRegs) : (takeBit dark g).bits.length = 53 ↔ g.bits.length = 52 := by
  rw [takeBit, List.length_append, List.length_singleton]
  exact Nat.succ_inj

/-- The reader after a sample whose frame has an equation of its own. -/
theorem advance_samples {s : State} {a b : Bool} {g : Gauge} {h : Word} {n : Nat} {t : State}
    (which : advancesTo s a b h ∧ s.seq.line = .register ∧ (∀ l, s.seq.regLimit = some l → reached h l = false) ∨
      readingAdvance s a b h)
    (hn : n = if s.pins.mark = true then s.rd.darkRun + 1 else 0) (ht : exec (.webMotionEvent a b g) s = .next t)
    (on : onGrid s h) (short : n < 64) {R : Reader}
    (sample : ∀ w : State, w.rd = s.rd.counted s.pins.mark n → frameSample s.pins.mark w = { w with rd := R }) :
    t.rd = R := by
  have counted : n = if s.pins.mark = true then min 65535 (s.rd.darkRun + 1) else 0 := by
    rw [hn]
    split
    · next dark =>
      rw [if_pos dark] at hn
      omega
    · rfl
  obtain ⟨u, -, e, -, -, -, -, -, rd⟩ := exec_samples (P := fun x => x = R) which on counted (Nat.ne_of_lt short)
    fun w hw _ => ⟨R, sample w hw, rfl⟩
  rw [Host.Outcome.next.inj (ht.symm.trans e)]
  exact rd

/-! ### MARK_EDGE (R8, R20, R36) -/

/-- R20, R21: the flag a usable edge opens in HUNT. -/
theorem startFlag_eq {s : State} (acts : framingActs s.seq.line = true) : startFlag s =
    if s.setup 12 = 0 then { s with rd := { s.rd with
      state := .flag, origin := s.enc.web, darkRun := 1, regs := { FrameRegs.cleared with sample := 1, darks := 1 } } }
    else { s with rd := { s.rd with state := .flag, origin := s.enc.web, darkRun := 0, regs := FrameRegs.cleared } } := by
  obtain ⟨u, hu⟩ : ∃ u : State, u = { s with rd := { s.rd with
    state := .flag, origin := s.enc.web, darkRun := 0, regs := FrameRegs.cleared } } := ⟨_, rfl⟩
  have watch : watchSample true s.enc.web u = { u with rd := { u.rd with darkRun := 1 } } := by
    rw [hu, watchSample, if_pos (by exact (framingActs_watch acts).1)]
    rfl
  have first : takeSample true s.enc.web u = frameSample true { u with rd := { u.rd with darkRun := 1 } } := by
    rw [takeSample, watch, hu]
    exact if_pos acts
  have e : startFlag s = if s.setup 12 = 0 then takeSample true s.enc.web u else u := by rw [hu, startFlag]
  rw [e, first, hu]
  rfl

theorem markChange_unusable {s : State} {dark : Bool}
    (no : (dark && !s.pins.mark && decide (s.enc.web = s.enc.highWater)) = false) :
    markChange dark s = { s with pins := { s.pins with mark := dark } } := by
  rw [markChange, if_neg]
  rintro ⟨d, m, front⟩
  rw [d, decide_eq_true front, Bool.eq_false_iff.mpr m] at no
  cases no

theorem markChange_usable {s : State} {dark : Bool}
    (yes : (dark && !s.pins.mark && decide (s.enc.web = s.enc.highWater)) = true) :
    markChange dark s = usableEdge { s with pins := { s.pins with mark := dark } } := by
  rw [Bool.and_eq_true, Bool.and_eq_true, Bool.not_eq_true', decide_eq_true_iff] at yes
  obtain ⟨⟨d, m⟩, front⟩ := yes
  rw [markChange, if_pos ⟨d, Bool.eq_false_iff.mp m, front⟩]

theorem usableEdge_opens {s : State} (acts : framingActs s.seq.line = true) (hunt : s.rd.state = .hunt) :
    usableEdge s = startFlag s := by
  rw [usableEdge, if_neg (framingActs_watch acts).2.1, if_pos ⟨acts, hunt⟩]

theorem usableEdge_sweeps {s : State} (line : s.seq.line = .calibrate) (seeking : s.rd.sweep.state = .seeking) :
    usableEdge s = startSweep s := by
  rw [usableEdge, if_pos line, if_pos seeking]

theorem usableEdge_idle {s : State} (h : framingActs s.seq.line = true ∧ s.rd.state ≠ .hunt ∨
    s.seq.line = .calibrate ∧ s.rd.sweep.state ≠ .seeking ∨ s.seq.line = .idle ∨ s.seq.line = .fault) :
    usableEdge s = s := by
  rw [usableEdge]
  obtain ⟨acts, busy⟩ | ⟨line, other⟩ | line | line := h
  · rw [if_neg (framingActs_watch acts).2.1, if_neg (fun h => busy h.2)]
  · rw [if_pos line, if_neg other]
  · rw [line]
    rfl
  · rw [line]
    rfl

/-! ### The sample of an advance, state by state -/

section
variable {s w : State} {n : Nat}

theorem frameSample_hunt {dark : Bool} (hw : w.rd.state = .hunt ∨ w.rd.state = .blocked) : frameSample dark w = w := by
  rw [frameSample]
  obtain e | e := hw <;> rw [e]

theorem frameSample_flag {dark : Bool} (hw : w.rd.state = .flag) : frameSample dark w = flagSample dark w := by
  rw [frameSample, hw]

theorem frameSample_data {dark : Bool} (hw : w.rd.state = .data) : frameSample dark w = dataSample dark w := by
  rw [frameSample, hw]

theorem frameSample_close {dark : Bool} (hw : w.rd.state = .close) : frameSample dark w = closeSample dark w := by
  rw [frameSample, hw]

end

/-- R22: a sample that breaks the opening flag off. -/
theorem flagSample_breaks {dark : Bool} {w : State}
    (h : w.rd.regs.sample < 5 ∧ dark = false ∨ 5 ≤ w.rd.regs.sample ∧ dark = true) :
    flagSample dark w = { w with rd := w.rd.toHunt } := by
  rw [flagSample]
  obtain ⟨early, rfl⟩ | ⟨late, rfl⟩ := h
  · rw [if_pos early]
    rfl
  · rw [if_neg (Nat.not_lt.mpr late)]
    rfl

theorem flagSample_marks {w : State} (h : w.rd.regs.sample < 5) : flagSample true w =
    setRegs .flag { w.rd.regs with sample := w.rd.regs.sample + 1, darks := w.rd.regs.darks + 1 } w := by
  rw [flagSample, if_pos h]
  rfl

theorem flagSample_completes {w : State} (h : 5 ≤ w.rd.regs.sample) : flagSample false w = flagCompletes w := by
  rw [flagSample, if_neg (Nat.not_lt.mpr h)]
  rfl

/-- R23: a bit in DATA. -/
theorem dataSample_bit {dark : Bool} {w : State} (h : w.rd.regs.darks < 4) : dataSample dark w =
    if w.rd.regs.bits.length = 52 ∧ (takeBit dark w.rd.regs).darks < 4 then
      setRegs .close { takeBit dark w.rd.regs with darks := 0 } w
    else setRegs .data (takeBit dark w.rd.regs) w := by
  rw [dataSample]
  dsimp only
  rw [if_pos h]
  simp only [takeBit_full]
  rfl

/-- R23: the sample after four dark marks in DATA. -/
theorem dataSample_stuffed {dark : Bool} {w : State} (h : w.rd.regs.darks = 4) : dataSample dark w =
    if dark = true then setRegs .data { w.rd.regs with sample := w.rd.regs.sample + 1, darks := 5 } w
    else setRegs (if w.rd.regs.bits.length = 53 then .close else .data)
      { w.rd.regs with sample := w.rd.regs.sample + 1, darks := 0 } w := by
  rw [dataSample]
  dsimp only
  rw [if_neg (by omega), if_pos h]
  cases dark
  · rw [if_neg Bool.false_ne_true, if_neg Bool.false_ne_true]
    split <;> rfl
  · rfl

theorem closeSample_marks {w : State} (h : w.rd.regs.darks < 5) : closeSample true w =
    setRegs .close { w.rd.regs with sample := w.rd.regs.sample + 1, darks := w.rd.regs.darks + 1 } w := by
  rw [closeSample, if_pos h]
  rfl

/-! ### The four clauses of O19 -/

theorem markEdge_does (s : State) (dark usable : Bool)
    (hu : usable = (dark && !s.pins.mark && decide (s.enc.web = s.enc.highWater))) :
    ∃ t, exec (.markEdge dark) s = .next t ∧
    (usable = true → framingActs s.seq.line = true → s.rd.state = .hunt → s.setup 12 ≠ 0 →
      t = { s with
        pins := { s.pins with mark := dark }
        rd := { s.rd with state := .flag, origin := s.enc.web, darkRun := 0, regs := FrameRegs.cleared } }) ∧
    (usable = true → framingActs s.seq.line = true → s.rd.state = .hunt → s.setup 12 = 0 →
      t = { s with
        pins := { s.pins with mark := dark }
        rd := { s.rd with
          state := .flag, origin := s.enc.web, darkRun := 1
          regs := { FrameRegs.cleared with sample := 1, darks := 1 } } }) ∧
    (usable = true → s.seq.line = .calibrate → s.rd.sweep.state = .seeking →
      t = { s with
        pins := { s.pins with mark := dark }
        rd := { s.rd with sweep := { s.rd.sweep with
          state := .sweeping, edge := s.enc.web, passMap := List.replicate 12 true } } }) ∧
    (usable = false ∨ framingActs s.seq.line = true ∧ s.rd.state ≠ .hunt
        ∨ s.seq.line = .calibrate ∧ s.rd.sweep.state ≠ .seeking ∨ s.seq.line = .idle ∨ s.seq.line = .fault →
      t = { s with pins := { s.pins with mark := dark } }) := by
  refine ⟨markChange dark s, rfl, fun yes acts hunt phase => ?_, fun yes acts hunt phase => ?_, fun yes line seeking => ?_,
    fun idle => ?_⟩
  · rw [markChange_usable (hu ▸ yes), usableEdge_opens (by exact acts) (by exact hunt), startFlag_eq (by exact acts)]
    exact if_neg phase
  · rw [markChange_usable (hu ▸ yes), usableEdge_opens (by exact acts) (by exact hunt), startFlag_eq (by exact acts)]
    exact if_pos phase
  · rw [markChange_usable (hu ▸ yes), usableEdge_sweeps (by exact line) (by exact seeking)]
    rfl
  · by_cases yes : usable = true
    · rw [markChange_usable (hu ▸ yes)]
      exact usableEdge_idle (idle.resolve_left fun no => Bool.false_ne_true (no.symm.trans yes))
    · exact markChange_unusable (hu ▸ Bool.eq_false_iff.mpr yes)

/-- R19, R27, R28: an advance in FAULT. -/
theorem advance_inFault {s : State} {a b : Bool} {g : Gauge} {h : Word} (adv : advancesTo s a b h)
    (fault : s.seq.line = .fault) : ∃ t, exec (.webMotionEvent a b g) s = .next t ∧ t.seq.line = .fault ∧
        t.seq.firstFault = s.seq.firstFault ∧
        (¬ onGrid s h → t.rd = s.rd) ∧
        (onGrid s h → s.pins.mark = false →
          t.rd = { s.rd with darkRun := 0, state := (if s.rd.state = .blocked then .hunt else s.rd.state) }) ∧
        (onGrid s h → s.pins.mark = true → s.rd.darkRun ≠ 63 →
          t.rd = { s.rd with darkRun := min 65535 (s.rd.darkRun + 1) } ∧ t.seq = s.seq) ∧
        (onGrid s h → s.pins.mark = true → s.rd.darkRun = 63 → s.seq.startupComplete = true →
          t.rd = { s.rd with darkRun := 64, state := .blocked, regs := FrameRegs.cleared } ∧
          t.seq = { s.seq with added := min 255 (s.seq.added + 1) }) := by
  have notCal : s.seq.line ≠ .calibrate := by rw [fault]; exact nofun
  have watch : watchActs s.seq.line = true := by rw [fault]; rfl
  obtain ⟨y, hy⟩ : ∃ y, readerAdvance h (s.onto a b g h) = y := ⟨_, rfl⟩
  have faultY : y.seq.line = .fault := by
    rw [← hy]
    exact (readerAdvance_keeps h _).fault fault
  obtain ⟨t, e, rd, seq⟩ := exec_blocks adv hy faultY
  have offGrid (off : ¬ onGrid s h) : y = s.onto a b g h := by
    rw [← hy]
    exact readerAdvance_offGrid notCal off
  have sampled (on : onGrid s h) : y = watchSample s.pins.mark h (s.onto a b g h) := by
    have stays : (watchSample s.pins.mark h (s.onto a b g h)).seq.line = .fault :=
      (watchSample_keeps s.pins.mark h _).fault fault
    rw [← hy, readerAdvance_onGrid (s := s.onto a b g h) notCal on, takeSample]
    have unframed : framingActs (watchSample s.pins.mark h (s.onto a b g h)).seq.line = false := congrArg framingActs stays
    exact if_neg fun frames => Bool.false_ne_true (unframed.symm.trans frames)
  have short {n : Nat} (on : onGrid s h) (hn : n = if s.pins.mark = true then min 65535 (s.rd.darkRun + 1) else 0)
      (far : n ≠ 64) : t.rd = s.rd.counted s.pins.mark n ∧ t.seq = s.seq := by
    obtain ⟨rep, does, -⟩ := watchSample_short (s := s.onto a b g h) h watch hn far
    rw [rd, seq, sampled on, does]
    exact ⟨rfl, rfl⟩
  have blocks (on : onGrid s h) (dark : s.pins.mark = true) (run : s.rd.darkRun = 63) : y =
      takeFault .readerBlocked false (word 64)
        { s.onto a b g h with rd := { s.rd with darkRun := 64, state := .blocked, regs := FrameRegs.cleared } } := by
    rw [sampled on, dark]
    exact watchSample_blocks h watch run
  refine ⟨t, e, by rw [seq, faultY], ?_, fun off => by rw [rd, offGrid off]; rfl, fun on blank => ?_, fun on dark other => ?_,
    fun on dark run up => ?_⟩
  · by_cases on : onGrid s h
    · by_cases dark : s.pins.mark = true
      · by_cases run : s.rd.darkRun = 63
        · rw [seq, blocks on dark run]
          cases up : s.seq.startupComplete with
          | true =>
            obtain ⟨r, added⟩ := takeFault_added .readerBlocked false (word 64) (s := { s.onto a b g h with
              rd := { s.rd with darkRun := 64, state := .blocked, regs := FrameRegs.cleared } }) up fault
            rw [added]
            rfl
          | false => rw [takeFault_early _ _ _ (by exact up)]; rfl
        · rw [(short on (by rw [if_pos dark]) (by omega)).2]
      · rw [(short on (by rw [if_neg dark]) (by decide)).2]
    · rw [seq, offGrid on]
      rfl
  · rw [(short on (by rw [if_neg (by rw [blank]; exact Bool.false_ne_true)]) (by decide)).1, blank, Reader.counted]
    simp only [and_true]
  · obtain ⟨rd', seq'⟩ := short on (by rw [if_pos dark]) (by omega)
    refine ⟨?_, seq'⟩
    rw [rd', dark, Reader.counted, if_neg (fun h => Bool.false_ne_true h.2.symm)]
  · obtain ⟨r, added⟩ := takeFault_added .readerBlocked false (word 64) (s := { s.onto a b g h with
      rd := { s.rd with darkRun := 64, state := .blocked, regs := FrameRegs.cleared } }) up fault
    rw [rd, seq, blocks on dark run, added]
    exact ⟨rfl, rfl⟩

/-- R27: the 64th dark sample takes READER_BLOCKED as the first fault. -/
theorem advance_blocked {s : State} {a b : Bool} {g : Gauge} {h : Word} (adv : advancesTo s a b h)
    (acts : framingActs s.seq.line = true) (on : onGrid s h) (dark : s.pins.mark = true) (run : s.rd.darkRun = 63)
    (up : s.seq.startupComplete = true) : ∃ t, exec (.webMotionEvent a b g) s = .next t ∧ t.seq.line = .fault ∧
      t.seq.firstFault = .readerBlocked ∧ t.rd.state = .blocked ∧ t.rd.darkRun = 64 := by
  obtain ⟨watch, notCal, line⟩ := framingActs_watch acts
  obtain ⟨r, first, -⟩ := takeFault_first .readerBlocked false (word 64) (s := { s.onto a b g h with
    rd := { s.rd with darkRun := 64, state := .blocked, regs := FrameRegs.cleared } }) up line
  have sampled : readerAdvance h (s.onto a b g h) = State.faulted .readerBlocked r { s.onto a b g h with
      rd := { s.rd with darkRun := 64, state := .blocked, regs := FrameRegs.cleared } } := by
    rw [readerAdvance_onGrid (s := s.onto a b g h) notCal on, show (s.onto a b g h).pins.mark = true from dark, takeSample,
      watchSample_blocks h (by exact watch) (by exact run), show (s.onto a b g h).rd = s.rd from rfl, first]
    rfl
  obtain ⟨t, e, rd, seq⟩ := exec_blocks adv sampled rfl
  exact ⟨t, e, by rw [seq]; rfl, by rw [seq]; rfl, by rw [rd]; rfl, by rw [rd]; rfl⟩

/-- R21 to R25, R27, R28: an advance at which the reader frames. -/
theorem advance_reads {s : State} {a b : Bool} {g : Gauge} {h : Word} {n : Nat}
    (which : advancesTo s a b h ∧ s.seq.line = .register ∧ (∀ l, s.seq.regLimit = some l → reached h l = false) ∨
      readingAdvance s a b h)
    (hn : n = if s.pins.mark = true then s.rd.darkRun + 1 else 0) :
      ∃ t, exec (.webMotionEvent a b g) s = .next t ∧
        (¬ onGrid s h → t.rd = s.rd) ∧
        (onGrid s h → n < 64 → s.rd.state = .hunt → t.rd = { s.rd with darkRun := n }) ∧
        (onGrid s h → n < 64 → s.rd.state = .flag →
          (s.rd.regs.sample < 5 → s.pins.mark = true → t.rd = { s.rd with
            darkRun := n, regs := { s.rd.regs with sample := s.rd.regs.sample + 1, darks := s.rd.regs.darks + 1 } }) ∧
          (5 ≤ s.rd.regs.sample → s.pins.mark = false → t.rd = { s.rd with
            darkRun := n, state := .data, verdict := t.rd.verdict
            regs := { s.rd.regs with
              sample := s.rd.regs.sample + 1, darks := 0, bits := [], governs := t.rd.regs.governs } } ∧
            (s.seq.line = .register → t.rd.verdict = s.rd.verdict ∧ t.rd.regs.governs = s.rd.regs.governs)) ∧
          (s.rd.regs.sample < 5 ∧ s.pins.mark = false ∨ 5 ≤ s.rd.regs.sample ∧ s.pins.mark = true →
            t.rd = { s.rd with darkRun := n, state := .hunt, regs := FrameRegs.cleared })) ∧
        (onGrid s h → n < 64 → s.rd.state = .data →
          (s.rd.regs.darks < 4 → ∀ v : FrameRegs, v = { s.rd.regs with
              sample := s.rd.regs.sample + 1, darks := (if s.pins.mark = true then s.rd.regs.darks + 1 else 0)
              bits := s.rd.regs.bits ++ [s.pins.mark]
              check := (if s.rd.regs.bits.length < 37 then checkStep s.rd.regs.check s.pins.mark else s.rd.regs.check) } →
            (s.rd.regs.bits.length ≠ 52 ∨ 4 ≤ v.darks → t.rd = { s.rd with darkRun := n, regs := v }) ∧
            (s.rd.regs.bits.length = 52 → v.darks < 4 →
              t.rd = { s.rd with darkRun := n, state := .close, regs := { v with darks := 0 } })) ∧
          (s.rd.regs.darks = 4 → s.pins.mark = true → t.rd = { s.rd with
            darkRun := n, regs := { s.rd.regs with sample := s.rd.regs.sample + 1, darks := 5 } }) ∧
          (s.rd.regs.darks = 4 → s.pins.mark = false → t.rd = { s.rd with
            darkRun := n, state := (if s.rd.regs.bits.length = 53 then .close else .data)
            regs := { s.rd.regs with sample := s.rd.regs.sample + 1, darks := 0 } })) ∧
        (onGrid s h → n < 64 → s.rd.state = .close → s.rd.regs.darks < 5 → s.pins.mark = true → t.rd = { s.rd with
          darkRun := n
          regs := { s.rd.regs with sample := s.rd.regs.sample + 1, darks := s.rd.regs.darks + 1 } }) ∧
        (onGrid s h → n = 64 → s.seq.startupComplete = true →
          t.seq.line = .fault ∧ t.seq.firstFault = .readerBlocked ∧ t.rd.state = .blocked ∧ t.rd.darkRun = 64) ∧
        (onGrid s h → s.pins.mark = false → s.rd.state = .blocked →
          t.rd = { s.rd with darkRun := 0, state := .hunt }) := by
  have acts := framing_of_reads which
  have adv : advancesTo s a b h := which.elim (·.1) (·.1)
  obtain ⟨t, ht⟩ : ∃ t, exec (.webMotionEvent a b g) s = .next t := ⟨_, rfl⟩
  -- what a sample leaves, where the reader is not BLOCKED
  have sampled (on : onGrid s h) (short : n < 64) (free : s.rd.state ≠ .blocked) {R : Reader}
      (sample : ∀ w : State, w.rd = { s.rd with darkRun := n } → frameSample s.pins.mark w = { w with rd := R }) :
      t.rd = R :=
    advance_samples which hn ht on short fun w hw => sample w (hw.trans (Reader.counted_of_not_blocked _ _ free))
  refine ⟨t, ht, fun off => ?_, fun on short hunt => ?_, fun on short flag => ⟨fun early dark => ?_, fun late blank => ?_,
    fun broken => ?_⟩, fun on short data => ⟨fun few v hv => ⟨fun more => ?_, fun full few' => ?_⟩, fun four dark => ?_,
    fun four blank => ?_⟩, fun on short close few dark => ?_, fun on last up => ?_, fun on blank blocked => ?_⟩
  · obtain ⟨u, e, nip⟩ := exec_reads which (readerAdvance_offGrid (s := s.onto a b g h) (framingActs_watch acts).2.1 off)
      ⟨rfl, rfl, rfl⟩
    rw [Host.Outcome.next.inj (ht.symm.trans e)]
    exact nip.frame.rd
  · refine sampled on short (by rw [hunt]; exact nofun) fun w hw => ?_
    rw [frameSample_hunt (.inl (by rw [hw]; exact hunt)), ← hw]
  · refine (sampled on short (by rw [flag]; exact nofun) (R := { s.rd with
      darkRun := n, state := .flag, regs := { s.rd.regs with
        sample := s.rd.regs.sample + 1, darks := s.rd.regs.darks + 1 } }) fun w hw => ?_).trans (by rw [← flag])
    rw [frameSample_flag (by rw [hw]; exact flag), dark, flagSample_marks (by rw [hw]; exact early), setRegs, hw]
  · have free : s.rd.state ≠ .blocked := by rw [flag]; exact nofun
    have counted : n = if s.pins.mark = true then min 65535 (s.rd.darkRun + 1) else 0 := by rw [hn, blank]; rfl
    obtain ⟨u, -, e, -, -, -, -, -, v, gov, rd, register⟩ := exec_samples (P := fun R => ∃ v gov, R = { s.rd with
        darkRun := n, state := .data, verdict := v
        regs := { s.rd.regs with sample := s.rd.regs.sample + 1, darks := 0, bits := [], governs := gov } } ∧
        (s.seq.line = .register → v = s.rd.verdict ∧ gov = s.rd.regs.governs)) which on counted (Nat.ne_of_lt short)
      fun w hw only => by
        rw [Reader.counted_of_not_blocked _ _ free] at hw
        obtain ⟨v, gov, e, register⟩ := flagCompletes_rd w
        refine ⟨_, by rw [frameSample_flag (by rw [hw]; exact flag), blank, flagSample_completes (by rw [hw]; exact late), e],
          v, gov, by rw [hw], fun line => ?_⟩
        rw [hw] at register
        exact register (by rw [only.seq]; exact line)
    rw [Host.Outcome.next.inj (ht.symm.trans e), rd]
    exact ⟨rfl, register⟩
  · refine sampled on short (by rw [flag]; exact nofun) fun w hw => ?_
    rw [frameSample_flag (by rw [hw]; exact flag), flagSample_breaks (by rw [hw]; exact broken), hw]
    rfl
  · have bit := sampled on short (by rw [data]; exact nofun) (R := { s.rd with
      darkRun := n, state := .data, regs := v }) fun w hw => by
        rw [frameSample_data (by rw [hw]; exact data), dataSample_bit (by rw [hw]; exact few), hw, if_neg]
        · rw [setRegs, hw, hv]
          rfl
        · rintro ⟨full, less⟩
          rw [hv] at more
          exact more.elim (· full) fun four => absurd four (Nat.not_le.mpr less)
    exact bit.trans (by rw [← data])
  · refine sampled on short (by rw [data]; exact nofun) fun w hw => ?_
    rw [frameSample_data (by rw [hw]; exact data), dataSample_bit (by rw [hw]; exact few), hw,
      if_pos ⟨full, by rw [hv] at few'; exact few'⟩, setRegs, hw, hv]
    rfl
  · refine (sampled on short (by rw [data]; exact nofun) (R := { s.rd with
      darkRun := n, state := .data, regs := { s.rd.regs with sample := s.rd.regs.sample + 1, darks := 5 } })
      fun w hw => ?_).trans (by rw [← data])
    rw [frameSample_data (by rw [hw]; exact data), dataSample_stuffed (by rw [hw]; exact four), dark, if_pos rfl, setRegs, hw]
  · refine sampled on short (by rw [data]; exact nofun) fun w hw => ?_
    rw [frameSample_data (by rw [hw]; exact data), dataSample_stuffed (by rw [hw]; exact four), blank,
      if_neg Bool.false_ne_true, setRegs, hw]
  · refine (sampled on short (by rw [close]; exact nofun) (R := { s.rd with
      darkRun := n, state := .close, regs := { s.rd.regs with
        sample := s.rd.regs.sample + 1, darks := s.rd.regs.darks + 1 } }) fun w hw => ?_).trans (by rw [← close])
    rw [frameSample_close (by rw [hw]; exact close), dark, closeSample_marks (by rw [hw]; exact few), setRegs, hw]
  · have dark : s.pins.mark = true := by
      by_contra blank
      rw [if_neg blank, last] at hn
      cases hn
    have run : s.rd.darkRun = 63 := by
      rw [if_pos dark, last] at hn
      exact (Nat.succ.inj hn).symm
    obtain ⟨u, e, does⟩ := advance_blocked adv acts on dark run up
    rw [Host.Outcome.next.inj (ht.symm.trans e)]
    exact does
  · have zero : n = 0 := by rw [hn, if_neg (by rw [blank]; exact Bool.false_ne_true)]
    refine (advance_samples which hn ht on (by rw [zero]; decide) (R := { s.rd with
      darkRun := 0, state := .hunt }) fun w hw => ?_)
    have counted : s.rd.counted s.pins.mark n = { s.rd with darkRun := 0, state := .hunt } := by
      rw [Reader.counted, if_pos ⟨blocked, blank⟩, zero]
    rw [counted] at hw
    rw [frameSample_hunt (.inl (by rw [hw])), ← hw]

/-! ### The sweep (R36 to R38, R163) -/

/-- R38, R163: what the end of the sweep leaves. -/
theorem sweepEnds_does (edge : Word) {s : State} (length : s.path.shadow.length = 40) :
    (sweepEnds edge s).seq.line = .idle ∧ (sweepEnds edge s).latches .calibrated ∧
      (sweepEnds edge s).rd.sweep.state = .off ∧ (sweepEnds edge s).tr.driveEnable = false ∧
      (sweepEnds edge s).setup 12 = (if s.rd.sweep.passMap.any id = true then word (chosenPhase s.rd.sweep.passMap)
        else s.setup 12) ∧
      (∀ n, n ≠ 12 → (sweepEnds edge s).setup n = s.setup n) ∧ (sweepEnds edge s).path.written = s.path.written ∧
      ((sweepEnds edge s).path.phaseReport = true ↔
        s.rd.sweep.passMap.any id = true ∨ s.path.phaseReport = true) := by
  obtain ⟨u, hu⟩ : ∃ u : State, u = (if s.rd.sweep.passMap.any id = true then { s with
      rd := { s.rd with sweep := { s.rd.sweep with state := .off } }
      path := { s.path with
        shadow := s.path.shadow.set 12 (word (chosenPhase s.rd.sweep.passMap)), phaseReport := true } }
    else { s with rd := { s.rd with sweep := { s.rd.sweep with state := .off } } }) := ⟨_, rfl⟩
  obtain ⟨e, he⟩ : ∃ e, sweepEnds edge s = offer e (latch .calibrated (enterIdle u)) := ⟨_, by rw [hu]; rfl⟩
  obtain ⟨only, -, -, -, drive, -, -⟩ := enterIdle_eq u
  have path : (sweepEnds edge s).path = u.path := by
    rw [he, offer_only]
    exact (congrArg State.path only :)
  have setups (n : Nat) : (sweepEnds edge s).setup n = u.setup n := by rw [State.setup, State.setup, path]
  have latched : (sweepEnds edge s).latches .calibrated := by
    rw [he]
    exact (Nipped.offer _ _).latched _ (latch_latches _ _)
  have rd : (sweepEnds edge s).rd = u.rd := by
    rw [he, offer_only]
    exact (congrArg State.rd only :)
  refine ⟨?_, latched, ?_, ?_, ?_, fun n other => ?_, ?_, ?_⟩
  · rw [he, offer_only]
    exact (congrArg (fun x : State => x.seq.line) only :)
  · rw [rd, hu]
    split <;> rfl
  · rw [he, offer_only]
    exact drive
  · rw [setups, hu]
    split
    · exact getD_set_self (by omega) _ _
    · rfl
  · rw [setups, hu]
    split
    · exact getD_set_ne _ other.symm _ _
    · rfl
  · rw [path, hu]
    split <;> rfl
  · rw [path, hu]
    split
    · next passed => exact ⟨fun _ => .inl passed, fun _ => rfl⟩
    · next failed => exact ⟨.inr, fun h => h.resolve_left failed⟩

/-- R37: a sample of the sweep. -/
theorem sweepSample_eq (dark : Bool) {d : Int} (from_ : 1 ≤ d) (w : Sweep) : sweepSample dark d.toNat w =
    if (dark = true ↔ d / 12 % 2 = 0) then w else { w with passMap := w.passMap.set (d % 12).toNat false } := by
  obtain ⟨n, rfl⟩ := Int.eq_ofNat_of_zero_le (by omega : 0 ≤ d)
  rw [sweepSample, Int.toNat_natCast]
  have phase : ((n : Int) % 12).toNat = n % 12 := by omega
  have half : ((n : Int) / 12 % 2 = 0) ↔ n / 12 % 2 = 0 := by omega
  rw [phase]
  simp only [half]
  cases dark <;> simp

/-- R36 to R38: an advance in CALIBRATE. -/
theorem advance_sweeps {s : State} {a b : Bool} {g : Gauge} {h : Word} {d : Int} {done : Prop} (adv : advancesTo s a b h)
    (line : s.seq.line = .calibrate) (shadow : ShadowOk s) (hd : d = signedDiff h s.rd.sweep.edge)
    (hdone : done ↔ s.rd.sweep.state = .seeking ∧ reached h s.rd.sweep.seekLimit = true ∨
        s.rd.sweep.state = .sweeping ∧ 780 ≤ d) :
      ∃ t, exec (.webMotionEvent a b g) s = .next t ∧
        (done → t.seq.line = .idle ∧ t.latches .calibrated ∧ t.rd.sweep.state = .off ∧ t.tr.driveEnable = false ∧
          t.setup 12 = (if s.rd.sweep.passMap.any id = true then BitVec.ofNat 32 (chosenPhase s.rd.sweep.passMap)
            else s.setup 12) ∧
          (∀ n, n ≠ 12 → t.setup n = s.setup n) ∧ t.path.written = s.path.written ∧
          (t.path.phaseReport = true ↔ s.rd.sweep.passMap.any id = true ∨ s.path.phaseReport = true)) ∧
        (¬ done → t.seq = s.seq ∧ t.path = s.path ∧
          (s.rd.sweep.state = .sweeping → 1 ≤ d → d ≤ 767 → (s.pins.mark = true ↔ d / 12 % 2 = 1) →
            t.rd = { s.rd with sweep := { s.rd.sweep with passMap := s.rd.sweep.passMap.set (d % 12).toNat false } }) ∧
          (s.rd.sweep.state ≠ .sweeping ∨ d < 1 ∨ 767 < d ∨ (s.pins.mark = true ↔ d / 12 % 2 = 0) → t.rd = s.rd)) := by
  obtain ⟨y, hy⟩ : ∃ y, sweepAdvance h (s.onto a b g h) = y := ⟨_, rfl⟩
  have calibrate : (s.onto a b g h).seq.line = .calibrate := line
  have whole (stays : y.seq.line ≠ .register) : highWaterAdvance h (s.onto a b g h) = y := by
    rw [highWaterAdvance, readerAdvance, if_pos calibrate, hy, regLimitTest_short (.inl stays), calibrate]
    rfl
  obtain ⟨t, ht⟩ : ∃ t, exec (.webMotionEvent a b g) s = .next t := ⟨_, rfl⟩
  have moves (line : y.seq.line ≠ .register) (line' : y.seq.line ≠ .halting) : t.rd = y.rd ∧ t.seq = y.seq ∧ t.path = y.path ∧
      t.tr.driveEnable = y.tr.driveEnable ∧ ∀ c, y.latches c → t.latches c := by
    obtain ⟨u, e, nip⟩ := exec_moves g adv (whole line)
    rw [Host.Outcome.next.inj (ht.symm.trans e)]
    exact ⟨nip.frame.rd, nip.seq line', nip.frame.path, (congrArg (fun o => o.tr.driveEnable) nip.rest :), nip.latched⟩
  refine ⟨t, ht, fun yes => ?_, fun no => ?_⟩
  · obtain ⟨edge, ends⟩ : ∃ edge, y = sweepEnds edge (s.onto a b g h) := by
      rw [← hy, sweepAdvance.eq_def, show (s.onto a b g h).rd = s.rd from rfl, ← hd]
      obtain ⟨seeking, hit⟩ | ⟨sweeping, far⟩ := hdone.mp yes
      · rw [seeking]
        exact ⟨0, if_pos hit⟩
      · rw [sweeping]
        exact ⟨_, if_pos far⟩
    obtain ⟨idle, latched, off, drive, phase, setups, written, report⟩ :=
      sweepEnds_does edge (s := s.onto a b g h) shadow.1
    rw [← ends] at idle latched off drive phase setups written report
    obtain ⟨rd, seq, path, tr, keeps⟩ := moves (by rw [idle]; exact nofun) (by rw [idle]; exact nofun)
    have same (n : Nat) : t.setup n = y.setup n := by rw [State.setup, State.setup, path]
    exact ⟨by rw [seq, idle], keeps _ latched, by rw [rd, off], by rw [tr, drive], by rw [same, phase]; rfl,
      fun n other => (same n).trans (setups n other), by rw [path, written]; rfl, by rw [path]; exact report⟩
  · have goes : y.seq = s.seq ∧ y.path = s.path ∧ y.rd = if s.rd.sweep.state = .sweeping ∧ 1 ≤ d ∧ d ≤ 767 then
        { s.rd with sweep := sweepSample s.pins.mark d.toNat s.rd.sweep } else s.rd := by
      rw [← hy, sweepAdvance.eq_def, show (s.onto a b g h).rd = s.rd from rfl, ← hd]
      cases state : s.rd.sweep.state with
      | off => exact ⟨rfl, rfl, (if_neg (fun h => nomatch h.1)).symm⟩
      | seeking =>
        dsimp only
        rw [if_neg fun hit => no (hdone.mpr (.inl ⟨state, hit⟩)), if_neg (fun h => nomatch h.1)]
        exact ⟨rfl, rfl, rfl⟩
      | sweeping =>
        dsimp only
        rw [if_neg fun far => no (hdone.mpr (.inr ⟨state, far⟩))]
        split
        · next near => exact ⟨rfl, rfl, (if_pos ⟨rfl, near⟩).symm⟩
        · next out => exact ⟨rfl, rfl, (if_neg fun h => out h.2).symm⟩
    obtain ⟨seqY, pathY, rdY⟩ := goes
    obtain ⟨rd, seq, path, -⟩ := moves (by rw [seqY, line]; exact nofun) (by rw [seqY, line]; exact nofun)
    refine ⟨seq.trans seqY, path.trans pathY, fun sweeping near inside fails => ?_, fun keeps => ?_⟩
    · rw [rd, rdY, if_pos ⟨sweeping, near, inside⟩, sweepSample_eq _ near, if_neg]
      rw [fails]
      omega
    · rw [rd, rdY]
      split
      · next all =>
        obtain ⟨sweeping, near, inside⟩ := all
        have agrees : s.pins.mark = true ↔ d / 12 % 2 = 0 := by
          obtain other | out | out | agrees := keeps
          · exact absurd sweeping other
          · omega
          · omega
          · exact agrees
        rw [sweepSample_eq _ near, if_pos agrees]
      · rfl

/-- Settles O19: `markEdge_does`, `advance_reads`, `advance_inFault` and `advance_sweeps`. -/
theorem markEdgeStartsFlagOrSweep : Obligations.MarkEdgeStartsFlagOrSweep := by
  unfold Obligations.MarkEdgeStartsFlagOrSweep
  exact ⟨markEdge_does, fun s a b g h n which hn => advance_reads which hn,
    fun s a b g h adv fault => advance_inFault adv fault,
    fun s a b g h d done adv line shadow hd hdone => advance_sweeps adv line shadow hd hdone⟩

/-! ### A record re-anchored onto another (R48) -/

/-- RUN with a FIRED record past its burst point, and 1,000 tu before it a READ_OPEN one, the gate sheet, whose governing
frame of deviation 1,000 is about to end with OK. -/
def aboutToMeet : State :=
  { State.reset with
    seq := { Sequencer.reset with startupComplete := true, line := .run }
    enc := { Encoder.reset with web := 50000, highWater := 50000 }
    rd := { Reader.reset with
      origin := 49995, state := .close
      regs := { FrameRegs.cleared with darks := 5, governs := true }
      verdict := { governing := some { edge := 0, d := 1000, result := none }, conflict := false } }
    trk := { Tracking.reset with queue := [strayRecord 3000 .fired (some 1), strayRecord 2000 .readOpen none] }
    tr := { Transport.reset with command := 50001 } }

/-- The frame that ends there. -/
def metFrame : Frame := { tag := 0, serial := 0, index := 0, isLast := false }

theorem aboutToMeet_reads : readingAdvance aboutToMeet true false 50001 := by
  unfold readingAdvance advancesTo noOverrun
  refine ⟨by decide, rfl, nofun, ?_⟩
  decide

/-- Refutes O16, in its clause of the gate sheet: no hypothesis of that clause keeps another record off the anchor the
READ_OPEN record moves to. In `aboutToMeet` the record moves by 1,000 tu onto the anchor of a FIRED one (R48), whose
separation in the same advance (R52), written into the records of that anchor, takes both from the planner, which then
names no gate sheet (R95). -/
theorem not_printedFrameReadsBack : ¬ Obligations.PrintedFrameReadsBack := by
  unfold Obligations.PrintedFrameReadsBack
  rintro ⟨-, -, -, frameEnds_, -⟩
  have ends : endsFrame aboutToMeet (.ok metFrame) := by
    unfold endsFrame
    exact .inr (.inr (by decide))
  have alone : onlyOne aboutToMeet (strayRecord 2000 .readOpen none) := by
    unfold onlyOne
    decide
  obtain ⟨t, done, -, -, -, -, -, anchored, -⟩ := frameEnds_ aboutToMeet true false aboutToMeet.pins.gauge 50001
    (strayRecord 2000 .readOpen none) { edge := 0, d := 1000, result := none } (.ok metFrame) aboutToMeet_reads
    (by unfold onGrid; decide) (by decide) ends rfl alone rfl nofun
  obtain ⟨-, -, -, -, -, -, gate⟩ := anchored metFrame rfl rfl
  have isGate : isGateSheet aboutToMeet (strayRecord 2000 .readOpen none) := by
    unfold isGateSheet
    decide
  have names := (gate isGate rfl).1
  have moved : t = webChannels true false (setGauge aboutToMeet.pins.gauge aboutToMeet) :=
    (Host.Outcome.next.inj done).symm
  have namesNone : (webChannels true false (setGauge aboutToMeet.pins.gauge aboutToMeet)).pln.gateSheet = none := by decide
  rw [moved, namesNone] at names
  cases names

/-! ### A record that stands twice (R45) -/

/-- RUN, a step short of a perforation, with the READ_OPEN record at both ends of the queue and between them a READ_DONE
one with a tag that is neither the job's nor a separator's. -/
def standsTwice : State :=
  { State.reset with
    seq := { Sequencer.reset with startupComplete := true, line := .run }
    enc := { Encoder.reset with web := 50000, highWater := 50000 }
    rd := { Reader.reset with origin := 50000 }
    trk := { Tracking.reset with
      registered := true, nextPerf := some 50001
      queue := [strayRecord 2000 .readOpen none,
        { strayRecord 1000 .readDone none with
          result := .ok, frame := some { tag := 99, serial := 1, index := 0, isLast := false } },
        strayRecord 2000 .readOpen none] }
    tr := { Transport.reset with command := 50001 } }

/-- Refutes O17, in its clause of the perforation: `onlyOne` lets the READ_OPEN record stand twice. In `standsTwice` the
collator goes on from the settled record to the one behind its first place (R75), whose foreign tag takes FOREIGN_SHEET
(R78); the fault ends the perforation before its next position is set (R62). -/
theorem not_webMotionCountsTravel : ¬ Obligations.WebMotionCountsTravel := by
  unfold Obligations.WebMotionCountsTravel
  rintro ⟨-, -, -, perforates, -⟩
  have advances : advancesTo standsTwice true false 50001 := by
    unfold advancesTo
    decide
  have off : ¬ onGrid standsTwice 50001 := by
    unfold onGrid
    decide
  have clear : noOverrun standsTwice 50001 := by
    unfold noOverrun
    decide
  have alone : onlyOne standsTwice (strayRecord 2000 .readOpen none) := by
    unfold onlyOne
    decide
  have fresh : ∀ x ∈ standsTwice.trk.queue, x.anchor ≠ 50001 := by decide
  have unread : settles standsTwice.rd.verdict .noFrame none := .inl ⟨rfl, rfl, rfl⟩
  obtain ⟨t, done, -, -, creates, -⟩ := perforates standsTwice true false standsTwice.pins.gauge 50001
    (strayRecord 2000 .readOpen none) .noFrame none advances rfl rfl rfl rfl off clear rfl rfl alone fresh unread nofun
  have moved : t = webChannels true false (setGauge standsTwice.pins.gauge standsTwice) :=
    (Host.Outcome.next.inj done).symm
  have stays : (webChannels true false (setGauge standsTwice.pins.gauge standsTwice)).trk.nextPerf = some 50001 := by decide
  have next := (creates (by decide)).1
  rw [moved, stays] at next
  exact absurd next (by decide)

/-! ### Which line of R78's table a frame fits -/

/-- A frame of the job: its tag is neither a separator's nor foreign (R78). -/
def State.own (f : Frame) (s : State) : Prop := f.tag ≠ 0 ∧ f.tag.setWidth 32 = s.setup 8

theorem frameCase_separator {f : Frame} (s : State) (tag : f.tag = 0) : frameCase f s = .separator := by
  rw [frameCase, if_pos tag]

theorem frameCase_foreign {f : Frame} {s : State} (tag : f.tag ≠ 0) (other : f.tag.setWidth 32 ≠ s.setup 8) :
    frameCase f s = .foreign := by
  rw [frameCase, if_neg tag, if_pos other]

theorem frameCase_own {f : Frame} {s : State} (own : s.own f) : frameCase f s =
    match (currentTicket s).filter fun t => t.serial = f.serial with
    | some t => .current t
    | none => match matchWaiting f.serial s with
      | some t => .newer t
      | none => if lateSerial f.serial s then .late else .unknown := by
  rw [frameCase, if_neg own.1]
  exact if_neg fun other => other own.2

theorem collating_of_collates {s : State} {k : Ticket} (h : collates s k) : collating s = some k := h.1

theorem collating_of_boundary {s : State} (h : ∀ x ∈ s.tix.table, x.state ≠ .collating) : collating s = none := by
  rw [collating, List.find?_eq_none]
  intro x hx
  rw [decide_eq_true_iff]
  exact h x hx

theorem closeCollating_of_boundary {s : State} (h : ∀ x ∈ s.tix.table, x.state ≠ .collating) : closeCollating s = s := by
  rw [closeCollating, collating_of_boundary h]

theorem closeCollating_of_collates {s : State} {k : Ticket} (h : collates s k) : closeCollating s = closePiece k.ring s := by
  rw [closeCollating, collating_of_collates h]

theorem currentTicket_of_collating {s : State} {k : Ticket} (h : collating s = some k) : currentTicket s = some k := by
  rw [currentTicket, h]

theorem frameCase_current {f : Frame} {s : State} {k : Ticket} (own : s.own f) (h : currentTicket s = some k)
    (serial : k.serial = f.serial) : frameCase f s = .current k := by
  rw [frameCase_own own, h, Option.filter_some, if_pos (decide_eq_true serial)]

theorem frameCase_newer {f : Frame} {s : State} {k : Ticket} (own : s.own f)
    (other : ∀ j, currentTicket s = some j → j.serial ≠ f.serial) (h : awaits s f.serial k) : frameCase f s = .newer k := by
  have none_ : (currentTicket s).filter (fun t => t.serial = f.serial) = none := by
    cases current : currentTicket s with
    | none => rfl
    | some j => rw [Option.filter_some, if_neg (by rw [decide_eq_true_iff]; exact other j current)]
  rw [frameCase_own own, none_]
  dsimp only
  rw [show matchWaiting f.serial s = some k from h]

/-- R78 lines 5 to 7: no ticket at the collator has the serial. -/
theorem frameCase_unmatched {f : Frame} {s : State} (own : s.own f)
    (h : ∀ x ∈ s.tix.table, x.state = .collating ∨ x.state = .waiting → x.serial ≠ f.serial) :
    frameCase f s = if lateSerial f.serial s then .late else .unknown := by
  have none_ : (currentTicket s).filter (fun t => t.serial = f.serial) = none := by
    cases current : currentTicket s with
    | none => rfl
    | some j =>
      rw [Option.filter_some, if_neg]
      rw [decide_eq_true_iff]
      rw [currentTicket] at current
      split at current
      · next c hc =>
        have stands := List.find?_some hc
        rw [← Option.some.inj current]
        exact h c (List.mem_of_find?_eq_some hc) (.inl (of_decide_eq_true stands))
      · have stands := List.find?_some current
        exact h j (List.mem_of_find?_eq_some current) (.inr (of_decide_eq_true stands))
  have unmatched : matchWaiting f.serial s = none := by
    rw [matchWaiting, List.find?_eq_none]
    intro x hx
    rw [decide_eq_true_iff]
    rintro ⟨waiting, serial⟩
    exact h x hx (.inr waiting) serial
  rw [frameCase_own own, none_, unmatched]

theorem lateSerial_iff (serial : Serial) (s : State) : lateSerial serial s = true ↔
    (∃ x ∈ s.tix.table, x.serial = serial ∧ (x.state = .closed ∨ x.state = .disposing ∨ x.state = .disposed)) ∨
      serial ∈ s.tix.retired := by
  rw [lateSerial, Bool.or_eq_true, List.any_eq_true, List.contains_iff_mem]
  simp only [decide_eq_true_eq]

/-- R81: where no piece is in progress, an awaited serial's ticket is the current one, with none WAITING before it, or a
newer one. -/
theorem frameCase_awaited {f : Frame} {s : State} {k : Ticket} (own : s.own f) (idle : collating s = none)
    (h : awaits s f.serial k) : frameCase f s = .current k ∧ passedBefore k s = [] ∨ frameCase f s = .newer k := by
  have current : currentTicket s = s.tix.table.find? fun t => t.state = .waiting := by rw [currentTicket, idle]
  by_cases first : ∃ j, currentTicket s = some j ∧ j.serial = f.serial
  · obtain ⟨j, hj, serial⟩ := first
    have found := hj
    rw [current, List.find?_eq_some_iff_append] at found
    obtain ⟨waiting, before, after, table, earlier⟩ := found
    have same : awaits s f.serial j := by
      rw [awaits, table, List.find?_append, List.find?_eq_none.mpr]
      · simp [of_decide_eq_true waiting, serial]
      · intro x hx
        have busy := earlier x hx
        rw [Bool.not_eq_true', decide_eq_false_iff_not] at busy
        rw [decide_eq_true_iff]
        exact fun both => busy both.1
    have e : j = k := Option.some.inj (same.symm.trans h)
    rw [← e]
    refine .inl ⟨frameCase_current own hj serial, ?_⟩
    rw [passedBefore, List.filter_eq_nil_iff, table]
    intro x hx
    have inBefore : x ∈ before := by
      rw [List.takeWhile_append] at hx
      split at hx
      · rw [List.takeWhile_cons] at hx
        simpa using hx
      · exact (List.takeWhile_sublist _).mem hx
    exact fun both => by
      have busy := earlier x inBefore
      rw [both] at busy
      cases busy
  · exact .inr (frameCase_newer own (fun j hj serial => first ⟨j, hj, serial⟩) h)

/-! ### What the decisions of an own frame do (R80 to R82) -/

theorem passes_self {s : State} {k : Ticket} (first : passedBefore k s = []) : passes s s k := by
  refine ⟨rfl, rfl, ?_, by rw [first, List.map_nil, List.append_nil]⟩
  rw [first]
  simp

/-- R65: a map of the table that keeps the ring indexes is looked up through. -/
theorem findTicket_map {t : List Ticket} {r : Index} {k : Ticket} {f : Ticket → Ticket} (hf : ∀ x, (f x).ring = x.ring)
    (h : findTicket r t = some k) : findTicket r (t.map f) = some (f k) := by
  have same : (fun x : Ticket => decide (x.ring = r)) ∘ f = fun x => decide (x.ring = r) := by
    funext x
    rw [Function.comp, hf]
  rw [findTicket, List.find?_map, same]
  exact congrArg (Option.map f) h

/-- R81: the ticket the others are passed over for stays as it is. -/
theorem passOver_findTicket {s : State} {k : Ticket} (h : findTicket k.ring s.tix.table = some k) :
    findTicket k.ring (passOver k.ring s).tix.table = some k := by
  obtain ⟨-, -, table, -⟩ := passOver_does k s
  rw [table, findTicket_map _ h, if_neg]
  · rw [List.mem_map]
    rintro ⟨x, hx, ring⟩
    have before := List.mem_takeWhile_imp (List.mem_of_mem_filter hx)
    rw [decide_eq_true_iff] at before
    exact before ring
  · intro x
    split <;> rfl

/-- R65, R77: a piece that is closed leaves the tickets of other ring indexes. -/
theorem closesPiece.findTicket {s u : State} {j k : Ticket} (h : closesPiece s u j) (other : k.ring ≠ j.ring)
    (hk : findTicket k.ring s.tix.table = some k) : findTicket k.ring u.tix.table = some k := by
  obtain ⟨-, -, table, -⟩ := h
  rw [table, findTicket_map _ hk, if_neg other]
  intro x
  split <;> rfl

theorem awaits.mem {s : State} {serial : Serial} {k : Ticket} (h : awaits s serial k) :
    k ∈ s.tix.table ∧ k.state = .waiting ∧ k.serial = serial := by
  have holds := List.find?_some h
  rw [decide_eq_true_iff] at holds
  exact ⟨List.mem_of_find?_eq_some h, holds⟩

/-- R81: an awaited serial, no piece being in progress. -/
theorem awaited_joins {s : State} {k : Ticket} {f : Frame} (a : Word) (apart : ringsApart s) (own : s.own f)
    (idle : ∀ x ∈ s.tix.table, x.state ≠ .collating) (h : awaits s f.serial k) : (decideFrame a f s).2 = true ∧
    ∃ u, passes s u k ∧ joinsTicket u (decideFrame a f s).1 k a (checkReasons k f) (f.index.toNat + 1) f.isLast := by
  have hk := findTicket_of_mem apart h.mem.1
  obtain ⟨current, first⟩ | newer := frameCase_awaited own (collating_of_boundary idle) h
  · rw [decideFrame, current]
    exact ⟨rfl, s, passes_self first, decideCurrent_does hk a f⟩
  · rw [decideFrame, newer]
    dsimp only
    rw [closeCollating_of_boundary idle]
    exact ⟨rfl, _, passOver_does k s, decideCurrent_does (passOver_findTicket hk) a f⟩

/-- R81: an awaited serial that closes the piece in progress. -/
theorem awaited_closes {s : State} {j k : Ticket} {f : Frame} (a : Word) (apart : ringsApart s) (own : s.own f)
    (piece : collates s j) (other : j.serial ≠ f.serial) (h : awaits s f.serial k) : (decideFrame a f s).2 = true ∧
    ∃ u v, closesPiece s u j ∧ passes u v k ∧
      joinsTicket v (decideFrame a f s).1 k a (checkReasons k f) (f.index.toNat + 1) f.isLast := by
  obtain ⟨mem, waiting, -⟩ := h.mem
  have hk := findTicket_of_mem apart mem
  have collatingJ := List.find?_some piece.1
  rw [decide_eq_true_iff] at collatingJ
  have rings : k.ring ≠ j.ring := by
    intro ring
    have hj := findTicket_of_mem apart (List.mem_of_find?_eq_some piece.1)
    rw [← ring, hk] at hj
    rw [Option.some.inj hj, collatingJ] at waiting
    cases waiting
  have closed := closePiece_does apart piece
  have newer : frameCase f s = .newer k := by
    refine frameCase_newer own (fun i hi => ?_) h
    rw [currentTicket_of_collating (collating_of_collates piece)] at hi
    rw [← Option.some.inj hi]
    exact other
  rw [decideFrame, newer]
  dsimp only
  rw [closeCollating_of_collates piece]
  exact ⟨rfl, _, _, closed, passOver_does k _, decideCurrent_does (passOver_findTicket (closed.findTicket rings hk)) a f⟩

/-- R82: an orphan, with or without a piece in progress. -/
theorem orphanSheet_does (a : Word) {s : State} (apart : ringsApart s) :
    (atBoundary s → joinsPurge s (orphanSheet a s) a) ∧
      ∀ k, collates s k → ∃ u, closesPiece s u k ∧ joinsPurge u (orphanSheet a s) a := by
  rw [orphanSheet]
  refine ⟨fun boundary => ?_, fun k piece => ?_⟩
  · rw [closeCollating_of_boundary boundary.1]
    exact joinPurge_does s a
  · rw [closeCollating_of_collates piece]
    exact ⟨_, closePiece_does apart piece, joinPurge_does _ a⟩

/-- R78, R82: an own frame that fits no ticket and is late, or for which no ticket can come. -/
theorem unmatched_orphans {s : State} {f : Frame} (a : Word) (own : s.own f)
    (unmatched : ∀ x ∈ s.tix.table, x.state = .collating ∨ x.state = .waiting → x.serial ≠ f.serial)
    (ended : (∃ x ∈ s.tix.table, x.serial = f.serial ∧
        (x.state = .closed ∨ x.state = .disposing ∨ x.state = .disposed)) ∨
      f.serial ∈ s.tix.retired ∨ 16 ≤ s.tix.table.length) :
    decideFrame a f s = (orphanSheet a s, true) ∧ keepsPending f s = false ∧ pendingMatch f s = none := by
  have which := frameCase_unmatched own unmatched
  by_cases late : lateSerial f.serial s = true
  · rw [if_pos late] at which
    rw [decideFrame, keepsPending, pendingMatch, which]
    exact ⟨rfl, rfl, rfl⟩
  · rw [if_neg late] at which
    have full : Config.tableCapacity ≤ s.tix.table.length := by
      rw [lateSerial_iff, not_or] at late
      obtain h | h | full := ended
      · exact absurd h late.1
      · exact absurd h late.2
      · exact full
    rw [decideFrame, keepsPending, pendingMatch, which]
    exact ⟨if_pos full, decide_eq_false (Nat.not_lt.mpr full), rfl⟩

/-- R83: an own frame of an unknown serial stalls the collator. -/
theorem unknown_stalls {s : State} {f : Frame} (a : Word) (own : s.own f)
    (unmatched : ∀ x ∈ s.tix.table, x.state = .collating ∨ x.state = .waiting → x.serial ≠ f.serial)
    (fresh : ∀ x ∈ s.tix.table, x.serial = f.serial → x.state ≠ .closed ∧ x.state ≠ .disposing ∧ x.state ≠ .disposed)
    (new : f.serial ∉ s.tix.retired) (room : s.tix.table.length < 16) :
    decideFrame a f s = (stallAt a f.serial s, false) ∧ keepsPending f s = true := by
  have notLate : lateSerial f.serial s = false := by
    rw [Bool.eq_false_iff, Ne, lateSerial_iff]
    rintro (⟨x, hx, serial, state⟩ | retired)
    · obtain ⟨closed, disposing, disposed⟩ := fresh x hx serial
      obtain e | e | e := state
      · exact closed e
      · exact disposing e
      · exact disposed e
    · exact new retired
  have which : frameCase f s = .unknown := by
    rw [frameCase_unmatched own unmatched, notLate]
    rfl
  rw [decideFrame, keepsPending, which]
  exact ⟨if_neg (Nat.not_le.mpr room), decide_eq_true room⟩

theorem stallAt_does (a : Word) (x : Serial) (s : State) : (stallAt a x s).trk = s.trk ∧ (stallAt a x s).tix = s.tix ∧
    (stallAt a x s).seq = s.seq ∧ (stallAt a x s).col = { s.col with stall := some x } := by
  rw [stallAt]
  split
  · next told => exact ⟨rfl, rfl, rfl, by rw [← told]⟩
  · rw [offer_only]
    exact ⟨rfl, rfl, rfl, rfl⟩

/-! ### The pending sheet (R86) -/

/-- R86: the pending sheet becomes index 0 of a ticket. -/
theorem pendingJoins_does {s : State} {k : Ticket} (hk : findTicket k.ring s.tix.table = some k) (p : Word) :
    joinsTicket (passOver k.ring s) (pendingJoins k p s) k p Reason.unread.bit 1 false := by
  intro o q fresh ends full ho he hf
  obtain ⟨queue, table, waiting, col⟩ := joinTicket_does (passOver_findTicket hk) p false ho he hf
  refine ⟨?_, ?_, ?_, ?_, ?_⟩
  · simpa [pendingJoins, State.editTicket] using queue
  · simp only [pendingJoins, addTicketReason_tix, State.editTicket, table, List.map_map]
    refine List.map_congr_left fun x hx => ?_
    simp only [Function.comp]
    by_cases ring : x.ring = k.ring
    · simp only [ring, if_true]
      congr 1
      rw [BitVec.or_assoc, BitVec.or_assoc, BitVec.or_comm (if full = true then _ else _)]
    · simp [ring]
  · simpa [pendingJoins, State.editTicket] using waiting
  · simp [pendingJoins, State.editTicket, col]
  · simp [pendingJoins, State.editTicket, col]

/-! ### What the decisions leave of the collator's registers -/

/-- The collator's cursor, its pending sheet and the runout it has noted. -/
def Collator.held (c : Collator) : Option Word × Option Word × Bool := (c.cursor, c.pendingRead, c.runoutNoted)

theorem endPurgeSet_held (s : State) : (endPurgeSet s).col.held = s.col.held := by
  rw [endPurgeSet]
  split
  · split
    · rw [forgetOpen, (endSetAt_does _ s).2.1]
      rfl
    · rfl
  · rfl

theorem endTicketSet_held (ring : Index) (s : State) : (endTicketSet ring s).col.held = s.col.held := by
  rw [endTicketSet]
  split
  · split
    · rw [forgetOpen, (endSetAt_does _ s).2.1]
      rfl
    · rfl
  · rfl

theorem disposeIfFinal_col (ring : Index) (s : State) : (disposeIfFinal ring s).col = s.col := by
  obtain e | ⟨o, t, e⟩ := disposeIfFinal_cases ring s <;> rw [e]
  rfl

theorem closeCollating_held (s : State) : (closeCollating s).col.held = s.col.held := by
  rw [closeCollating]
  split
  · rfl
  · rw [closePiece, disposeIfFinal_col]
    exact (endTicketSet_held _ _).trans (congrArg Collator.held (addTicketReason_col _ _ s))

theorem openFor_held (ring : Index) (s : State) : (openFor ring s).col.held = s.col.held := by
  rw [openFor]
  split
  · rfl
  · exact endPurgeSet_held s

theorem joinTicket_held (ring : Index) (a : Word) (last : Bool) (s : State) :
    (joinTicket ring a last s).col.held = s.col.held := by
  rw [joinTicket]
  dsimp only
  split
  · split
    · rw [addTicketReason_col, assign_col]
      exact openFor_held ring s
    · rw [assign_col]
      exact openFor_held ring s
  · exact openFor_held ring s

theorem openPurge_held (s : State) : (openPurge s).col.held = s.col.held := by
  rw [openPurge]
  split <;> rfl

theorem joinPurge_held (a : Word) (s : State) : (joinPurge a s).col.held = s.col.held := by
  rw [joinPurge]
  dsimp only
  split
  · exact openPurge_held s
  · rw [assign_col]
    exact openPurge_held s

theorem orphanSheet_held (a : Word) (s : State) : (orphanSheet a s).col.held = s.col.held :=
  (joinPurge_held a _).trans (closeCollating_held s)

theorem decideCurrent_held (t : Ticket) (a : Word) (f : Frame) (s : State) :
    (decideCurrent t a f s).col.held = s.col.held :=
  (joinTicket_held _ _ _ _).trans (congrArg Collator.held (checkSheet_does t f s).2.1)

/-- R78: a frame decided leaves them. -/
theorem decideFrame_held (a : Word) (f : Frame) (s : State) : (decideFrame a f s).1.col.held = s.col.held := by
  rw [decideFrame]
  split
  · exact orphanSheet_held a s
  · dsimp only
    by_cases up : s.seq.startupComplete = true
    · by_cases line : s.seq.line = .fault
      · obtain ⟨r, e⟩ := takeFault_added .foreignSheet false (foreignDetail f) up line
        rw [e]
      · obtain ⟨r, e, -⟩ := takeFault_first .foreignSheet false (foreignDetail f) up line
        rw [e]
        rfl
    · rw [takeFault_early _ _ _ (Bool.eq_false_iff.mpr up)]
  · exact decideCurrent_held _ a f s
  · next t _ =>
    refine (decideCurrent_held _ a f _).trans ?_
    rw [(passOver_does t _).2.1]
    exact closeCollating_held s
  · exact orphanSheet_held a s
  · split
    · exact orphanSheet_held a s
    · exact (congrArg Collator.held (stallAt_does a _ s).2.2.2).trans rfl

/-! ### Joining a fresh set at a boundary -/

/-- R76: the join of a sheet that opens its ticket's set. -/
theorem joinsTicket.atFresh {u v : State} {k : Ticket} {a : Word} {why : BitVec 12} {expected : Nat} {last ends : Bool}
    (h : joinsTicket u v k a why expected last) (purge : ∀ p, u.col.openSet = some p → p.owner = .purge)
    (he : ends = true ↔ k.assigned + 1 = k.count ∨ k.assigned + 1 = 255 ∨ last = true) :
    v.tix.table = u.tix.table.map (fun x => if x.ring = k.ring then { x with
      assigned := k.assigned + 1, expected := expected, state := if ends = true then .closed else .collating
      setsIssued := x.setsIssued + 1, reasons := x.reasons ||| why ||| 0 } else x) := by
  obtain ⟨-, table, -⟩ := h { number := u.nextSetNumber, owner := .ticket k.ring, sheets := 0, lastSheet := 0 } (setEnded u)
    true ends false (.inr ⟨purge, rfl, rfl, rfl⟩) he (by simp)
  simpa using table

/-- R76: a join sees of the state it starts from the records, the open set, the set counter and the tickets. -/
theorem joinsTicket.of_same {u u' v : State} {k : Ticket} {a : Word} {why : BitVec 12} {expected : Nat} {last : Bool}
    (h : joinsTicket u' v k a why expected last) (queue : u'.trk.queue = u.trk.queue)
    (openSet : u'.col.openSet = u.col.openSet) (counter : u'.col.setCounter = u.col.setCounter)
    (table : u'.tix.table = u.tix.table) (waiting : u'.tix.waiting = u.tix.waiting) :
    joinsTicket u v k a why expected last := by
  have next : u'.nextSetNumber = u.nextSetNumber := by rw [State.nextSetNumber, State.nextSetNumber, counter]
  have ended : setEnded u' = setEnded u := by rw [setEnded, setEnded, openSet, queue]
  rw [joinsTicket] at h ⊢
  rwa [queue, openSet, counter, table, waiting, next, ended] at h

theorem find?_of_unique {α : Type} {l : List α} {p : α → Bool} {x : α} (mem : x ∈ l) (holds : p x = true)
    (unique : ∀ y ∈ l, p y = true → y = x) : l.find? p = some x := by
  cases found : l.find? p with
  | none => exact absurd holds (List.find?_eq_none.mp found x mem)
  | some y => rw [unique y (List.mem_of_find?_eq_some found) (List.find?_some found)]

/-! ### A pending sheet (R86) -/

/-- R86: what the pending sheet's purge join leaves for the frame behind it. -/
theorem pending_orphaned {s : State} {p : Word} {f : Frame} (pending : s.col.pendingRead = some p)
    (drops : keepsPending f s = false) (alone : pendingMatch f s = none) (boundary : atBoundary s) :
    ∃ u, decidePending f s = u ∧ joinsPurge s u p ∧ u.tix = s.tix ∧ atBoundary u ∧ u.path = s.path ∧
      u.col.pendingRead = none := by
  refine ⟨joinPurge p (setPending none s), ?_, joinPurge_does (setPending none s) p, joinPurge_tix p _,
    (joinPurge_atBoundary (s := setPending none s) boundary p).2,
    congrArg OffDesk.path (joinPurge_desked p (setPending none s)).rest,
    (joinPurge_atBoundary (s := setPending none s) boundary p).1⟩
  rw [decidePending, pending]
  dsimp only
  rw [drops, alone]
  rfl

theorem State.own.of_path {f : Frame} {s u : State} (own : s.own f) (path : u.path = s.path) : u.own f := by
  refine ⟨own.1, ?_⟩
  rw [State.setup, path]
  exact own.2

/-- R86: an awaited ticket's frame judged for the pending sheet. -/
theorem pendingMatch_awaited {f : Frame} {s : State} {k : Ticket} (own : s.own f) (boundary : atBoundary s)
    (h : awaits s f.serial k) : keepsPending f s = false ∧
      pendingMatch f s = if f.index = 1 then some k else none := by
  rw [keepsPending, pendingMatch]
  obtain ⟨e, -⟩ | e := frameCase_awaited own (collating_of_boundary boundary.1) h <;> rw [e] <;>
    simp only [h.mem.2.1, and_true]

/-- R86: the pending sheet becomes index 0 of the awaited ticket. -/
theorem pending_joins {s : State} {p : Word} {f : Frame} {k : Ticket} (pending : s.col.pendingRead = some p)
    (apart : ringsApart s) (own : s.own f) (boundary : atBoundary s) (h : awaits s f.serial k) (one : f.index = 1) :
    ∃ u v, decidePending f s = v ∧ passes s u k ∧ joinsTicket u v k p Reason.unread.bit 1 false ∧ v.path = s.path ∧
      v.col.pendingRead = none ∧ ∀ q, u.col.openSet = some q → q.owner = .purge := by
  obtain ⟨drops, which⟩ := pendingMatch_awaited own boundary h
  rw [if_pos one] at which
  have hk := findTicket_of_mem apart h.mem.1
  have over' := passOver_does k s
  obtain ⟨queue', col', table', waiting'⟩ := passOver_does k (setPending none s)
  obtain ⟨queue, col, table, waiting⟩ := over'
  refine ⟨passOver k.ring s, pendingJoins k p (setPending none s), ?_, passOver_does k s, ?_,
    congrArg OffDesk.path ((setPending_desked none s).trans (pendingJoins_desked k p _)).rest, ?_, ?_⟩
  · rw [decidePending, pending]
    dsimp only
    rw [drops, which]
    rfl
  · refine (pendingJoins_does (s := setPending none s) hk p).of_same (queue'.trans queue.symm) ?_ ?_
      (table'.trans table.symm) (waiting'.trans waiting.symm)
    · rw [col', col]
      rfl
    · rw [col', col]
      rfl
  · have held : (pendingJoins k p (setPending none s)).col.held = (setPending none s).col.held := by
      rw [pendingJoins, addTicketReason_col]
      exact (joinTicket_held _ _ _ _).trans (congrArg Collator.held col')
    exact congrArg (fun x => x.2.1) held
  · rw [col]
    exact boundary.2

/-! ### The frame behind a pending sheet (R86) -/

/-- The table once the pending sheet has opened the set of the ticket `k`: what each of its tickets came from. -/
structure PendingSeated (s v : State) (k k' : Ticket) : Prop where
  found : findTicket k.ring v.tix.table = some k'
  mem : k' ∈ v.tix.table
  serial : k'.serial = k.serial
  ring : k'.ring = k.ring
  others : ∀ y ∈ v.tix.table, y = k' ∨ ∃ z ∈ s.tix.table, z.ring ≠ k.ring ∧ y.serial = z.serial ∧
    (y.state = z.state ∨ y.state = .disposing)

theorem pending_seated {s u v : State} {k : Ticket} {p : Word} {ends : Bool} (apart : ringsApart s) (mem : k ∈ s.tix.table)
    (over' : passes s u k) (joins : joinsTicket u v k p Reason.unread.bit 1 false)
    (purge : ∀ q, u.col.openSet = some q → q.owner = .purge)
    (he : ends = true ↔ k.assigned + 1 = k.count ∨ k.assigned + 1 = 255 ∨ false = true)
    (stays : findTicket k.ring u.tix.table = some k) :
    ∃ k', PendingSeated s v k k' ∧ k'.state = if ends = true then .closed else .collating := by
  have table := joins.atFresh purge he
  obtain ⟨-, -, passed, -⟩ := over'
  have found := findTicket_map (f := fun x : Ticket => if x.ring = k.ring then { x with
      assigned := k.assigned + 1, expected := 1, state := if ends = true then .closed else .collating
      setsIssued := x.setsIssued + 1, reasons := x.reasons ||| Reason.unread.bit ||| 0 } else x)
    (fun x => by split <;> rfl) stays
  rw [← table, if_pos rfl] at found
  refine ⟨_, ⟨found, List.mem_of_find?_eq_some found, rfl, rfl, fun y hy => ?_⟩, rfl⟩
  rw [table, passed, List.map_map] at hy
  obtain ⟨z, hz, rfl⟩ := List.mem_map.mp hy
  by_cases ring : z.ring = k.ring
  · left
    have same : z = k := by
      have hzk := findTicket_of_mem apart hz
      rw [ring, findTicket_of_mem apart mem] at hzk
      exact (Option.some.inj hzk).symm
    have unpassed : k.ring ∉ (passedBefore k s).map Ticket.ring := by
      rw [List.mem_map]
      rintro ⟨x, hx, e⟩
      have before := List.mem_takeWhile_imp (List.mem_of_mem_filter hx)
      rw [decide_eq_true_iff] at before
      exact before e
    rw [same, Function.comp, if_neg unpassed, if_pos rfl]
  · right
    refine ⟨z, hz, ring, ?_⟩
    rw [Function.comp]
    split
    · exact ⟨rfl, .inr rfl⟩
    · exact ⟨rfl, .inl rfl⟩

/-- R86, R80: a piece that goes on takes the record behind the pending sheet too. -/
theorem seated_joins {s v : State} {k k' : Ticket} {f : Frame} (a : Word) (seated : PendingSeated s v k k')
    (goes : k'.state = .collating) (idle : ∀ x ∈ s.tix.table, x.state ≠ .collating) (own : v.own f)
    (serial : k.serial = f.serial) (one : f.index = 1) : (decideFrame a f v).2 = true ∧
      joinsTicket v (decideFrame a f v).1 k' a (checkReasons k' f) 2 f.isLast := by
  have only : collating v = some k' := by
    refine find?_of_unique seated.mem (decide_eq_true goes) fun y hy holds => ?_
    obtain e | ⟨z, hz, -, -, e | e⟩ := seated.others y hy
    · exact e
    · rw [decide_eq_true_iff, e] at holds
      exact absurd holds (idle z hz)
    · rw [e] at holds
      cases holds
  have which := frameCase_current own (currentTicket_of_collating only) (seated.serial.trans serial)
  have joins := decideCurrent_does (s := v) (k := k') (by rw [seated.ring]; exact seated.found) a f
  rw [one] at joins
  rw [decideFrame, which]
  exact ⟨rfl, joins⟩

/-- R86: behind a pending sheet that completed its piece the record is an orphan. -/
theorem seated_orphans {s v : State} {k k' : Ticket} {f : Frame} (a : Word) (seated : PendingSeated s v k k')
    (ends : k'.state = .closed) (idle : ∀ x ∈ s.tix.table, x.state ≠ .collating) (own : v.own f)
    (serial : k.serial = f.serial) (alone : ∀ x ∈ s.tix.table, x.serial = f.serial → x = k) :
    (decideFrame a f v).2 = true ∧ joinsPurge v (decideFrame a f v).1 a := by
  have unmatched : ∀ x ∈ v.tix.table, x.state = .collating ∨ x.state = .waiting → x.serial ≠ f.serial := by
    intro y hy stands same
    obtain rfl | ⟨z, hz, ring, serial', -⟩ := seated.others y hy
    · rw [ends] at stands
      simp at stands
    · exact ring (congrArg Ticket.ring (alone z hz (serial'.symm.trans same)))
  obtain ⟨e, -⟩ := unmatched_orphans a own unmatched
    (.inl ⟨k', seated.mem, seated.serial.trans serial, .inl ends⟩)
  have none_ : ∀ x ∈ v.tix.table, x.state ≠ .collating := by
    intro y hy stands
    obtain rfl | ⟨z, hz, -, -, e | e⟩ := seated.others y hy
    · rw [ends] at stands
      cases stands
    · exact idle z hz (e.symm.trans stands)
    · rw [e] at stands
      cases stands
  rw [e, orphanSheet, closeCollating_of_boundary none_]
  exact ⟨rfl, joinPurge_does v a⟩

/-! ### One offered record (R78 to R87) -/

theorem decideSheet_ok {r : Sheet} {s : State} {f : Frame} (ok : r.result = .ok) (frame : r.frame = some f) :
    decideSheet r s = decideFrame r.anchor f (decidePending f s) := by
  rw [decideSheet, ok, frame]

theorem decideSheet_unread {r : Sheet} {s : State}
    (h : r.result = .noFrame ∨ r.result = .badCheck ∨ r.result = .smudge ∨ r.result = .format ∨ r.result = .conflict) :
    decideSheet r s = (decideUnread r.anchor s, true) := by
  rw [decideSheet]
  obtain e | e | e | e | e := h <;> rw [e]

/-- R84 to R86: an unread sheet. -/
theorem decideUnread_does {s : State} (a : Word) (apart : ringsApart s) :
    (∀ k, collates s k → joinsTicket s (decideUnread a s) k a Reason.unread.bit (min 255 (k.expected + 1)) false) ∧
    (atBoundary s → (decideUnread a s).col.pendingRead = some a ∧
      (s.col.pendingRead = none → decideUnread a s = { s with col := { s.col with pendingRead := some a } }) ∧
      (∀ p, s.col.pendingRead = some p → joinsPurge s (decideUnread a s) p)) := by
  refine ⟨fun k piece => ?_, fun boundary => ?_⟩
  · rw [decideUnread, collating_of_collates piece]
    exact unreadJoins_does (findTicket_of_mem apart (List.mem_of_find?_eq_some piece.1)) a apart
  · rw [decideUnread, collating_of_boundary boundary.1]
    dsimp only
    split
    · next p pending =>
      refine ⟨rfl, fun none_ => absurd (none_.symm.trans pending) nofun, fun q hq => ?_⟩
      rw [← Option.some.inj (pending.symm.trans hq)]
      exact joinPurge_does s p
    · next none_ => exact ⟨rfl, fun _ => rfl, fun q hq => absurd (none_.symm.trans hq) nofun⟩

theorem decidePending_none {f : Frame} {s : State} (none_ : s.col.pendingRead = none) : decidePending f s = s := by
  rw [decidePending, none_]

theorem decidePending_kept {f : Frame} {s : State} (keeps : keepsPending f s = true) : decidePending f s = s := by
  rw [decidePending]
  split
  · rfl
  · rw [keeps]
    rfl

theorem decideFrame_separator {f : Frame} {s : State} (a : Word) (tag : f.tag = 0) :
    decideFrame a f s = (orphanSheet a s, true) := by
  rw [decideFrame, frameCase_separator s tag]

/-- R78: a foreign tag. -/
theorem decideFrame_foreign {f : Frame} {s : State} (a : Word) (tag : f.tag ≠ 0) (other : f.tag.setWidth 32 ≠ s.setup 8) :
    decideFrame a f s = (takeFault .foreignSheet false (foreignDetail f) s, false) ∧ keepsPending f s = true := by
  rw [decideFrame, keepsPending, frameCase_foreign tag other]
  exact ⟨rfl, rfl⟩

/-- R86: an orphan behind a pending sheet that is an orphan too. -/
theorem pending_orphans_both {s : State} {p : Word} {f : Frame} (a : Word) (pending : s.col.pendingRead = some p)
    (boundary : atBoundary s) (drops : keepsPending f s = false) (alone : pendingMatch f s = none)
    (decides : ∀ u : State, u.tix = s.tix → u.path = s.path → decideFrame a f u = (orphanSheet a u, true)) :
    (decideFrame a f (decidePending f s)).2 = true ∧ (decideFrame a f (decidePending f s)).1.col.pendingRead = none ∧
      ∃ u, joinsPurge s u p ∧ joinsPurge u (decideFrame a f (decidePending f s)).1 a := by
  obtain ⟨u, e, joins, tix, boundaryU, path, cleared⟩ := pending_orphaned pending drops alone boundary
  have held := congrArg (fun x => x.2.1) (decideFrame_held a f u)
  rw [e]
  refine ⟨by rw [decides u tix path], held.trans cleared, u, joins, ?_⟩
  rw [decides u tix path, orphanSheet, closeCollating_of_boundary boundaryU.1]
  exact joinPurge_does u a

/-- R86, R81: an awaited frame behind a pending sheet that is not its index 0. -/
theorem pending_passed {s : State} {p : Word} {f : Frame} {k : Ticket} (a : Word) (pending : s.col.pendingRead = some p)
    (apart : ringsApart s) (own : s.own f) (boundary : atBoundary s) (h : awaits s f.serial k) (other : f.index ≠ 1) :
    (decideFrame a f (decidePending f s)).2 = true ∧ (decideFrame a f (decidePending f s)).1.col.pendingRead = none ∧
      ∃ u v, joinsPurge s u p ∧ passes u v k ∧
        joinsTicket v (decideFrame a f (decidePending f s)).1 k a (checkReasons k f) (f.index.toNat + 1) f.isLast := by
  obtain ⟨drops, which⟩ := pendingMatch_awaited own boundary h
  rw [if_neg other] at which
  obtain ⟨u, e, joins, tix, boundaryU, path, cleared⟩ := pending_orphaned pending drops which boundary
  have held := congrArg (fun x => x.2.1) (decideFrame_held a f u)
  rw [e]
  obtain ⟨goes, v, over', join⟩ := awaited_joins (s := u) (k := k) a (by rw [ringsApart, tix]; exact apart)
    (own.of_path path) boundaryU.1 (by rw [awaits, tix]; exact h)
  exact ⟨goes, held.trans cleared, u, v, joins, over', join⟩

/-- R86: an awaited frame of index 1 behind a pending sheet. -/
theorem pending_becomes {s : State} {p : Word} {f : Frame} {k : Ticket} (a : Word) (pending : s.col.pendingRead = some p)
    (apart : ringsApart s) (own : s.own f) (boundary : atBoundary s) (h : awaits s f.serial k) (one : f.index = 1) :
    (k.assigned + 1 ≠ k.count → k.assigned + 1 ≠ 255 →
      (decideFrame a f (decidePending f s)).2 = true ∧ (decideFrame a f (decidePending f s)).1.col.pendingRead = none ∧
        ∃ u v k', passes s u k ∧ joinsTicket u v k p Reason.unread.bit 1 false ∧
          findTicket k.ring v.tix.table = some k' ∧
          joinsTicket v (decideFrame a f (decidePending f s)).1 k' a (checkReasons k' f) 2 f.isLast) ∧
    (k.assigned + 1 = k.count ∨ k.assigned + 1 = 255 → (∀ x ∈ s.tix.table, x.serial = f.serial → x = k) →
      (decideFrame a f (decidePending f s)).2 = true ∧ (decideFrame a f (decidePending f s)).1.col.pendingRead = none ∧
        ∃ u v, passes s u k ∧ joinsTicket u v k p Reason.unread.bit 1 false ∧
          joinsPurge v (decideFrame a f (decidePending f s)).1 a) := by
  obtain ⟨u, v, e, over', joins, path, cleared, purge⟩ := pending_joins pending apart own boundary h one
  have held := congrArg (fun x => x.2.1) (decideFrame_held a f v)
  obtain ⟨mem, -, serial⟩ := h.mem
  have stays : findTicket k.ring u.tix.table = some k := by
    obtain ⟨-, -, table, -⟩ := over'
    obtain ⟨-, -, same, -⟩ := passOver_does k s
    rw [table, ← same]
    exact passOver_findTicket (findTicket_of_mem apart mem)
  rw [e]
  refine ⟨fun more room => ?_, fun last alone => ?_⟩
  · obtain ⟨k', seated, state⟩ := pending_seated (ends := false) apart mem over' joins purge
      (by simp [more, room]) stays
    obtain ⟨goes, join⟩ := seated_joins a seated state boundary.1 (own.of_path path) serial one
    exact ⟨goes, held.trans cleared, u, v, k', over', joins, seated.found, join⟩
  · obtain ⟨k', seated, state⟩ := pending_seated (ends := true) apart mem over' joins purge
      (by simpa using last) stays
    obtain ⟨goes, join⟩ := seated_orphans a seated state boundary.1 (own.of_path path) serial alone
    exact ⟨goes, held.trans cleared, u, v, over', joins, join⟩

/-! ### R78 to R87, as O54 states them -/

/-- R78: an OK frame, no sheet pending. -/
theorem decideSheet_own {s t : State} {r : Sheet} {go : Bool} {f : Frame} (apart : ringsApart s)
    (e : decideFrame r.anchor f (decidePending f s) = (t, go)) (own : s.own f) :
    (∀ k, s.col.pendingRead = none → collates s k → k.serial = f.serial →
          go = true ∧ joinsTicket s t k r.anchor (checkReasons k f) (f.index.toNat + 1) f.isLast) ∧
        (∀ k, s.col.pendingRead = none → awaits s f.serial k →
          (atBoundary s → go = true ∧ ∃ u, passes s u k ∧
            joinsTicket u t k r.anchor (checkReasons k f) (f.index.toNat + 1) f.isLast) ∧
          (∀ j, collates s j → j.serial ≠ f.serial → go = true ∧ ∃ u v, closesPiece s u j ∧ passes u v k ∧
            joinsTicket v t k r.anchor (checkReasons k f) (f.index.toNat + 1) f.isLast)) ∧
        ((∀ x ∈ s.tix.table, (x.state = .collating ∨ x.state = .waiting) → x.serial ≠ f.serial) →
          ((∃ x ∈ s.tix.table, x.serial = f.serial ∧
                (x.state = .closed ∨ x.state = .disposing ∨ x.state = .disposed)) ∨
              f.serial ∈ s.tix.retired ∨ 16 ≤ s.tix.table.length →
            s.col.pendingRead = none → go = true ∧
              (atBoundary s → joinsPurge s t r.anchor) ∧
              (∀ k, collates s k → ∃ u, closesPiece s u k ∧ joinsPurge u t r.anchor)) ∧
          ((∀ x ∈ s.tix.table, x.serial = f.serial →
                x.state ≠ .closed ∧ x.state ≠ .disposing ∧ x.state ≠ .disposed) →
              f.serial ∉ s.tix.retired → s.tix.table.length < 16 →
            go = false ∧ t.trk = s.trk ∧ t.tix = s.tix ∧ t.seq = s.seq ∧
              t.col = { s.col with stall := some f.serial })) := by
  refine ⟨fun k none_ piece serial => ?_, fun k none_ h => ⟨fun boundary => ?_, fun j piece other => ?_⟩,
    fun unmatched => ⟨fun ended none_ => ?_, fun fresh new room => ?_⟩⟩
  · rw [decidePending_none none_, decideFrame,
      frameCase_current own (currentTicket_of_collating (collating_of_collates piece)) serial] at e
    obtain ⟨rfl, rfl⟩ := Prod.mk.inj e
    exact ⟨rfl, decideCurrent_does (findTicket_of_mem apart (List.mem_of_find?_eq_some piece.1)) _ _⟩
  · have does := awaited_joins r.anchor apart own boundary.1 h
    rw [decidePending_none none_] at e
    rwa [e] at does
  · have does := awaited_closes r.anchor apart own piece other h
    rw [decidePending_none none_] at e
    rwa [e] at does
  · rw [decidePending_none none_, (unmatched_orphans r.anchor own unmatched ended).1] at e
    obtain ⟨rfl, rfl⟩ := Prod.mk.inj e
    exact ⟨rfl, orphanSheet_does r.anchor apart⟩
  · obtain ⟨stalls, keeps⟩ := unknown_stalls r.anchor own unmatched fresh new room
    rw [decidePending_kept keeps, stalls] at e
    obtain ⟨rfl, rfl⟩ := Prod.mk.inj e
    exact ⟨rfl, stallAt_does _ _ s⟩

/-- R78 to R87: one offered record. -/
theorem decideSheet_does {s t : State} {r : Sheet} {go : Bool} (apart : ringsApart s) (e : decideSheet r s = (t, go)) :
    (r.result = .leadIn → go = true ∧ joinsPurge s t r.anchor) ∧
    (r.result = .noFrame ∨ r.result = .badCheck ∨ r.result = .smudge ∨ r.result = .format ∨ r.result = .conflict →
      go = true ∧
      (∀ k, collates s k → joinsTicket s t k r.anchor Reason.unread.bit (min 255 (k.expected + 1)) false) ∧
      (atBoundary s → t.col.pendingRead = some r.anchor ∧
        (s.col.pendingRead = none → t = { s with col := { s.col with pendingRead := some r.anchor } }) ∧
        (∀ p, s.col.pendingRead = some p → joinsPurge s t p))) ∧
    (∀ f, r.result = .ok → r.frame = some f →
      (f.tag ≠ 0 → f.tag.setWidth 32 ≠ s.setup 8 → s.seq.startupComplete = true → s.seq.line ≠ .fault →
        go = false ∧ t.seq.line = .fault ∧ t.seq.firstFault = .foreignSheet ∧ t.trk.queue = s.trk.queue ∧
        t.tix = s.tix ∧ t.col = s.col) ∧
      (f.tag = 0 → s.col.pendingRead = none → go = true ∧
        (atBoundary s → joinsPurge s t r.anchor) ∧
        (∀ k, collates s k → ∃ u, closesPiece s u k ∧ joinsPurge u t r.anchor)) ∧
      (f.tag ≠ 0 → f.tag.setWidth 32 = s.setup 8 →
        (∀ k, s.col.pendingRead = none → collates s k → k.serial = f.serial →
          go = true ∧ joinsTicket s t k r.anchor (checkReasons k f) (f.index.toNat + 1) f.isLast) ∧
        (∀ k, s.col.pendingRead = none → awaits s f.serial k →
          (atBoundary s → go = true ∧ ∃ u, passes s u k ∧
            joinsTicket u t k r.anchor (checkReasons k f) (f.index.toNat + 1) f.isLast) ∧
          (∀ j, collates s j → j.serial ≠ f.serial → go = true ∧ ∃ u v, closesPiece s u j ∧ passes u v k ∧
            joinsTicket v t k r.anchor (checkReasons k f) (f.index.toNat + 1) f.isLast)) ∧
        ((∀ x ∈ s.tix.table, (x.state = .collating ∨ x.state = .waiting) → x.serial ≠ f.serial) →
          ((∃ x ∈ s.tix.table, x.serial = f.serial ∧
                (x.state = .closed ∨ x.state = .disposing ∨ x.state = .disposed)) ∨
              f.serial ∈ s.tix.retired ∨ 16 ≤ s.tix.table.length →
            s.col.pendingRead = none → go = true ∧
              (atBoundary s → joinsPurge s t r.anchor) ∧
              (∀ k, collates s k → ∃ u, closesPiece s u k ∧ joinsPurge u t r.anchor)) ∧
          ((∀ x ∈ s.tix.table, x.serial = f.serial →
                x.state ≠ .closed ∧ x.state ≠ .disposing ∧ x.state ≠ .disposed) →
              f.serial ∉ s.tix.retired → s.tix.table.length < 16 →
            go = false ∧ t.trk = s.trk ∧ t.tix = s.tix ∧ t.seq = s.seq ∧
              t.col = { s.col with stall := some f.serial }))) ∧
      (∀ p, s.col.pendingRead = some p → atBoundary s →
        (f.tag = 0 → go = true ∧ t.col.pendingRead = none ∧ ∃ u, joinsPurge s u p ∧ joinsPurge u t r.anchor) ∧
        (f.tag ≠ 0 → f.tag.setWidth 32 = s.setup 8 → (∀ x ∈ s.tix.table, x.state = .waiting → x.serial ≠ f.serial) →
          ((∃ x ∈ s.tix.table, x.serial = f.serial ∧
              (x.state = .closed ∨ x.state = .disposing ∨ x.state = .disposed)) ∨
            f.serial ∈ s.tix.retired ∨ 16 ≤ s.tix.table.length) →
          go = true ∧ t.col.pendingRead = none ∧ ∃ u, joinsPurge s u p ∧ joinsPurge u t r.anchor) ∧
        (∀ k, f.tag ≠ 0 → f.tag.setWidth 32 = s.setup 8 → awaits s f.serial k → f.index ≠ 1 →
          go = true ∧ t.col.pendingRead = none ∧ ∃ u v, joinsPurge s u p ∧ passes u v k ∧
            joinsTicket v t k r.anchor (checkReasons k f) (f.index.toNat + 1) f.isLast) ∧
        (∀ k, f.tag ≠ 0 → f.tag.setWidth 32 = s.setup 8 → awaits s f.serial k → f.index = 1 →
          k.assigned + 1 ≠ k.count → k.assigned + 1 ≠ 255 →
          go = true ∧ t.col.pendingRead = none ∧ ∃ u v k', passes s u k ∧
            joinsTicket u v k p Reason.unread.bit 1 false ∧ findTicket k.ring v.tix.table = some k' ∧
            joinsTicket v t k' r.anchor (checkReasons k' f) 2 f.isLast) ∧
        (∀ k, f.tag ≠ 0 → f.tag.setWidth 32 = s.setup 8 → awaits s f.serial k → f.index = 1 →
          k.assigned + 1 = k.count ∨ k.assigned + 1 = 255 →
          (∀ x ∈ s.tix.table, x.serial = f.serial → x = k) →
          go = true ∧ t.col.pendingRead = none ∧ ∃ u v, passes s u k ∧
            joinsTicket u v k p Reason.unread.bit 1 false ∧ joinsPurge v t r.anchor))) := by
  refine ⟨fun lead => ?_, fun unread => ?_, fun f ok frame => ?_⟩
  · rw [decideSheet, lead] at e
    obtain ⟨rfl, rfl⟩ := Prod.mk.inj e
    exact ⟨rfl, joinPurge_does s _⟩
  · rw [decideSheet_unread unread] at e
    obtain ⟨rfl, rfl⟩ := Prod.mk.inj e
    exact ⟨rfl, decideUnread_does r.anchor apart⟩
  rw [decideSheet_ok ok frame] at e
  refine ⟨fun tag other up line => ?_, fun tag none_ => ?_, fun tag same => decideSheet_own apart e ⟨tag, same⟩,
    fun p pending boundary => ⟨fun tag => ?_, fun tag same unmatched ended => ?_, fun k tag same h other => ?_,
      fun k tag same h one more room => ?_, fun k tag same h one last alone => ?_⟩⟩
  · obtain ⟨foreign, keeps⟩ := decideFrame_foreign r.anchor tag other
    rw [decidePending_kept keeps, foreign] at e
    obtain ⟨rfl, rfl⟩ := Prod.mk.inj e
    obtain ⟨rep, first, -⟩ := takeFault_first .foreignSheet false (foreignDetail f) up line
    rw [first]
    exact ⟨rfl, rfl, rfl, rfl, rfl, rfl⟩
  · rw [decidePending_none none_, decideFrame_separator r.anchor tag] at e
    obtain ⟨rfl, rfl⟩ := Prod.mk.inj e
    exact ⟨rfl, orphanSheet_does r.anchor apart⟩
  · have does := pending_orphans_both r.anchor pending boundary
      (by rw [keepsPending, frameCase_separator s tag]) (by rw [pendingMatch, frameCase_separator s tag])
      fun u _ _ => decideFrame_separator r.anchor tag
    rwa [e] at does
  · have busy : ∀ x ∈ s.tix.table, x.state = .collating ∨ x.state = .waiting → x.serial ≠ f.serial := fun x hx stands =>
      stands.elim (fun c => absurd c (boundary.1 x hx)) (unmatched x hx)
    obtain ⟨-, drops, alone⟩ := unmatched_orphans r.anchor ⟨tag, same⟩ busy ended
    have does := pending_orphans_both r.anchor pending boundary drops alone fun u tix path =>
      (unmatched_orphans r.anchor (State.own.of_path ⟨tag, same⟩ path) (by rw [tix]; exact busy) (by rw [tix]; exact ended)).1
    rwa [e] at does
  · have does := pending_passed r.anchor pending apart ⟨tag, same⟩ boundary h other
    rwa [e] at does
  · have does := (pending_becomes r.anchor pending apart ⟨tag, same⟩ boundary h one).1 more room
    rwa [e] at does
  · have does := (pending_becomes r.anchor pending apart ⟨tag, same⟩ boundary h one).2 last alone
    rwa [e] at does

/-! ### The cursor (R75, R92) -/

/-- The collator's cursor and the runout it has noted. -/
def Collator.place (c : Collator) : Option Word × Bool := (c.cursor, c.runoutNoted)

theorem Collator.place_of_held {c d : Collator} (h : c.held = d.held) : c.place = d.place :=
  congrArg (fun x => (x.1, x.2.2)) h

theorem pendingJoins_held (t : Ticket) (p : Word) (s : State) : (pendingJoins t p s).col.held = s.col.held := by
  rw [pendingJoins, addTicketReason_col]
  exact (joinTicket_held _ _ _ _).trans (congrArg Collator.held (passOver_does t s).2.1)

theorem decidePending_place (f : Frame) (s : State) : (decidePending f s).col.place = s.col.place := by
  rw [decidePending]
  split
  · rfl
  · split
    · rfl
    · split
      · exact (Collator.place_of_held (pendingJoins_held _ _ _)).trans rfl
      · exact (Collator.place_of_held (joinPurge_held _ _)).trans rfl

theorem decideUnread_place (a : Word) (s : State) : (decideUnread a s).col.place = s.col.place := by
  rw [decideUnread]
  split
  · rw [unreadJoins, addTicketReason_col]
    exact Collator.place_of_held (joinTicket_held _ _ _ s)
  · split
    · exact Collator.place_of_held (d := s.col) (joinPurge_held _ s) ▸ rfl
    · rfl

/-- R75: a decision leaves the cursor where it stands. -/
theorem decideSheet_place (r : Sheet) (s : State) : (decideSheet r s).1.col.place = s.col.place := by
  rw [decideSheet]
  split
  · exact Collator.place_of_held (joinPurge_held _ s)
  · next f _ _ => exact (Collator.place_of_held (decideFrame_held _ f _)).trans (decidePending_place f s)
  · exact decideUnread_place _ s

theorem advanceCursor_eq (a : Word) (s : State) : ∃ rep, advanceCursor a s = { s with
    col := { s.col with
      cursor := (match sheetsAfter a s.trk.queue with
        | r :: _ => if r.stage = .readDone then some r.anchor else none
        | [] => none)
      stall := none }
    rep := rep } := ⟨_, rfl⟩

theorem advanceCursor_done {a : Word} {s : State} (h : ∀ x, (sheetsAfter a s.trk.queue).head? = some x → x.stage ≠ .readDone) :
    ∃ rep, advanceCursor a s = { s with col := { s.col with cursor := none, stall := none }, rep := rep } := by
  obtain ⟨rep, e⟩ := advanceCursor_eq a s
  refine ⟨rep, e.trans ?_⟩
  cases after : sheetsAfter a s.trk.queue with
  | nil => rfl
  | cons x l =>
    dsimp only
    rw [if_neg (h x (by rw [after]; rfl))]

theorem advanceCursor_next {a : Word} {s : State} {x : Sheet} (head : (sheetsAfter a s.trk.queue).head? = some x)
    (done : x.stage = .readDone) :
    ∃ rep, advanceCursor a s = { s with col := { s.col with cursor := some x.anchor, stall := none }, rep := rep } := by
  obtain ⟨rep, e⟩ := advanceCursor_eq a s
  refine ⟨rep, e.trans ?_⟩
  cases after : sheetsAfter a s.trk.queue with
  | nil => rw [after] at head; cases head
  | cons y l =>
    rw [after] at head
    obtain rfl := Option.some.inj head
    dsimp only
    rw [if_pos done]

theorem collateFor_none (n : Nat) {s : State} (none_ : s.col.cursor = none) : collateFor n s = s := by
  cases n with
  | zero => rfl
  | succ n =>
    rw [collateFor, none_]
    split <;> rfl

/-- R75: one record decided. -/
theorem collateFor_decides {n : Nat} {s t : State} {r : Sheet} {go : Bool} (acts : collatorActs s.seq.line = true)
    (cursor : s.col.cursor = some r.anchor) (found : findSheet r.anchor s.trk.queue = some r)
    (e : decideSheet r s = (t, go)) :
    collateFor (n + 1) s = if go = true then collateFor n (advanceCursor r.anchor t) else t := by
  rw [collateFor, acts, cursor, Option.bind_some, found]
  simp only [e, Bool.not_true, Bool.false_eq_true, if_false]

/-! ### The collator's way through the records -/

theorem sheetsAfter_map (a : Word) {q : List Sheet} {f : Sheet → Sheet} (hf : ∀ r ∈ q, (f r).anchor = r.anchor) :
    sheetsAfter a (q.map f) = (sheetsAfter a q).map f := by
  have dropped : (q.map f).dropWhile (fun r => decide (r.anchor ≠ a)) = (q.dropWhile fun r => decide (r.anchor ≠ a)).map f := by
    induction q with
    | nil => rfl
    | cons r q ih =>
      rw [List.map_cons, List.dropWhile_cons, List.dropWhile_cons, hf r List.mem_cons_self]
      split
      · exact ih fun r hr => hf r (List.mem_cons_of_mem _ hr)
      · rfl
  rw [sheetsAfter, sheetsAfter, dropped, List.map_drop]

/-- R40: behind the record that follows one stand those that follow both. -/
theorem sheetsAfter_next {a : Word} {q l : List Sheet} {x : Sheet} (distinct : (q.map Sheet.anchor).Nodup)
    (after : sheetsAfter a q = x :: l) : sheetsAfter x.anchor q = l := by
  induction q with
  | nil => cases after
  | cons r q ih =>
    rw [List.map_cons, List.nodup_cons] at distinct
    obtain ⟨fresh, distinct⟩ := distinct
    have behind (h : x ∈ q) : sheetsAfter x.anchor (r :: q) = sheetsAfter x.anchor q := by
      have other : r.anchor ≠ x.anchor := fun e => fresh (e ▸ List.mem_map_of_mem h)
      rw [sheetsAfter, sheetsAfter, List.dropWhile_cons, if_pos (decide_eq_true other)]
    by_cases here : r.anchor = a
    · have rest : q = x :: l := by
        rw [sheetsAfter, List.dropWhile_cons, if_neg (by simp [here])] at after
        exact after
      rw [behind (by rw [rest]; exact List.mem_cons_self), rest, sheetsAfter, List.dropWhile_cons, if_neg (by simp)]
      rfl
    · have further : sheetsAfter a q = x :: l := by
        rw [sheetsAfter, List.dropWhile_cons, if_pos (decide_eq_true here)] at after
        exact after
      have inQ : x ∈ q := by
        have mem : x ∈ sheetsAfter a q := by rw [further]; exact List.mem_cons_self
        exact (List.dropWhile_sublist _).mem (List.mem_of_mem_drop mem)
      rw [behind inQ]
      exact ih distinct further

theorem sheetsAfter_length {a : Word} {q : List Sheet} (some_ : q ≠ []) : (sheetsAfter a q).length < q.length := by
  rw [sheetsAfter, List.length_drop]
  have shorter := (List.dropWhile_sublist (l := q) fun r => decide (r.anchor ≠ a)).length_le
  have positive := List.length_pos_iff.mpr some_
  omega

theorem Desked.anchors {s t : State} (h : Desked s t) : ∃ f : Sheet → Sheet, t.trk.queue = s.trk.queue.map f ∧
    ∀ r, (f r).anchor = r.anchor := by
  obtain ⟨f, e, hf⟩ := h.queue
  exact ⟨f, e, fun r => by rw [hf r]⟩

/-- R75: the collator's stops come before its fuel runs out. -/
theorem collateFor_fuel (n : Nat) : ∀ (m : Nat) (s : State) (a : Word), s.col.cursor = some a →
    (s.trk.queue.map Sheet.anchor).Nodup → (sheetsAfter a s.trk.queue).length < n →
    (sheetsAfter a s.trk.queue).length < m → collateFor n s = collateFor m s := by
  induction n with
  | zero => exact fun m s a _ _ less => absurd less (Nat.not_lt_zero _)
  | succ n ih =>
    intro m s a cursor distinct less less'
    obtain ⟨m, rfl⟩ : ∃ k, m = k + 1 := ⟨m - 1, by omega⟩
    cases acts : collatorActs s.seq.line with
    | false =>
      rw [collateFor, collateFor, acts]
      rfl
    | true =>
      cases found : findSheet a s.trk.queue with
      | none =>
        rw [collateFor, collateFor, cursor, Option.bind_some, found]
      | some r =>
        have anchor : r.anchor = a := by simpa using List.find?_some found
        subst anchor
        obtain ⟨t, go, e⟩ : ∃ t go, decideSheet r s = (t, go) := ⟨_, _, rfl⟩
        rw [collateFor_decides acts cursor found e, collateFor_decides acts cursor found e]
        cases go with
        | false => rfl
        | true =>
          rw [if_pos rfl, if_pos rfl]
          have desk : Desked s t := by
            have goes := (decideSheet_collated r (acts_not_fault acts)).2
            rw [e] at goes
            exact goes rfl
          obtain ⟨f, queue, hf⟩ := desk.anchors
          have after : sheetsAfter r.anchor t.trk.queue = (sheetsAfter r.anchor s.trk.queue).map f := by
            rw [queue, sheetsAfter_map _ fun x _ => hf x]
          have distinctT : (t.trk.queue.map Sheet.anchor).Nodup := by
            rw [queue, List.map_map, show Sheet.anchor ∘ f = Sheet.anchor from funext hf]
            exact distinct
          by_cases next : ∃ x, (sheetsAfter r.anchor t.trk.queue).head? = some x ∧ x.stage = .readDone
          · obtain ⟨x, head, done⟩ := next
            obtain ⟨rep, moves⟩ := advanceCursor_next head done
            obtain ⟨l, list⟩ : ∃ l, sheetsAfter r.anchor t.trk.queue = x :: l := by
              cases list : sheetsAfter r.anchor t.trk.queue with
              | nil => rw [list] at head; cases head
              | cons y l => rw [list] at head; exact ⟨l, by rw [Option.some.inj head]⟩
            have behind := sheetsAfter_next distinctT list
            have count : (sheetsAfter r.anchor s.trk.queue).length = l.length + 1 := by
              rw [← List.length_map (f := f), ← after, list, List.length_cons]
            rw [moves]
            exact ih m _ x.anchor rfl distinctT (by rw [show sheetsAfter x.anchor _ = l from behind]; omega)
              (by rw [show sheetsAfter x.anchor _ = l from behind]; omega)
          · obtain ⟨rep, stops⟩ := advanceCursor_done (a := r.anchor) (s := t) fun x head done => next ⟨x, head, done⟩
            rw [stops, collateFor_none n rfl, collateFor_none m rfl]

/-! ### The collator at work and at runout (R75, R88, R92) -/

theorem runoutClose_of_cursor {s : State} {a : Word} (cursor : s.col.cursor = some a) : runoutClose s = s := by
  rw [runoutClose, cursor]
  simp

theorem runoutClose_of_not {s : State} (none_ : s.col.runoutNoted = false) : runoutClose s = s := by
  rw [runoutClose, none_]
  rfl

theorem collatorActs_of {s : State} (line : s.seq.line.running = true ∨ s.seq.line = .register) :
    collatorActs s.seq.line = true := by
  rw [collatorActs]
  obtain running | register := line
  · rw [running]
    rfl
  · rw [register]
    rfl

/-- R75, R92: the cursor with one decision. -/
theorem collate_does {s t : State} {r : Sheet} {go : Bool} (cursor : s.col.cursor = some r.anchor)
    (found : findSheet r.anchor s.trk.queue = some r) (e : decideSheet r s = (t, go)) :
    (s.seq.line.running = true ∨ s.seq.line = .register → go = false → collate s = t) ∧
    (s.seq.line.running = true ∨ s.seq.line = .register → go = true →
      (∀ x, (sheetsAfter r.anchor t.trk.queue).head? = some x → x.stage ≠ .readDone) →
      (s.col.runoutNoted = false → (collate s).trk = t.trk ∧ (collate s).tix = t.tix ∧
        (collate s).col = { t.col with cursor := none, stall := none }) ∧
      (s.col.runoutNoted = true → ∃ u, collate s = noteRunout u ∧ u.trk = t.trk ∧ u.tix = t.tix ∧ u.seq = t.seq ∧
        u.col = { t.col with cursor := none, stall := none })) ∧
    (∀ x, s.seq.line.running = true ∨ s.seq.line = .register → go = true →
      (sheetsAfter r.anchor t.trk.queue).head? = some x → x.stage = .readDone →
      (s.trk.queue.map Sheet.anchor).Nodup →
      ∃ u, collate s = collate u ∧ u.trk = t.trk ∧ u.tix = t.tix ∧ u.seq = t.seq ∧
        u.col = { t.col with cursor := some x.anchor, stall := none }) ∧
    (s.seq.line = .fault → collate s = s) := by
  have place : t.col.place = s.col.place := by
    rw [← decideSheet_place r s, e]
  have noted : t.col.runoutNoted = s.col.runoutNoted := congrArg Prod.snd place
  have decided (line : s.seq.line.running = true ∨ s.seq.line = .register) : collate s =
      runoutClose (if go = true then collateFor s.trk.queue.length (advanceCursor r.anchor t) else t) := by
    rw [collate, collateFor_decides (collatorActs_of line) cursor found e]
  refine ⟨fun line stops => ?_, fun line goes last => ?_, fun x line goes head done distinct => ?_, fun fault => ?_⟩
  · rw [decided line, stops, if_neg Bool.false_ne_true]
    exact runoutClose_of_cursor ((congrArg Prod.fst place).trans cursor)
  · obtain ⟨rep, moves⟩ := advanceCursor_done last
    rw [decided line, goes, if_pos rfl, moves, collateFor_none _ rfl]
    refine ⟨fun free => ?_, fun told =>
      ⟨{ t with col := { t.col with cursor := none, stall := none }, rep := rep }, ?_, rfl, rfl, rfl, rfl⟩⟩
    · rw [runoutClose_of_not (by exact noted.trans free)]
      exact ⟨rfl, rfl, rfl⟩
    · rw [noteRunout]
      congr 1
      rw [← told, ← noted]
  · have acts := collatorActs_of line
    have desk : Desked s t := by
      have goes' := (decideSheet_collated r (acts_not_fault acts)).2
      rw [e] at goes'
      exact goes' goes
    obtain ⟨f, queue, hf⟩ := desk.anchors
    have distinctT : (t.trk.queue.map Sheet.anchor).Nodup := by
      rw [queue, List.map_map, show Sheet.anchor ∘ f = Sheet.anchor from funext hf]
      exact distinct
    have length : t.trk.queue.length = s.trk.queue.length := by rw [queue, List.length_map]
    have some_ : t.trk.queue ≠ [] := by
      intro none_
      rw [none_] at length
      rw [List.eq_nil_of_length_eq_zero length.symm] at found
      cases found
    have fuel := sheetsAfter_length (a := x.anchor) some_
    obtain ⟨rep, moves⟩ := advanceCursor_next head done
    refine ⟨{ t with col := { t.col with cursor := some x.anchor, stall := none }, rep := rep }, ?_, rfl, rfl, rfl, rfl⟩
    rw [decided line, goes, if_pos rfl, moves, collate]
    congr 1
    exact collateFor_fuel _ _ _ x.anchor rfl distinctT (length ▸ fuel) (Nat.lt_succ_of_lt fuel)
  · have rests (n : Nat) : collateFor n s = s := by
      cases n with
      | zero => rfl
      | succ n =>
        rw [collateFor, fault]
        rfl
    rw [collate, rests, runoutClose_fault fault]

/-- R88: the runout noted. -/
theorem noteRunout_does {s t : State} (apart : ringsApart s) (running : s.seq.line.running = true) (ht : t = noteRunout s) :
    t.col.runoutNoted = true ∧
    (s.col.cursor ≠ none → t = { s with col := { s.col with runoutNoted := true } }) ∧
    (s.col.cursor = none → s.col.pendingRead = none → atBoundary s →
      t.trk.queue = setEnded s ∧ t.col.openSet = none ∧ t.tix = s.tix) ∧
    (∀ p, s.col.cursor = none → s.col.pendingRead = some p → atBoundary s → ∃ u, joinsPurge s u p ∧
      t.trk.queue = setEnded u ∧ t.col.openSet = none ∧ t.col.pendingRead = none ∧ t.tix = s.tix) ∧
    (∀ k, s.col.cursor = none → s.col.pendingRead = none → collates s k → ∃ u, closesPiece s u k ∧
      t.trk.queue = u.trk.queue ∧ t.col.openSet = none ∧ t.tix.table = u.tix.table ∧ t.tix.waiting = u.tix.waiting) := by
  obtain ⟨v, hv⟩ : ∃ v : State, v = { s with col := { s.col with runoutNoted := true } } := ⟨_, rfl⟩
  have e : t = runoutClose v := by rw [ht, hv, noteRunout]
  have acts : collatorActs v.seq.line = true := by
    rw [hv]
    exact collatorActs_of (.inl running)
  have closes (none_ : s.col.cursor = none) : t = endPurgeSet (closeCollating (orphanPending v)) := by
    rw [e, runoutClose, acts, show v.col.cursor = none by rw [hv]; exact none_, show v.col.runoutNoted = true by rw [hv]]
    rfl
  have unpending (none_ : s.col.pendingRead = none) : orphanPending v = v := by
    rw [orphanPending, show v.col.pendingRead = none by rw [hv]; exact none_]
  refine ⟨?_, fun some_ => ?_, fun none_ clear boundary => ?_, fun p none_ pending boundary => ?_,
    fun k none_ clear piece => ?_⟩
  · have told : v.col.place.2 = true := by rw [hv]; rfl
    have kept : (runoutClose v).col.place.2 = v.col.place.2 := by
      rw [runoutClose]
      split
      · have pend : (orphanPending v).col.place = v.col.place := by
          rw [orphanPending]
          split
          · rfl
          · exact (Collator.place_of_held (joinPurge_held _ _)).trans rfl
        rw [Collator.place_of_held ((endPurgeSet_held _).trans (closeCollating_held _)), pend]
      · rfl
    rw [e]
    exact kept.trans told
  · obtain ⟨a, cursor⟩ := Option.ne_none_iff_exists'.mp some_
    rw [e, runoutClose_of_cursor (a := a) (by rw [hv]; exact cursor), hv]
  · have boundaryV : atBoundary v := by rw [hv]; exact boundary
    obtain ⟨queue, col, tix⟩ := endPurgeSet_does boundaryV.2
    rw [closes none_, unpending clear, closeCollating_of_boundary boundaryV.1, queue, col, tix, hv]
    exact ⟨rfl, rfl, rfl⟩
  · have pendingV : v.col.pendingRead = some p := by rw [hv]; exact pending
    obtain ⟨u, hu⟩ : ∃ u, u = joinPurge p (setPending none v) := ⟨_, rfl⟩
    have joins := joinPurge_does (setPending none v) p
    obtain ⟨cleared, boundaryU⟩ := joinPurge_atBoundary (s := setPending none v) (by rw [hv]; exact boundary) p
    have tixU := joinPurge_tix p (setPending none v)
    rw [← hu] at joins cleared boundaryU tixU
    have orphaned : orphanPending v = u := by rw [orphanPending, pendingV, hu]
    obtain ⟨queue, col, tix⟩ := endPurgeSet_does boundaryU.2
    refine ⟨u, by rw [hv] at joins; exact joins, ?_⟩
    rw [closes none_, orphaned, closeCollating_of_boundary boundaryU.1, queue, col, tix, tixU, hv]
    exact ⟨rfl, rfl, cleared, rfl⟩
  · have pieceV : collates v k := by rw [hv]; exact piece
    have closed := closePiece_does (s := v) (by rw [hv]; exact apart) pieceV
    obtain ⟨queue, col, table, waiting⟩ := closed
    obtain ⟨queueU, colU, tableU, waitingU⟩ := closePiece_does apart piece
    have openNone : (closePiece k.ring v).col.openSet = none := by rw [col]
    have ended : endPurgeSet (closePiece k.ring v) = closePiece k.ring v := by rw [endPurgeSet, openNone]
    have whole : t = closePiece k.ring v := by
      rw [closes none_, unpending clear, closeCollating_of_collates pieceV, ended]
    refine ⟨closePiece k.ring s, ⟨queueU, colU, tableU, waitingU⟩, ?_⟩
    rw [whole, queue, table, waiting, queueU, tableU, waitingU, openNone, hv]
    exact ⟨rfl, rfl, rfl, rfl⟩

/-! ### The data of a fetch (R66, R69, R70, R214) -/

theorem styleOf_isNone (w1 : Word) : (styleOf w1).isNone = true ↔ 4 ≤ (w1.extractLsb' 16 3).toNat := by
  rw [styleOf]
  generalize (w1.extractLsb' 16 3).toNat = n
  match n with
  | 0 | 1 | 2 | 3 => simp
  | n + 4 => simp

theorem classOf_isNone (w1 : Word) : (classOf w1).isNone = true ↔ w1.extractLsb' 20 2 = 3 := by
  rw [classOf]
  generalize w1.extractLsb' 20 2 = c
  revert c
  decide

theorem styleOf_limit {w1 : Word} (defined : (w1.extractLsb' 16 3).toNat < 4) :
    ((styleOf w1).getD .flat).limit = [14, 12, 10, 8].getD (w1.extractLsb' 16 3).toNat 0 := by
  rw [styleOf]
  generalize (w1.extractLsb' 16 3).toNat = n at defined
  match n with
  | 0 | 1 | 2 | 3 => rfl

/-- R69, R214: the fold style's two bits. -/
theorem styleOf_code {w1 : Word} (defined : (w1.extractLsb' 16 3).toNat < 4) :
    ((styleOf w1).getD .flat).code = w1.extractLsb' 16 2 := by
  have bits : w1.extractLsb' 16 2 = BitVec.ofNat 2 (w1.extractLsb' 16 3).toNat := by
    refine BitVec.eq_of_toNat_eq ?_
    rw [BitVec.extractLsb'_toNat, BitVec.extractLsb'_toNat, BitVec.toNat_ofNat]
    omega
  rw [bits, styleOf]
  generalize (w1.extractLsb' 16 3).toNat = n at defined
  match n with
  | 0 | 1 | 2 | 3 => rfl

theorem classOf_defined (w1 : Word) : (w1.extractLsb' 20 2 = 0 → (classOf w1).getD .normal = .normal) ∧
    (w1.extractLsb' 20 2 = 1 → (classOf w1).getD .normal = .sample) ∧
    (w1.extractLsb' 20 2 = 2 → (classOf w1).getD .normal = .pull) := by
  rw [classOf]
  refine ⟨fun c => ?_, fun c => ?_, fun c => ?_⟩ <;> rw [c] <;> rfl

/-- R70: the first check that fails, on the fields' bits. -/
theorem validate_eq (w0 w1 : Word) (s : State) : validate w0 w1 s =
    if w0.extractLsb' 24 8 ≠ 0x5C then some .marker
    else if w0.setWidth 24 = (0 : Serial) then some .serial
    else if (w1.extractLsb' 8 8).toNat = 0 ∨ 14 < (w1.extractLsb' 8 8).toNat then some .count
    else if 4 ≤ (w1.extractLsb' 16 3).toNat ∨ w1.extractLsb' 20 2 = 3 then some .code
    else if [14, 12, 10, 8].getD (w1.extractLsb' 16 3).toNat 0 < (w1.extractLsb' 8 8).toNat then some .styleLimit
    else if (w1.setWidth 8 : BitVec 8).setWidth 32 ≠ s.setup 8 then some .tag
    else if s.tix.table.any (fun x => decide (x.invalid = none ∧ x.serial = w0.setWidth 24)) = true then
      some .duplicate
    else none := by
  have duplicates : (fun x : Ticket => decide (x.invalid = none ∧ x.serial = w0.setWidth 24)) =
      fun x => x.invalid.isNone && decide (x.serial = serialOf w0) := by
    funext x
    rw [Bool.eq_iff_iff, decide_eq_true_iff, Bool.and_eq_true, Option.isNone_iff_eq_none, decide_eq_true_iff]
    rfl
  rw [validate, duplicates]
  simp only [styleOf_isNone, classOf_isNone]
  by_cases code : 4 ≤ (w1.extractLsb' 16 3).toNat ∨ w1.extractLsb' 20 2 = 3
  · rw [if_pos code, if_pos code]
    rfl
  · rw [if_neg code, if_neg code, styleOf_limit (Nat.lt_of_not_le fun undefined => code (.inl undefined))]
    rfl

/-- R66, R83: what a ticket's entry tells the rest of the line. -/
theorem afterEntry_enc (old : State) (k : Ticket) (one : Option Bool) (s : State) :
    (settleEnd old (ticketEntered (offerAmended k one (offerInvalid k s)))).enc = s.enc := by
  have invalid : (offerInvalid k s).enc = s.enc := by
    rw [offerInvalid]
    split
    · exact offer_enc _ s
    · rfl
  have amended : (offerAmended k one (offerInvalid k s)).enc = (offerInvalid k s).enc := by
    rw [offerAmended.eq_def]
    split
    · exact offer_enc _ _
    · rfl
  have entered (u : State) : (ticketEntered u).enc = u.enc := by
    rw [ticketEntered]
    split
    · exact (collate_collated u).enc
    · rfl
  rw [(settleEnd_nipped _ _).frame.enc, entered, amended, invalid]

theorem Keeps.outer {s t : State} (h : Keeps s t) : t.pins = s.pins ∧ t.tr.command = s.tr.command ∧
    sameBytes s t ∧ sameBus s t ∧ t.tix.fetch = s.tix.fetch ∧ t.tix.fetchIndex = s.tix.fetchIndex ∧
    t.tix.retireIndex = s.tix.retireIndex ∧ t.tix.table.map Ticket.fetched = s.tix.table.map Ticket.fetched := by
  have mem : t.mem = s.mem := congrArg Fixed.mem h.fixed
  exact ⟨congrArg Fixed.pins h.fixed, congrArg Fixed.command h.fixed, fun a => by rw [mem],
    ⟨congrArg Fixed.queue h.fixed, congrArg Fixed.arbiter h.fixed, congrArg Fixed.straps h.fixed,
      congrArg Fixed.written h.fixed, congrArg Fixed.startPos h.fixed, congrArg Fixed.port h.fixed,
      congrArg Fixed.pending h.fixed⟩,
    congrArg Fixed.fetch h.fixed, congrArg Fixed.fetchIndex h.fixed, congrArg Fixed.retireIndex h.fixed,
    congrArg Fixed.tickets h.fixed⟩

/-- R66: the fetch completes with a ticket that is not withdrawn. -/
theorem completeFetch_enters (w0 w1 : Word) {s : State} (published : s.publish ≠ s.tix.fetchIndex) :
    (completeFetch w0 w1 s).tix.fetch = .idle ∧ (completeFetch w0 w1 s).tix.fetchIndex = s.tix.fetchIndex + 1 ∧
    (completeFetch w0 w1 s).tix.retireIndex = s.tix.retireIndex ∧
    (completeFetch w0 w1 s).tix.table.map Ticket.fetched =
      s.tix.table.map Ticket.fetched ++ [(newTicket w0 w1 s).fetched] ∧
    (completeFetch w0 w1 s).pins = s.pins ∧ (completeFetch w0 w1 s).enc = s.enc ∧
    (completeFetch w0 w1 s).tr.command = s.tr.command ∧ sameBytes s (completeFetch w0 w1 s) ∧
    sameBus s (completeFetch w0 w1 s) := by
  obtain ⟨u, hu⟩ : ∃ u, u = enterTicket (newTicket w0 w1 s) (endFetch s) := ⟨_, rfl⟩
  have whole : completeFetch w0 w1 s = settleEnd s
      (ticketEntered (offerAmended (newTicket w0 w1 s) s.tix.fetchAmended (offerInvalid (newTicket w0 w1 s) u))) := by
    rw [completeFetch, if_neg published, hu]
  obtain ⟨pins, command, bytes, bus, fetch, fetchIndex, retireIndex, tickets⟩ :=
    (afterEntry_keeps s (newTicket w0 w1 s) s.tix.fetchAmended u).outer
  rw [whole, fetch, fetchIndex, retireIndex, tickets, pins, command, afterEntry_enc]
  rw [hu] at bytes bus ⊢
  exact ⟨rfl, rfl, rfl, List.map_append, rfl, rfl, rfl, bytes, bus⟩

/-- R66, R69, R70: the data of a fetch read returns. -/
theorem returnData_does {s t : State} {g : Gauge} (w0 w1 : Word) (ht : t = returnData (setGauge g s)) :
    t.pins = { s.pins with gauge := g } ∧
    (s.tix.fetch = .flight0 w0 →
      t = { s with pins := { s.pins with gauge := g }, tix := { s.tix with fetch := .due1 w0 } }) ∧
    (s.tix.fetch = .flight1 w0 w1 → s.publish = s.tix.fetchIndex →
      t = { s with
        pins := { s.pins with gauge := g }, tix := { s.tix with fetch := .idle, fetchAmended := none } }) ∧
    (s.tix.fetch = .flight1 w0 w1 → s.publish ≠ s.tix.fetchIndex →
      t.tix.fetch = .idle ∧ t.tix.fetchIndex = s.tix.fetchIndex + 1 ∧ t.tix.retireIndex = s.tix.retireIndex ∧
      t.tix.table.map Ticket.fetched = s.tix.table.map Ticket.fetched ++ [(newTicket w0 w1 s).fetched]) ∧
    t.enc = s.enc ∧ t.tr.command = s.tr.command ∧ sameBytes s t ∧ sameBus s t := by
  have bytes : sameBytes s (setGauge g s) := fun _ => rfl
  have bus : sameBus s (setGauge g s) := ⟨rfl, rfl, rfl, rfl, rfl, rfl, rfl⟩
  rw [returnData, show (setGauge g s).tix.fetch = s.tix.fetch from rfl] at ht
  cases flight : s.tix.fetch with
  | flight0 v =>
    rw [flight] at ht
    subst ht
    refine ⟨rfl, ?_, nofun, nofun, rfl, rfl, bytes, bus⟩
    rintro ⟨⟩
    rfl
  | flight1 v0 v1 =>
    rw [flight] at ht
    dsimp only at ht
    by_cases withdrawn : s.publish = s.tix.fetchIndex
    · rw [completeFetch, if_pos (show (setGauge g s).publish = (setGauge g s).tix.fetchIndex from withdrawn)] at ht
      subst ht
      exact ⟨rfl, nofun, fun _ _ => rfl, fun _ other => absurd withdrawn other, rfl, rfl, bytes, bus⟩
    · obtain ⟨fetch, fetchIndex, retireIndex, tickets, rest⟩ := completeFetch_enters v0 v1 (s := setGauge g s) withdrawn
      rw [← ht] at fetch fetchIndex retireIndex tickets rest
      obtain ⟨pins, outer⟩ := rest
      refine ⟨pins, nofun, fun _ published => absurd published withdrawn, ?_, outer⟩
      rintro ⟨⟩ -
      exact ⟨fetch, fetchIndex, retireIndex, tickets⟩
  | idle | due0 | due1 =>
    rw [flight] at ht
    subst ht
    exact ⟨rfl, nofun, nofun, nofun, rfl, rfl, bytes, bus⟩

/-- Settles O54: the fetch's data, the collator's decision of one record, its cursor, and the runout. -/
theorem fetchReturnEntersTicket : Obligations.FetchReturnEntersTicket := by
  unfold Obligations.FetchReturnEntersTicket
  refine ⟨fun s g w0 w1 => ?_, fun s t r go apart e => decideSheet_does apart e,
    fun s t r go cursor found e => collate_does cursor found e, fun s t apart running ht => noteRunout_does apart running ht⟩
  obtain ⟨pins, first, withdrawn, enters, enc, command, bytes, bus⟩ := returnData_does (s := s) (g := g) w0 w1 rfl
  refine ⟨returnData (setGauge g s), rfl, pins, first, withdrawn, fun flight published => ?_, enc, command, bytes, bus⟩
  obtain ⟨fetch, fetchIndex, retireIndex, tickets⟩ := enters flight published
  obtain ⟨normal, sample, pull⟩ := classOf_defined w1
  exact ⟨fetch, fetchIndex, retireIndex, newTicket w0 w1 s, tickets, rfl, rfl, rfl, rfl, styleOf_code, normal, sample,
    pull, validate_eq w0 w1 s⟩

end Sys2Proof.Machine
